-- ==== Sys2Proof/Word.lean ====
section
/-! DEFINITION. The words of the part: bytes of its lines, 16-bit fields, the four stations and ways, and the saturating sum. -/

namespace Sys2Proof

/-- A byte of the supervisory line, the tag reader line or the plant profile. -/
abbrev Byte := BitVec 8

/-- A two-byte field of a message, high byte first (section 4.2 of the scope). -/
abbrev Half := BitVec 16

/-- A rack id, 0..65535; 0 stands for a rack of unknown identity (Table 4). -/
abbrev RackId := BitVec 16

/-- A raw code of a rinse channel, 0..1023 (R33). -/
abbrev Code := BitVec 10

/-- A station, a spur or a way of a directory set. Station `i` is station number `i + 1`. -/
abbrev Quad := Fin 4

/-- The high byte of a two-byte field. -/
def hiByte (w : Half) : Byte := w.extractLsb' 8 8

/-- The low byte of a two-byte field. -/
def loByte (w : Half) : Byte := w.extractLsb' 0 8

/-- The two-byte field with the given high and low bytes. -/
def halfOf (h l : Byte) : Half := h ++ l

/-- A sum that stays at the limit when it would pass it (section 4.2, "saturates"). -/
def satAdd (limit a b : Nat) : Nat := min limit (a + b)

/-- Four like things, one for each station, spur or way. -/
structure Four (α : Type) where
  one : α
  two : α
  three : α
  four : α
  deriving DecidableEq, Repr

/-- The same value four times. -/
def Four.all {α : Type} (a : α) : Four α := ⟨a, a, a, a⟩

/-- The value of one of the four. -/
def Four.get {α : Type} (f : Four α) : Quad → α
  | 0 => f.one
  | 1 => f.two
  | 2 => f.three
  | 3 => f.four

/-- Replace the value of one of the four. -/
def Four.set {α : Type} (f : Four α) (i : Quad) (a : α) : Four α :=
  match i with
  | 0 => { f with one := a }
  | 1 => { f with two := a }
  | 2 => { f with three := a }
  | 3 => { f with four := a }

/-- The four, in rising order of number. -/
def Four.list {α : Type} (f : Four α) : List α := [f.one, f.two, f.three, f.four]

/-- The four numbers in rising order. -/
def quads : List Quad := [0, 1, 2, 3]

end Sys2Proof
end

