-- ==== Sys2Proof/Syntax.lean ====
section
/-! DEFINITION. The commands of the part: one constructor for each row of the opcode table, with its operands, and the
requests as the supervisory link holds them. -/

namespace Sys2Proof

/-- The class of ware a rack carries (Table 4). -/
inductive Kind where
  | unknown | plate | cup | cutlery | tray
  deriving DecidableEq, Repr

/-- The readings of the field inputs that have no row of their own in the opcode table, or that an action reads "as
they stand" (log entry 4). A command whose action reads one of them carries the readings at its moment. -/
structure Plant where
  /-- chain index sensor made (R15, R22) -/
  index : Bool
  /-- position-0 sensor made (R95, R98) -/
  position0 : Bool
  /-- exit eye blocked (R18, R19) -/
  exitEye : Bool
  /-- bay sensor of each station made (R73) -/
  bay : Four Bool
  /-- spur-head sensor of each station made (R76, R78) -/
  spurHead : Four Bool
  /-- what the profile sensor of each station gives (R76) -/
  profile : Four Kind
  deriving DecidableEq, Repr

/-- An entry of LOAD_STACK: an id and a kind code as received (R81). -/
structure LoadEntry where
  id : RackId
  kind : Byte
  deriving DecidableEq, Repr

/-- The two restart lines (R174). -/
inductive RestartLine where
  | cold | warm
  deriving DecidableEq, Repr

/-- A complete request as the link holds it: the requests of Table 41 with their fields, and the two kinds of frame
that are answered without reaching a block (R183). -/
inductive Request where
  | identify
  | linkStatus
  | setNotify (mask : Half)
  | restart (action : Byte)
  | run
  | halt
  | standby
  | clearFault
  | getTrack
  | purge
  | setProgramme (number present divisor : Byte) (required : Half) (limit allowed rewash : Byte)
  | getProgramme (number : Byte)
  | setKindMap (unknown plate cup cutlery tray : Byte)
  | getKindMap
  | setSanitation (aBase aSpan bBase bSpan floor : Half) (agree : Byte) (credit : Vector Half 16)
  | getSanitation
  | getRinse
  | getStation (station : Byte)
  | setStation (station mode mask : Byte)
  | loadStack (station count : Byte) (entries : List LoadEntry)
  | clearStack (station : Byte)
  | getMerge
  | forceProgramme (station number : Byte)
  | getReturn
  | releaseQuarantine (action : Byte)
  | getRecord (id : RackId)
  | putRecord (id : RackId) (kind : Byte) (washes : Half) (short : Byte) (last : Half)
  | dropRecord (id : RackId)
  | flushDirectory
  | getInterlocks
  | releaseInterlocks
  /-- a frame whose kind is absent from Table 41 (R183, check 2) -/
  | unknownKind (kind : Byte)
  /-- a frame whose payload length does not suit its kind (R183, check 3) -/
  | badLength (kind : Byte)
  deriving DecidableEq, Repr

/-- The commands of the part, one constructor for each row of the opcode table, in the table's order. -/
inductive Instr where
  | identify
  | linkStatus
  | setNotify (mask : Half)
  | restart (action : Byte)
  | run (p : Plant)
  | halt
  | standby
  | clearFault (p : Plant)
  | getTrack
  | purge
  | setProgramme (number present divisor : Byte) (required : Half) (limit allowed rewash : Byte)
  | getProgramme (number : Byte)
  | setKindMap (unknown plate cup cutlery tray : Byte)
  | getKindMap
  | setSanitation (aBase aSpan bBase bSpan floor : Half) (agree : Byte) (credit : Vector Half 16)
  | getSanitation
  | getRinse
  | getStation (station : Byte) (p : Plant)
  | setStation (station mode mask : Byte)
  | loadStack (station count : Byte) (entries : List LoadEntry)
  | clearStack (station : Byte)
  | getMerge (p : Plant)
  | forceProgramme (station number : Byte)
  | getReturn
  | releaseQuarantine (action : Byte)
  | getRecord (id : RackId)
  | putRecord (id : RackId) (kind : Byte) (washes : Half) (short : Byte) (last : Half)
  | dropRecord (id : RackId)
  | flushDirectory
  | getInterlocks
  | releaseInterlocks
  /-- `stopHigh`: the stop bit of the byte is high (R178) -/
  | supervisoryByteReceived (b : Byte) (stopHigh : Bool) (p : Plant)
  | receiveGapExpiry
  | transmitComplete (p : Plant)
  | tagByteReceived (b : Byte)
  | tagGapExpiry
  | powerOnReset
  | coldRestartLine
  | warmRestartLine
  | restartLineReleased (line : RestartLine)
  /-- the image of 64 bytes; a byte the memory does not answer reads 0xFF (R169) -/
  | profileReadComplete (image : List Byte)
  | endOfStartUp (p : Plant)
  | stepTimerExpiry
  | stepCompletion (p : Plant)
  | motionTimeout
  | extensionExpiry
  | idleTimerExpiry
  | recoveryTimerExpiry
  | recoveryLimitExpiry
  | estopChainChange (isOpen : Bool)
  | doorChainChange (isOpen : Bool)
  | rinseFlowChange (flow : Bool)
  | tankLevelChange (low : Bool)
  | sampleCycleExpiry
  | conversionAComplete (code : Code)
  | conversionBComplete (code : Code)
  | stackLift (n : Quad)
  | sendButton (n : Quad) (p : Plant)
  | spurFullTimerExpiry (n : Quad)
  | spurHeadMade (n : Quad) (p : Plant)
  | spurHeadClear (n : Quad)
  /-- the delivery at place `i` of station `n`'s delivery list -/
  | deliveryCompletion (n : Quad) (i : Nat)
  | transferCompletion (p : Plant)
  | transferTimeout
  | unloadButton
  /-- the record at place `i` of return transit, 0 the head -/
  | travelTimerExpiry (i : Nat)
  | spacingTimerExpiry
  /-- `made`: the sensor becomes made; otherwise it becomes clear (log entry 30) -/
  | routerArrivalSensor (made : Bool)
  | supplyBelowOperatingLevel
  deriving DecidableEq, Repr

end Sys2Proof
end

