-- ==== Sys2Proof/Decode.lean ====
section
/-! DEFINITION. Decoding: the opcode table gives its rows no bits, so `decodeTableWord` reads none; what the part does decode
is the payload of a request frame (Table 41), with its encoder, and the frame's check (R179). -/

namespace Sys2Proof

/-- The command a word spells by the opcode table's bits. No row of the table gives bits, so none. -/
def decodeTableWord (_nbits _w : Nat) : Option Instr := none

/-! ### The frame check (R179) -/

/-- The CRC after one more bit of the byte, which stands in the high byte: polynomial 0x1021 (R179). -/
def crcShift (c : BitVec 16) : BitVec 16 := if c.msb then (c <<< 1) ^^^ 0x1021#16 else c <<< 1

/-- The CRC after one more byte, most significant bit first (R179). -/
def crcByte (c : BitVec 16) (b : Byte) : BitVec 16 :=
  crcShift (crcShift (crcShift (crcShift (crcShift (crcShift (crcShift (crcShift (c ^^^ (b ++ 0#8)))))))))

/-- The CRC over the kind, the length and the payload, with the initial value 0xFFFF (R179). -/
def crc16 (bytes : List Byte) : BitVec 16 := bytes.foldl crcByte 0xFFFF#16

/-- A frame: lead, kind, length, payload and CRC (Table 43). -/
def frame (kind : Byte) (payload : List Byte) : List Byte :=
  let body := kind :: BitVec.ofNat 8 payload.length :: payload
  0x5A#8 :: body ++ [hiByte (crc16 body), loByte (crc16 body)]

/-! ### Request payloads (Table 41) -/

/-- A two-byte field of a payload, high byte first. -/
def halfAt (p : List Byte) (i : Nat) : Half := halfOf (p.getD i 0) (p.getD (i + 1) 0)

/-- A request without fields. -/
def fields0 (kind : Byte) (r : Request) : List Byte → Request
  | [] => r
  | _ => .badLength kind

/-- A request with a payload of one byte. -/
def fields1 (kind : Byte) (f : Byte → Request) : List Byte → Request
  | [a] => f a
  | _ => .badLength kind

/-- A request with a payload of two bytes. -/
def fields2 (kind : Byte) (f : Byte → Byte → Request) : List Byte → Request
  | [a, b] => f a b
  | _ => .badLength kind

/-- A request with a payload of three bytes. -/
def fields3 (kind : Byte) (f : Byte → Byte → Byte → Request) : List Byte → Request
  | [a, b, c] => f a b c
  | _ => .badLength kind

/-- A request with a payload of five bytes. -/
def fields5 (kind : Byte) (f : Byte → Byte → Byte → Byte → Byte → Request) : List Byte → Request
  | [a, b, c, d, e] => f a b c d e
  | _ => .badLength kind

/-- A request with a payload of eight bytes. -/
def fields8 (kind : Byte) (f : Byte → Byte → Byte → Byte → Byte → Byte → Byte → Byte → Request) :
    List Byte → Request
  | [a, b, c, d, e, g, h, i] => f a b c d e g h i
  | _ => .badLength kind

/-- The entries of LOAD_STACK, three bytes each (Table 41). -/
def loadEntries : List Byte → List LoadEntry
  | h :: l :: k :: rest => ⟨halfOf h l, k⟩ :: loadEntries rest
  | _ => []

/-- LOAD_STACK: its length is 2 plus 3 times the count in its second byte (R183). -/
def decodeLoadStack (kind : Byte) : List Byte → Request
  | station :: count :: rest =>
    if rest.length = 3 * count.toNat then .loadStack station count (loadEntries rest) else .badLength kind
  | _ => .badLength kind

/-- SET_SANITATION: 43 bytes (Table 41). -/
def decodeSanitation (kind : Byte) (p : List Byte) : Request :=
  if p.length = 43 then
    .setSanitation (halfAt p 0) (halfAt p 2) (halfAt p 4) (halfAt p 6) (halfAt p 8) (p.getD 10 0)
      (Vector.ofFn fun i : Fin 16 => halfAt p (11 + 2 * i.val))
  else .badLength kind

/-- The request a frame of this kind and payload holds (Table 41; R183, checks 2 and 3). -/
def decodeRequest (kind : Byte) (p : List Byte) : Request :=
  match kind.toNat with
  | 0x01 => fields0 kind .identify p
  | 0x02 => fields0 kind .linkStatus p
  | 0x03 => fields2 kind (fun h l => .setNotify (halfOf h l)) p
  | 0x04 => fields1 kind .restart p
  | 0x08 => fields0 kind .run p
  | 0x09 => fields0 kind .halt p
  | 0x0A => fields0 kind .standby p
  | 0x0B => fields0 kind .clearFault p
  | 0x0C => fields0 kind .getTrack p
  | 0x0D => fields0 kind .purge p
  | 0x10 => fields8 kind (fun n q d h l x a w => .setProgramme n q d (halfOf h l) x a w) p
  | 0x11 => fields1 kind .getProgramme p
  | 0x12 => fields5 kind .setKindMap p
  | 0x13 => fields0 kind .getKindMap p
  | 0x14 => decodeSanitation kind p
  | 0x15 => fields0 kind .getSanitation p
  | 0x16 => fields0 kind .getRinse p
  | 0x18 => fields1 kind .getStation p
  | 0x19 => fields3 kind .setStation p
  | 0x1A => decodeLoadStack kind p
  | 0x1B => fields1 kind .clearStack p
  | 0x1C => fields0 kind .getMerge p
  | 0x1D => fields2 kind .forceProgramme p
  | 0x20 => fields0 kind .getReturn p
  | 0x21 => fields1 kind .releaseQuarantine p
  | 0x28 => fields2 kind (fun h l => .getRecord (halfOf h l)) p
  | 0x29 => fields8 kind (fun h l k wh wl sh dh dl => .putRecord (halfOf h l) k (halfOf wh wl) sh (halfOf dh dl)) p
  | 0x2A => fields2 kind (fun h l => .dropRecord (halfOf h l)) p
  | 0x2B => fields0 kind .flushDirectory p
  | 0x30 => fields0 kind .getInterlocks p
  | 0x31 => fields0 kind .releaseInterlocks p
  | _ => .unknownKind kind

/-- The kind byte of a request (Table 41). -/
def Request.kindByte : Request → Byte
  | .identify => 0x01
  | .linkStatus => 0x02
  | .setNotify _ => 0x03
  | .restart _ => 0x04
  | .run => 0x08
  | .halt => 0x09
  | .standby => 0x0A
  | .clearFault => 0x0B
  | .getTrack => 0x0C
  | .purge => 0x0D
  | .setProgramme .. => 0x10
  | .getProgramme _ => 0x11
  | .setKindMap .. => 0x12
  | .getKindMap => 0x13
  | .setSanitation .. => 0x14
  | .getSanitation => 0x15
  | .getRinse => 0x16
  | .getStation _ => 0x18
  | .setStation .. => 0x19
  | .loadStack .. => 0x1A
  | .clearStack _ => 0x1B
  | .getMerge => 0x1C
  | .forceProgramme .. => 0x1D
  | .getReturn => 0x20
  | .releaseQuarantine _ => 0x21
  | .getRecord _ => 0x28
  | .putRecord .. => 0x29
  | .dropRecord _ => 0x2A
  | .flushDirectory => 0x2B
  | .getInterlocks => 0x30
  | .releaseInterlocks => 0x31
  | .unknownKind k => k
  | .badLength k => k

/-- The two bytes of a field, high byte first. -/
def halfBytes (w : Half) : List Byte := [hiByte w, loByte w]

/-- The payload of a request (Table 41); the two kinds of undecodable frame have none here. -/
def Request.encode : Request → List Byte
  | .setNotify m => halfBytes m
  | .restart a => [a]
  | .setProgramme n q d r x a w => [n, q, d] ++ halfBytes r ++ [x, a, w]
  | .getProgramme n => [n]
  | .setKindMap u p c k t => [u, p, c, k, t]
  | .setSanitation ab as bb bs f g cr =>
    halfBytes ab ++ halfBytes as ++ halfBytes bb ++ halfBytes bs ++ halfBytes f ++ [g] ++ cr.toList.flatMap halfBytes
  | .getStation n => [n]
  | .setStation n m k => [n, m, k]
  | .loadStack n c es => [n, c] ++ es.flatMap fun e => halfBytes e.id ++ [e.kind]
  | .clearStack n => [n]
  | .forceProgramme n p => [n, p]
  | .releaseQuarantine a => [a]
  | .getRecord i => halfBytes i
  | .putRecord i k w sh d => halfBytes i ++ [k] ++ halfBytes w ++ [sh] ++ halfBytes d
  | .dropRecord i => halfBytes i
  | _ => []

/-- A request that a frame of the host can hold: not one of the two undecodable kinds, and for LOAD_STACK as many entries
as its count says (Table 41). -/
def Request.wellFormed : Request → Bool
  | .unknownKind _ | .badLength _ => false
  | .loadStack _ c es => es.length == c.toNat
  | _ => true

/-- The kind byte of a reply (R183). -/
def replyKind (kind : Byte) : Byte := if kind.msb then 0xFF#8 else kind ||| 0x80#8

end Sys2Proof
end

