-- ==== Sys2Proof/Config.lean ====
section
/-! DEFINITION. What is fixed for the part (sizes and times the manual states as constants) and the free values. -/

namespace Sys2Proof.Config

/-- Places of the notice queue (R186). -/
abbrev noticePlaces : Nat := 16
/-- Places of the request buffer (R181). -/
abbrev requestPlaces : Nat := 2
/-- Places of the clean end (R131). -/
abbrev cleanPlaces : Nat := 4
/-- Places of the rewash lane (R136). -/
abbrev lanePlaces : Nat := 2
/-- Places of return transit (R137). -/
abbrev transitPlaces : Nat := 12
/-- Places of the surplus queue (R143). -/
abbrev surplusPlaces : Nat := 8
/-- Limit of a station's committed count (R69). -/
abbrev stackPlaces : Nat := 6
/-- Places of a spur (R75). -/
abbrev spurPlaces : Nat := 3
/-- Places of the tag read queue (R101). -/
abbrev tagPlaces : Nat := 3
/-- Steps of a purge (R25). -/
abbrev purgeSteps : Nat := 18
/-- Length of the fault and recovery runs of the dose unit (R45, R46, R48). -/
abbrev runLength : Nat := 8
/-- Largest payload of one frame (section 10.2). -/
abbrev framePayload : Nat := 58
/-- The step divisor used when programme 1 is absent (R6). -/
abbrev fallbackDivisor : Nat := 179

/-! Times, in the timers' steps of 10 ms (section 4.3 of the scope). -/

/-- The sample cycle of 250 ms (R32). -/
abbrev sampleCycle : Nat := 25
/-- The SPUR FULL lamp time of 2 s (R74). -/
abbrev spurFullTime : Nat := 200
/-- The arrival spacing of 3 s (R138). -/
abbrev spacingTime : Nat := 300
/-- The gap limit of 20 ms of both lines (R100, R178). -/
abbrev gapTime : Nat := 2
/-- The settling stage of 50 ms (R176). -/
abbrev settleTime : Nat := 5
/-- Profile bits clocked in 10 ms at 10 kHz (R169). -/
abbrev profileBitsPerTick : Nat := 100
/-- Bits of the plant profile (R169). -/
abbrev profileBits : Nat := 512

/-- FREE VALUE (log entry 6): when several timers have run out in the same 10 ms the manual gives no order between
their expiries; the n-th such choice takes the expiry at this place of the list of those that have run out.
DESIGN CHOICE, safe: nothing constrains the value. -/
opaque tieOrder : Nat → Nat

/-- FREE VALUE (log entry 48): the byte of a field that is one byte and for whose value the manual gives no code; `place` is
the place of the field among those of the message `m`. DESIGN CHOICE, safe: nothing constrains the value. -/
opaque freeByte {α : Type} (place : Nat) (m : α) : Byte

/-- FREE VALUE (log entry 48): the bytes of the part of the message `m` that the manual does not lay out; `place` is the
place of the part in the message. DESIGN CHOICE, safe: nothing constrains the value. -/
opaque freeBytes {α : Type} (place : Nat) (m : α) : List Byte

end Sys2Proof.Config
end

