-- ==== Sys2Proof/Machine/State.lean ====
section
/-! DEFINITION. The state of the part as plain data, block by block (Table 2 of the scope), the replies and notices it
sends, and the state right after a power-on reset. -/

namespace Sys2Proof.Machine
open Sys2Proof

/-! ### Timers -/

/-- A timer counting in steps of 10 ms (section 4.3 of the scope): stopped, running with its remaining count, or expired
and not preset since. -/
inductive Timer where
  | idle
  | running (left : Nat)
  | expired
  deriving DecidableEq, Repr

/-! ### The wash track (Chapter 1) -/

/-- A programme snapshot with its programme number (Table 8). -/
structure Snapshot where
  /-- programme number, 1..7 -/
  number : Fin 8
  /-- step divisor, 0..255 -/
  divisor : Nat
  /-- required dose in RU, 0..65535 -/
  required : Nat
  /-- extension limit in seconds, 0..60 -/
  limit : Nat
  /-- rewash allowed -/
  allowed : Bool
  /-- rewash limit, 0..3 -/
  rewash : Nat
  deriving DecidableEq, Repr

/-- The verdict of a record (Table 8). -/
inductive Verdict where
  | none | sanitised | short
  deriving DecidableEq, Repr

/-- Where a record came from (Table 8). -/
inductive Source where
  | station (n : Quad)
  | rewash
  | phantom
  deriving DecidableEq, Repr

/-- How a rack id was resolved at the merge (Table 8). -/
inductive IdSource where
  | none | tag | expected
  deriving DecidableEq, Repr

/-- Where the record at X goes (Table 8); none is `Option.none` of it. -/
inductive Destination where
  | clean | quarantine | rewash
  deriving DecidableEq, Repr

/-- The full description of a rack (R2, Table 8). `programme` is none for a phantom. -/
structure TrackRecord where
  id : RackId
  kind : Kind
  programme : Option Snapshot
  dose : Nat
  verdict : Verdict
  rewashCount : Nat
  source : Source
  identity : IdSource
  tracked : Bool
  leaving : Bool
  destination : Option Destination
  deriving DecidableEq, Repr

/-- The track states (Table 9). -/
inductive TrackState where
  | off | ready | hold | stepping | stopped | fault | standby | recovery | purging
  deriving DecidableEq, Repr

/-- The hold reasons (section 1.2). -/
structure Holds where
  transfer : Bool
  tank : Bool
  exit : Bool
  dose : Bool
  deriving DecidableEq, Repr

/-- No hold reason. -/
def Holds.empty : Holds := ⟨false, false, false, false⟩

/-- The causes of the track state FAULT (Table 9). -/
inductive FaultCause where
  | jamMotion | jamTransfer | recoveryFailed
  deriving DecidableEq, Repr

/-- The motion record: no motion, one in flight, or one that carries the interrupted mark (section 1.2). -/
inductive Motion where
  | none | inFlight | interrupted
  deriving DecidableEq, Repr

/-- The wash track block TRK (Table 2, Table 11). The exit reservation is the destination of the record at X. -/
structure Track where
  positions : Vector (Option TrackRecord) 17
  state : TrackState
  runEnable : Bool
  holds : Holds
  fault : Option FaultCause
  stepDue : Bool
  motion : Motion
  recoveryPending : Bool
  purgeCount : Nat
  stepTimer : Timer
  /-- the period in force, in units of 100 ms (R6) -/
  period : Nat
  extension : Timer
  motionTimer : Timer
  /-- chain drive output -/
  chainDrive : Bool
  /-- rewash gate output, set while open -/
  rewashGate : Bool
  deriving DecidableEq, Repr

/-! ### The rinse dose unit (Chapter 2) -/

/-- The status of a sample (Table 12). -/
inductive SampleStatus where
  | good | disagree | single | invalid
  deriving DecidableEq, Repr

/-- A formed sample (R49). `codeB` is none when channel B is not converted; `validB` is then false (log entry 35). -/
structure Sample where
  codeA : Code
  codeB : Option Code
  validA : Bool
  validB : Bool
  tA : Nat
  tB : Nat
  t : Nat
  status : SampleStatus
  flow : Bool
  band : Option Nat
  credit : Nat
  deriving DecidableEq, Repr

/-- The converter states (R33). -/
inductive Converter where
  | idle | convertingA | convertingB
  deriving DecidableEq, Repr

/-- The rinse dose unit DSE (Table 14). -/
structure Dose where
  cycle : Timer
  converter : Converter
  pendingA : Option Code
  last : Option Sample
  count : BitVec 16
  disagreeRun : Nat
  invalidRun : Nat
  recoveryRun : Nat
  deriving DecidableEq, Repr

/-! ### The programme table (Chapter 3) -/

/-- The fields of a present programme descriptor (Table 16). -/
structure Descriptor where
  divisor : Nat
  required : Nat
  limit : Nat
  allowed : Bool
  rewash : Nat
  deriving DecidableEq, Repr

/-- The kind map: one programme number for each kind (R58). -/
structure KindMap where
  unknown : Fin 8
  plate : Fin 8
  cup : Fin 8
  cutlery : Fin 8
  tray : Fin 8
  deriving DecidableEq, Repr

/-- The sanitation settings (Table 18). -/
structure Sanitation where
  aBase : Nat
  aSpan : Nat
  bBase : Nat
  bSpan : Nat
  floor : Nat
  agree : Nat
  credit : Vector Nat 16
  deriving DecidableEq, Repr

/-- The source of the sanitation settings (R62, R63). -/
inductive SettingsSource where
  | profile | builtIn | host
  deriving DecidableEq, Repr

/-- The programme table PGT (Table 19). The table limit is a profile value. -/
structure Programmes where
  table : Vector (Option Descriptor) 8
  kindMap : KindMap
  sanitation : Sanitation
  source : SettingsSource
  lock : Bool
  /-- the settings-required mark -/
  required : Bool
  deriving DecidableEq, Repr

/-- The default programme 1 (Table 17). -/
def Descriptor.builtIn : Descriptor := ⟨179, 2400, 20, true, 1⟩

/-- The built-in kind map (R58). -/
def KindMap.builtIn : KindMap := ⟨0, 1, 1, 1, 1⟩

/-- The built-in sanitation settings (Table 18). -/
def Sanitation.builtIn : Sanitation :=
  ⟨200, 1000, 200, 1000, 820, 20, #v[10, 13, 16, 20, 25, 32, 40, 50, 63, 79, 100, 126, 158, 200, 251, 316]⟩

/-! ### The station units (Chapter 4) -/

/-- A rack entry of a stack, a bay or the surplus queue. -/
structure RackEntry where
  id : RackId
  kind : Kind
  deriving DecidableEq, Repr

/-- The origin of a delivery (R144). -/
inductive Origin where
  | router | surplus
  deriving DecidableEq, Repr

/-- A delivery in flight (R70). -/
structure Delivery where
  id : RackId
  kind : Kind
  origin : Origin
  timer : Timer
  deriving DecidableEq, Repr

/-- A spur entry (Table 21). -/
structure SpurEntry where
  expected : RackId
  kind : Kind
  profiled : Bool
  refused : Bool
  forced : Option (Fin 8)
  deriving DecidableEq, Repr

/-- The mode of a station (R79). -/
inductive Mode where
  | closed | openMode
  deriving DecidableEq, Repr

/-- The kind mask of a station (R79). -/
structure KindMask where
  plate : Bool
  cup : Bool
  cutlery : Bool
  tray : Bool
  deriving DecidableEq, Repr

/-- One station unit STN (Table 20). -/
structure StationUnit where
  /-- top first -/
  stack : List RackEntry
  /-- in the order they were started -/
  deliveries : List Delivery
  bay : Option RackEntry
  /-- head first -/
  spur : List SpurEntry
  mode : Mode
  mask : KindMask
  /-- the SPUR FULL lamp timer -/
  spurFull : Timer
  deriving DecidableEq, Repr

/-- A station after power-on and cold reset (Table 23). -/
def StationUnit.fresh : StationUnit := ⟨[], [], none, [], .openMode, ⟨true, true, true, true⟩, .idle⟩

/-! ### The merge (Chapter 5) -/

/-- The merge states (Table 24). -/
inductive MergeState where
  | idle | transferring | interrupted | jammed
  deriving DecidableEq, Repr

/-- A requester of the merge (R88). -/
inductive Requester where
  | spur (n : Quad)
  | rewash
  deriving DecidableEq, Repr

/-- The outstanding grant (R94). -/
inductive Grant where
  /-- the spur, the expected id and kind of the granted head, and the snapshot of its programme -/
  | spur (n : Quad) (expected : RackId) (kind : Kind) (snapshot : Snapshot)
  /-- the record at the head of the rewash lane -/
  | rewash (record : TrackRecord)
  deriving DecidableEq, Repr

/-- One read of the tag read queue (R101). -/
structure TagRead where
  id : RackId
  good : Bool
  deriving DecidableEq, Repr

/-- The receiver of the tag reader line (R100): `assembling` holds the bytes taken after the lead. -/
inductive Receiver where
  | hunting
  | assembling (bytes : List Byte)
  deriving DecidableEq, Repr

/-- The merge MRG (Table 27). -/
structure Merge where
  state : MergeState
  grant : Option Grant
  timer : Timer
  /-- the running pusher -/
  pusher : Option Requester
  rotation : Quad
  tags : List TagRead
  overrun : Bool
  receiver : Receiver
  tagGap : Timer
  /-- refused heads are still to be re-tested at the first grant opportunity after a warm start-up (R90) -/
  retest : Bool
  deriving DecidableEq, Repr

/-! ### The rack directory (Chapter 6) -/

/-- The directory locations (Table 29). -/
inductive Location where
  | stack (n : Quad)
  | bay (n : Quad)
  | spur (n : Quad)
  | track
  | rewash
  | clean
  | onReturn
  | surplus
  | delivery (n : Quad)
  | inspect
  | loose
  | unknown
  deriving DecidableEq, Repr

/-- A valid directory entry (Table 28). -/
structure DirEntry where
  id : RackId
  kind : Kind
  washes : Nat
  short : Nat
  last : Nat
  location : Location
  partialHistory : Bool
  pinned : Bool
  dirty : Bool
  deriving DecidableEq, Repr

/-- A set of the directory: four ways, each none while invalid, and the three pseudo-LRU bits (R110, R112). -/
structure DirSet where
  ways : Four (Option DirEntry)
  b0 : Bool
  b1 : Bool
  b2 : Bool
  deriving DecidableEq, Repr

/-- A set after power-on and cold reset (R129). -/
def DirSet.fresh : DirSet := ⟨Four.all none, false, false, false⟩

/-- A directory entry with the set and way it stands in (Table 48). -/
structure EntryBlock where
  entry : DirEntry
  set : Nat
  way : Quad
  deriving DecidableEq, Repr

/-! ### The clean end and return (Chapter 7) -/

/-- A clean-end entry (R131). -/
structure CleanEntry where
  record : TrackRecord
  quarantined : Bool
  deriving DecidableEq, Repr

/-- A return transit record with its travel timer (R137). -/
structure Transit where
  record : TrackRecord
  travel : Timer
  deriving DecidableEq, Repr

/-- The positions of the router diverter (R147). -/
inductive Diverter where
  | station (n : Quad)
  | surplus
  | inspect
  deriving DecidableEq, Repr

/-- The clean end and return RTN (Table 34). Every queue is oldest first. -/
structure Return where
  cleanEnd : List CleanEntry
  /-- the pending confirm -/
  confirm : Bool
  lane : List TrackRecord
  transit : List Transit
  spacing : Timer
  /-- the return hold: the transit head is held at the router -/
  held : Bool
  surplus : List RackEntry
  inspections : Nat
  diverter : Diverter
  /-- return conveyor run output -/
  conveyor : Bool
  deriving DecidableEq, Repr

/-! ### The interlock monitor (Chapter 8) -/

/-- The five members of the interlock group (Table 35), each true while set. -/
structure Members where
  estop : Bool
  door : Bool
  rinse : Bool
  tank : Bool
  jam : Bool
  deriving DecidableEq, Repr

/-- The cause of a latch (R156, R158, R160). -/
inductive LatchCause where
  | start | change | release
  deriving DecidableEq, Repr

/-- The interlock monitor ILK (Table 36). -/
structure Interlock where
  live : Members
  snapshot : Members
  latched : Bool
  count : BitVec 16
  cause : LatchCause
  idle : Timer
  recovery : Timer
  limit : Timer
  /-- heat-economy line -/
  heat : Bool
  deriving DecidableEq, Repr

/-! ### The profile loader (Chapter 9) -/

/-- The recovery modes (Table 37). -/
inductive RecoveryMode where
  | fixed | temperature
  deriving DecidableEq, Repr

/-- The profile status (R170). -/
inductive ProfileStatus where
  | ok | clamped | fault
  deriving DecidableEq, Repr

/-- The profile values in force that stay with the blocks named in Table 37, in the units of that table. The sanitation
settings of the profile pass to the programme table. -/
structure ProfileValues where
  stations : Nat
  sensors : Nat
  tableLimit : Nat
  motionLimit : Nat
  transferLimit : Nat
  idleLimit : Nat
  recoveryMode : RecoveryMode
  recoveryTime : Nat
  recoveryLimit : Nat
  recoveryMargin : Nat
  travelTime : Nat
  deliveryTime : Four Nat
  feedTime : Nat
  inspectLimit : Nat
  retireLimit : Nat
  deriving DecidableEq, Repr

/-- The built-in defaults of Table 37. -/
def ProfileValues.builtIn : ProfileValues :=
  { stations := 4, sensors := 2, tableLimit := 7, motionLimit := 6, transferLimit := 8, idleLimit := 60,
    recoveryMode := .fixed, recoveryTime := 9, recoveryLimit := 90, recoveryMargin := 20, travelTime := 40,
    deliveryTime := Four.all 12, feedTime := 8, inspectLimit := 3, retireLimit := 0 }

/-- The profile loader PRF (section 9). -/
structure Profile where
  /-- the reader is READING -/
  reading : Bool
  /-- the bit count, 0..512 -/
  bits : Nat
  values : ProfileValues
  status : ProfileStatus
  deriving DecidableEq, Repr

/-- The kinds of reset (Table 38). -/
inductive ResetKind where
  | powerOn | cold | warm
  deriving DecidableEq, Repr

/-- The causes the START_UP notice reports (R177). -/
inductive ResetCause where
  | supply | line | request
  deriving DecidableEq, Repr

/-- Where the part stands between supply and running (R174, R176). -/
inductive Phase where
  /-- the supply is below its operating level -/
  | noSupply
  /-- held in reset by a restart line -/
  | held
  /-- first stage of a power-on or cold start-up -/
  | profileRead
  /-- settling stage of any start-up -/
  | settling
  /-- start-up has ended -/
  | running
  deriving DecidableEq, Repr

/-! ### Notices (section 10.5) -/

/-- How a jammed transfer was settled (R99). -/
inductive SettleOutcome where
  | completed | kept | lost
  deriving DecidableEq, Repr

/-- A settlement with its requester and, for a spur, the expected id (R28, R99). -/
structure Settlement where
  outcome : SettleOutcome
  requester : Requester
  expected : Option RackId
  deriving DecidableEq, Repr

/-- The contents of a STATE notice (R28). -/
structure StateReport where
  state : TrackState
  holds : Holds
  fault : Option FaultCause
  interrupted : Bool
  recoveryPending : Bool
  runEnable : Bool
  purgeCount : Nat
  records : Nat
  settled : Option Settlement
  deriving DecidableEq, Repr

/-- The sample fields of a SENSOR_DISAGREE or SENSOR_LOST notice (R47). -/
structure SensorReport where
  codeA : Code
  codeB : Option Code
  tA : Nat
  tB : Nat
  t : Nat
  status : SampleStatus
  deriving DecidableEq, Repr

/-- The causes of a FAULT notice with their fields (R18, R20, R47, R96, R139, R165). -/
inductive FaultNotice where
  | jamMotion
  | jamTransfer (requester : Requester) (expected : Option RackId)
  /-- the recovery sample run and the agreed temperature of the last formed sample, if there is one -/
  | recoveryFailed (run : Nat) (t : Option Nat)
  | missingRack (id : RackId) (source : Source)
  | sensorDisagree (sample : SensorReport)
  | sensorLost (sample : SensorReport)
  | strayRack (inspections surplus : Nat)
  deriving DecidableEq, Repr

/-- A holder of rack ids (R103, Table 26). -/
inductive Holder where
  | stack (n : Quad)
  | bay (n : Quad)
  | spur (n : Quad)
  | surplus
  | track
  | rewash
  | clean
  | onReturn
  | delivery (n : Quad)
  deriving DecidableEq, Repr

/-- The causes of an ADMISSION notice with their fields (Table 26, R116, R117). -/
inductive AdmissionNotice where
  /-- `tried` is 0 when the kind map gives 0; `forced` when the programme was forced -/
  | refused (station : Quad) (expected : RackId) (kind : Kind) (tried : Fin 8) (forced : Bool)
  | mismatch (station : Quad) (expected tag : RackId) (overrun : Bool)
  | conflict (station : Quad) (expected : RackId) (reads : List TagRead) (overrun : Bool)
  | moved (station : Quad) (id : RackId) (holder : Holder)
  | duplicate (station : Quad) (id : RackId) (holder : Holder) (overrun : Bool)
  | setFull (id : RackId) (set : Nat) (station : Quad) (pinned : List RackId)
  | spillBlocked (id : RackId) (set : Nat) (station : Quad) (victim : RackId)
  deriving DecidableEq, Repr

/-- The reason of a SPILL notice (R123). -/
inductive SpillReason where
  | replaced | flushed
  deriving DecidableEq, Repr

/-- The test that retired a rack (R140). -/
inductive RetireTest where
  | retire | inspect | both
  deriving DecidableEq, Repr

/-- The notices of Table 42 with their contents. -/
inductive Notice where
  | startUp (kind : ResetKind) (cause : ResetCause) (status : ProfileStatus)
  | interlock (snapshot live : Members) (count : BitVec 16) (cause : LatchCause)
  | fault (f : FaultNotice)
  | shortDose (id : RackId) (programme : Fin 8) (dose required rewashCount : Nat)
  | spill (block : EntryBlock) (reason : SpillReason)
  | admission (a : AdmissionNotice)
  | rackRetired (id : RackId) (kind : Kind) (washes short : Nat) (test : RetireTest)
  | returnHold (id : RackId) (kind : Kind) (surplus behind : Nat)
  | state (r : StateReport)
  deriving DecidableEq, Repr

/-! ### Replies (section 10.3) -/

/-- The result codes of Table 40. -/
inductive Result where
  | ok | clamped | range | state | full | duplicate | notFound | locked | unknown | badLen | starting
  deriving DecidableEq, Repr

/-- The contents of a GET_TRACK reply (R29). Remaining times are in units of 10 ms. -/
structure TrackReport where
  state : TrackState
  runEnable : Bool
  holds : Holds
  fault : Option FaultCause
  stepDue : Bool
  interrupted : Bool
  recoveryPending : Bool
  period : Nat
  stepLeft : Nat
  extension : Timer
  reserved : Option Destination
  motionLeft : Nat
  purgeCount : Nat
  positions : Vector (Option TrackRecord) 17
  deriving DecidableEq, Repr

/-- One final-rinse position in a GET_RINSE reply (R50). -/
structure RinsePosition where
  id : RackId
  dose : Nat
  required : Nat
  leaving : Bool
  deriving DecidableEq, Repr

/-- The contents of a GET_RINSE reply (R50). -/
structure RinseReport where
  sensors : Nat
  converter : Converter
  last : Option Sample
  count : BitVec 16
  disagreeRun : Nat
  invalidRun : Nat
  recoveryRun : Nat
  f1 : Option RinsePosition
  f2 : Option RinsePosition
  deriving DecidableEq, Repr

/-- One delivery in a GET_STATION reply (R84). -/
structure DeliveryReport where
  id : RackId
  kind : Kind
  origin : Origin
  left : Nat
  deriving DecidableEq, Repr

/-- The contents of a GET_STATION reply (R84). -/
structure StationReport where
  mode : Mode
  mask : KindMask
  committed : Nat
  stack : List RackEntry
  deliveries : List DeliveryReport
  bay : Option RackEntry
  baySensor : Bool
  spur : List SpurEntry
  spurHeadSensor : Bool
  inTransfer : Bool
  noRack : Bool
  spurFull : Bool
  refused : Bool
  spurFullLeft : Nat
  deriving DecidableEq, Repr

/-- The outstanding grant in a GET_MERGE reply (R107; `kind` of a rewash grant: log entry 42). -/
structure GrantReport where
  requester : Requester
  id : RackId
  kind : Kind
  programme : Option (Fin 8)
  left : Nat
  deriving DecidableEq, Repr

/-- One spur head in a GET_MERGE reply (R107). -/
structure HeadReport where
  station : Quad
  head : Option SpurEntry
  eligible : Bool
  deriving DecidableEq, Repr

/-- The contents of a GET_MERGE reply (R107). -/
structure MergeReport where
  state : MergeState
  rotation : Quad
  grant : Option GrantReport
  tags : List TagRead
  overrun : Bool
  position0 : Bool
  heads : List HeadReport
  laneHead : Option RackId
  deriving DecidableEq, Repr

/-- One record of the rewash lane in a GET_RETURN reply (R149). -/
structure LaneReport where
  id : RackId
  kind : Kind
  programme : Fin 8
  dose : Nat
  rewashCount : Nat
  source : Source
  deriving DecidableEq, Repr

/-- One record of the clean end in a GET_RETURN reply (R149); the programme is 0 for a phantom. -/
structure CleanReport where
  id : RackId
  kind : Kind
  programme : Fin 8
  verdict : Verdict
  dose : Nat
  rewashCount : Nat
  source : Source
  quarantined : Bool
  deriving DecidableEq, Repr

/-- The states of a transit record (R137). -/
inductive TransitState where
  | travelling | due | held
  deriving DecidableEq, Repr

/-- One transit record in a GET_RETURN reply (R149). -/
structure TransitReport where
  id : RackId
  kind : Kind
  programme : Fin 8
  verdict : Verdict
  dose : Nat
  rewashCount : Nat
  state : TransitState
  left : Nat
  deriving DecidableEq, Repr

/-- The contents of a GET_RETURN reply (R149). -/
structure ReturnReport where
  cleanEnd : List CleanReport
  /-- the clean end's count of entries -/
  cleanEntries : Nat
  cleanReserved : Bool
  confirm : Bool
  quarantineLamp : Bool
  returnFullLamp : Bool
  lane : List LaneReport
  laneReserved : Bool
  transit : List TransitReport
  spacingLeft : Nat
  arrival : Bool
  surplus : List RackEntry
  deliveries : Four Nat
  surplusDeliveries : Nat
  inspections : Nat
  diverter : Diverter
  conveyor : Bool
  paused : Bool
  deriving DecidableEq, Repr

/-- The contents of a GET_INTERLOCKS reply (R159). -/
structure InterlockReport where
  snapshot : Members
  live : Members
  latched : Bool
  count : BitVec 16
  cause : LatchCause
  idleLeft : Nat
  mode : RecoveryMode
  recoveryLeft : Nat
  recoveryRun : Nat
  heat : Bool
  deriving DecidableEq, Repr

/-- The contents of a LINK_STATUS reply (R189, Table 51). -/
structure LinkReport where
  crcErrors : Nat
  framingErrors : Nat
  overflows : Nat
  discarded : Nat
  queued : Nat
  mask : Half
  status : ProfileStatus
  deriving DecidableEq, Repr

/-- The values in force that an IDENTIFY reply carries after its constants (R190). -/
structure IdentityReport where
  stations : Nat
  sensors : Nat
  tableLimit : Nat
  status : ProfileStatus
  kind : ResetKind
  deriving DecidableEq, Repr

/-- The outcome a CLEAR_FAULT reply carries (R167). -/
inductive ClearOutcome where
  | completed
  | pending
  | settled (s : Settlement)
  | none
  deriving DecidableEq, Repr

/-- A descriptor as SET_PROGRAMME and GET_PROGRAMME report it (R55 to R57): an absent one has the present field clear and the
five others 0. -/
structure DescriptorReport where
  present : Bool
  divisor : Nat
  required : Nat
  limit : Nat
  allowed : Bool
  rewash : Nat
  deriving DecidableEq, Repr

/-- What a reply carries after its result byte. -/
inductive ReplyBody where
  /-- the result byte alone -/
  | empty
  | identity (r : IdentityReport)
  | linkStatus (r : LinkReport)
  | notify (mask : Half)
  /-- the result byte alone; the reset of this kind is taken when the reply has been sent (R175) -/
  | restart (kind : ResetKind)
  | track (r : TrackReport)
  | faultCleared (cause : FaultCause) (outcome : ClearOutcome)
  /-- the descriptor as it then stands (R55, R56) -/
  | programme (d : DescriptorReport)
  | programmeRead (d : DescriptorReport) (tableLimit : Nat)
  | kindMap (m : KindMap)
  | kindMapRead (m : KindMap) (tableLimit : Nat)
  | sanitation (s : Sanitation)
  | sanitationRead (s : Sanitation) (source : SettingsSource) (lock required : Bool)
  | rinse (r : RinseReport)
  | station (r : StationReport)
  | stationMode (mode : Mode) (mask : KindMask)
  /-- the number of entries removed (R82) -/
  | removed (n : Nat)
  | merge (r : MergeReport)
  /-- the head after a FORCE_PROGRAMME (R91) -/
  | head (station : Quad) (entry : SpurEntry)
  | returns (r : ReturnReport)
  /-- RELEASE_QUARANTINE with action RETURN: MOVED, or else HELD (R134) -/
  | released (moved : Bool)
  /-- an entry and the bits of its set after the access (R124) -/
  | entry (b : EntryBlock) (b0 b1 b2 : Bool)
  /-- the entry before, after, and a spilled victim (R125, R126) -/
  | entryPut (before : Option EntryBlock) (after : EntryBlock) (victim : Option EntryBlock)
  | entryDropped (b : EntryBlock)
  /-- flushed and still dirty (R128) -/
  | flushed (n dirty : Nat)
  | interlocks (r : InterlockReport)
  /-- after a release (R158) -/
  | interlocksReleased (snapshot live : Members) (latched : Bool) (count : BitVec 16) (cause : LatchCause)
  deriving DecidableEq, Repr

/-- A reply message: its kind byte, its result and what it carries (R183). -/
structure Reply where
  kind : Byte
  result : Result
  body : ReplyBody
  deriving DecidableEq, Repr

/-! ### The supervisory link (Chapter 10) -/

/-- What the transmitter is sending (R185). The reply being sent stays in the reply slot until it has been sent. -/
inductive Transmitter where
  | idle
  | reply
  | notice (n : Notice)
  deriving DecidableEq, Repr

/-- A complete request that waits in the request buffer (R181). `starting`: its frame completed during start-up, so that it is
answered STARTING whenever its turn comes (R176, R183). -/
structure Waiting where
  request : Request
  starting : Bool
  deriving DecidableEq, Repr

/-- The supervisory link SLK (Table 53). -/
structure Link where
  /-- the bytes of the frame in assembly, its lead first; empty while HUNTING -/
  assembly : List Byte
  gap : Timer
  /-- oldest first -/
  buffer : List Waiting
  reply : Option Reply
  transmitter : Transmitter
  /-- first in the queue's order first -/
  notices : List Notice
  crcErrors : Nat
  framingErrors : Nat
  overflows : Nat
  discarded : Nat
  mask : Half
  deriving DecidableEq, Repr

/-! ### The whole part -/

/-- The field inputs that have rows of their own in the opcode table, as they stand. -/
structure Inputs where
  estopOpen : Bool
  doorOpen : Bool
  noFlow : Bool
  tankLow : Bool
  /-- router arrival sensor made -/
  arrival : Bool
  deriving DecidableEq, Repr

/-- The state of the part: the queue of commands and, block by block, everything the manual gives it. -/
structure State where
  /-- the commands that wait, first in first out -/
  pending : List Instr
  /-- the model's own: how many choices among run-out timers have been made (log entry 6) -/
  choices : Nat
  phase : Phase
  coldLine : Bool
  warmLine : Bool
  resetKind : ResetKind
  resetCause : ResetCause
  /-- the timing of the settling stage (R176) -/
  settle : Timer
  inputs : Inputs
  plant : Plant
  track : Track
  dose : Dose
  programmes : Programmes
  stations : Four StationUnit
  merge : Merge
  directory : Vector DirSet 64
  ret : Return
  interlock : Interlock
  profile : Profile
  link : Link
  deriving DecidableEq, Repr

/-- Why the part could stop with a fault: nothing does. The manual gives every command an effect, if only that it is
ignored or refused with a result code, so no constructor is needed (safe; log entry 24). -/
inductive Fault where
  deriving DecidableEq, Repr

/-- Why a command is refused. -/
inductive Refusal where
  /-- raised by an arm of `exec` whose command has no meaning in the model yet; no arm of this model raises it (safe) -/
  | notModelled (mnemonic : String)
  deriving DecidableEq, Repr

/-! ### Right after reset -/

/-- TRK after power-on and cold reset (Table 11, R30). -/
def Track.fresh : Track :=
  { positions := Vector.replicate 17 none, state := .off, runEnable := false, holds := .empty, fault := none,
    stepDue := true, motion := .none, recoveryPending := false, purgeCount := 0, stepTimer := .expired, period := 180,
    extension := .idle, motionTimer := .idle, chainDrive := false, rewashGate := false }

/-- DSE after power-on and cold reset (Table 14). -/
def Dose.fresh : Dose :=
  { cycle := .idle, converter := .idle, pendingA := none, last := none, count := 0, disagreeRun := 0, invalidRun := 0,
    recoveryRun := 0 }

/-- PGT after power-on and cold reset (Table 19); its sanitation settings and their source stand at built-in values until
the profile has been read (DESIGN CHOICE, log entry 2). -/
def Programmes.fresh : Programmes :=
  { table := (Vector.replicate 8 none).set 1 (some Descriptor.builtIn), kindMap := .builtIn, sanitation := .builtIn,
    source := .builtIn, lock := false, required := false }

/-- MRG after power-on and cold reset (Table 27); the tag gap timer, which the table does not list, is stopped (DESIGN CHOICE, log
entry 47). -/
def Merge.fresh : Merge :=
  { state := .idle, grant := none, timer := .idle, pusher := none, rotation := 3, tags := [], overrun := false,
    receiver := .hunting, tagGap := .idle, retest := false }

/-- RTN after power-on and cold reset (Table 34); the conveyor runs from the end of start-up. -/
def Return.fresh : Return :=
  { cleanEnd := [], confirm := false, lane := [], transit := [], spacing := .expired, held := false, surplus := [],
    inspections := 0, diverter := .surplus, conveyor := false }

/-- ILK after power-on and cold reset, before the end of start-up reads and latches the group (R160, R168; DESIGN CHOICE,
log entry 2). -/
def Interlock.fresh : Interlock :=
  { live := ⟨false, false, false, false, false⟩, snapshot := ⟨false, false, false, false, false⟩, latched := false,
    count := 0, cause := .start, idle := .idle, recovery := .idle, limit := .idle, heat := false }

/-- PRF at the start of a power-on or cold start-up (R169); values in force and status before the first read are a DESIGN
CHOICE (log entry 2). -/
def Profile.fresh : Profile := { reading := true, bits := 0, values := .builtIn, status := .ok }

/-- SLK after power-on and cold reset (Table 53); the gap timer, which the table does not list, is stopped (DESIGN CHOICE, log
entry 47). -/
def Link.fresh : Link :=
  { assembly := [], gap := .idle, buffer := [], reply := none, transmitter := .idle, notices := [], crcErrors := 0,
    framingErrors := 0, overflows := 0, discarded := 0, mask := 0x01FF#16 }

/-- The field inputs at power-on (DESIGN CHOICE, log entry 3). -/
def Inputs.fresh : Inputs := ⟨false, false, false, false, false⟩

/-- The sensor readings at power-on (DESIGN CHOICE, log entry 3). -/
def plantAtRest : Plant := ⟨false, false, false, Four.all false, Four.all false, Four.all .unknown⟩

/-- The part at the moment a power-on reset begins its start-up (R174, R176): the profile is being read and no command
waits. -/
def State.reset : State :=
  { pending := [], choices := 0, phase := .profileRead, coldLine := false, warmLine := false, resetKind := .powerOn,
    resetCause := .supply, settle := .idle, inputs := .fresh, plant := plantAtRest, track := .fresh, dose := .fresh,
    programmes := .fresh, stations := Four.all .fresh, merge := .fresh, directory := Vector.replicate 64 DirSet.fresh,
    ret := .fresh, interlock := .fresh, profile := .fresh, link := .fresh }

end Sys2Proof.Machine
end

