-- ==== Sys2Proof/Machine/Operands.lean ====
section
/-! DEFINITION. How the operands of requests are read: enumerated codes (Table 45), station numbers, programme numbers and
kind masks. -/

namespace Sys2Proof.Machine
open Sys2Proof

/-- A rack kind from its code; none outside the five kinds (Table 45). -/
def kindOfCode (b : Byte) : Option Kind :=
  match b.toNat with
  | 0 => some .unknown
  | 1 => some .plate
  | 2 => some .cup
  | 3 => some .cutlery
  | 4 => some .tray
  | _ => none

/-- The code of a rack kind (Table 45). -/
def kindCode : Kind → Nat
  | .unknown => 0
  | .plate => 1
  | .cup => 2
  | .cutlery => 3
  | .tray => 4

/-- A station mode from its code (Table 45). -/
def modeOfCode (b : Byte) : Option Mode :=
  match b.toNat with
  | 0 => some .closed
  | 1 => some .openMode
  | _ => none

/-- The reset a RESTART action asks for (Table 45). -/
def restartOfCode (b : Byte) : Option ResetKind :=
  match b.toNat with
  | 0 => some .warm
  | 1 => some .cold
  | _ => none

/-- The action of RELEASE_QUARANTINE: RETURN is `some true`, REWASH `some false` (Table 45). -/
def releaseIsReturn (b : Byte) : Option Bool :=
  match b.toNat with
  | 0 => some true
  | 1 => some false
  | _ => none

/-- A yes/no field is no when it is 0 and yes otherwise (R183). -/
def yes (b : Byte) : Bool := b != 0

/-- The kind mask of SET_STATION: bits 0 to 3, the others ignored (Table 41). -/
def maskOfCode (b : Byte) : KindMask := ⟨b.getLsbD 0, b.getLsbD 1, b.getLsbD 2, b.getLsbD 3⟩

/-- The mask holds at least one kind (R79). -/
def KindMask.nonEmpty (m : KindMask) : Bool := m.plate || m.cup || m.cutlery || m.tray

/-- A programme number 0..7 from a byte that has passed the table limit. -/
def programmeOf (b : Byte) : Fin 8 := Fin.ofNat 8 b.toNat

/-- The station is fitted: its number is no larger than the profile's stations fitted (R68). -/
def fitted (s : State) (n : Quad) : Bool := n.val + 1 ≤ s.profile.values.stations

/-- The fitted station a request names; none is refused with RANGE (R68). -/
def stationOf (s : State) (b : Byte) : Option Quad :=
  quads.find? fun n => n.val + 1 == b.toNat && fitted s n

end Sys2Proof.Machine
end

