-- ==== Sys2Proof/Machine/Flags.lean ====
section
/-! DEFINITION. Conditions and outputs computed from the state: counts, the exit routing, the F2 dose check, the period,
the idle test, the lamps. -/

namespace Sys2Proof.Machine
open Sys2Proof

/-- A timer preset with a full time (section 4.3 of the scope). -/
def Timer.preset (ticks : Nat) : Timer := .running ticks

/-- The remaining time of a timer in units of 10 ms, 0 when it is stopped or expired. -/
def Timer.left : Timer → Nat
  | .running n => n
  | _ => 0

/-- The timer is running. -/
def Timer.isRunning : Timer → Bool
  | .running _ => true
  | _ => false

/-- A time in seconds as timer steps. -/
def seconds (n : Nat) : Nat := n * 100

/-- A time in units of 10 s as timer steps. -/
def tensOfSeconds (n : Nat) : Nat := n * 1000

/-- The record at F1 (position 11). -/
def Track.f1 (t : Track) : Option TrackRecord := t.positions[11]
/-- The record at F2 (position 12). -/
def Track.f2 (t : Track) : Option TrackRecord := t.positions[12]
/-- The record at X (position 16). -/
def Track.x (t : Track) : Option TrackRecord := t.positions[16]
/-- The record at I1 (position 0). -/
def Track.infeed (t : Track) : Option TrackRecord := t.positions[0]

/-- The number of records in the track. -/
def Track.records (t : Track) : Nat := t.positions.toList.countP Option.isSome

/-- Both safety chains are closed, as the live group has them. -/
def chainsClosed (s : State) : Bool := !s.interlock.live.estop && !s.interlock.live.door

/-- A transfer is in flight: TRANSFERRING, INTERRUPTED or JAMMED (R87). -/
def transferInFlight (s : State) : Bool := s.merge.state != .idle

/-- The outstanding grant is of this spur: a transfer from it is in flight (R87). -/
def transferFrom (s : State) (n : Quad) : Bool :=
  match s.merge.grant with
  | some (.spur m _ _ _) => m == n
  | _ => false

/-- The committed count of a station (R69). -/
def StationUnit.committed (u : StationUnit) : Nat := u.stack.length + u.deliveries.length

/-- The exit reservation: the destination of the record at X, made with it at step start and consumed with it at
completion (R13). -/
def State.reservation (s : State) : Option Destination := s.track.x.bind (·.destination)

/-- The reservation counts against the clean end (R13). -/
def cleanReserved (s : State) : Bool :=
  s.reservation == some .clean || s.reservation == some .quarantine

/-- The reservation counts against the rewash lane (R13). -/
def laneReserved (s : State) : Bool := s.reservation == some .rewash

/-- The clean end's entries plus reservation (R131). -/
def cleanCount (s : State) : Nat := s.ret.cleanEnd.length + (if cleanReserved s then 1 else 0)

/-- The rewash lane's records plus reservation (R136). -/
def laneCount (s : State) : Nat := s.ret.lane.length + (if laneReserved s then 1 else 0)

/-- The clean end has a place (R12). -/
def cleanHasPlace (s : State) : Bool := cleanCount s < Config.cleanPlaces

/-- The exit routing of R12 for the record at X: its destination, or none when it has to wait. -/
def exitRoute (s : State) (r : TrackRecord) : Option Destination :=
  match r.verdict with
  | .sanitised => if cleanHasPlace s then some .clean else none
  | .short =>
    let lane := match r.programme with
      | some p => p.allowed && r.rewashCount < p.rewash && laneCount s < Config.lanePlaces
      | none => false
    if lane then some .rewash else if cleanHasPlace s then some .quarantine else none
  | .none => none

/-- The exit routing gives the X record a destination, or there is no record at X (R7). -/
def routeFound (s : State) : Bool :=
  match s.track.x with
  | some r => (exitRoute s r).isSome
  | none => true

/-- The required dose of a record's snapshot, 0 for a record without one (R50). -/
def TrackRecord.required (r : TrackRecord) : Nat := (r.programme.map (·.required)).getD 0

/-- The F2 record is below its required dose (R10). -/
def f2Below (s : State) : Bool :=
  match s.track.f2 with
  | some r => r.dose < r.required
  | none => false

/-- The F2 dose check (R10). -/
def doseMet (s : State) : Bool := !f2Below s || s.track.extension == .expired

/-- The default divisor: the step divisor of programme 1, or 179 when it is absent (R6). -/
def defaultDivisor (s : State) : Nat :=
  match s.programmes.table[1] with
  | some d => d.divisor
  | none => Config.fallbackDivisor

/-- The step divisors of the snapshots held in positions 2..12 (R6). -/
def Track.divisors (t : Track) : List Nat :=
  ((t.positions.toList.drop 2).take 11).filterMap fun r => (r.bind (·.programme)).map (·.divisor)

/-- The period fixed by R6, in units of 100 ms. -/
def periodOf (s : State) : Nat :=
  match s.track.divisors with
  | [] => defaultDivisor s + 1
  | d :: ds => ds.foldl max d + 1

/-- The spur of a station holds its head first (R75). -/
def StationUnit.head (u : StationUnit) : Option SpurEntry := u.spur.head?

/-- The part is idle: no record on the track, rewash lane and spurs empty, no transfer in flight (R24). -/
def partIdle (s : State) : Bool :=
  s.track.records == 0 && s.ret.lane.isEmpty && s.stations.list.all (·.spur.isEmpty) && !transferInFlight s

/-- The track is in READY and the part is idle: the idle timer runs (R161). -/
def idleInReady (s : State) : Bool := s.track.state == .ready && partIdle s

/-- A spur head is waiting to be resolved: its station is fitted and it is profiled and not refused (R88, R89). -/
def headWaiting (s : State) (n : Quad) : Bool :=
  fitted s n && match (s.stations.get n).head with
    | some e => e.profiled && !e.refused
    | none => false

/-! ### Lamps and outputs. The lamps are dark and the outputs released until start-up has ended (log entry 23). -/

/-- Start-up has ended. -/
def State.isRunning (s : State) : Bool := s.phase == .running

/-- NO RACK (R80). -/
def noRackLamp (s : State) (n : Quad) : Bool := s.isRunning && fitted s n && (s.stations.get n).committed == 0

/-- SPUR FULL (R80). -/
def spurFullLamp (s : State) (n : Quad) : Bool :=
  s.isRunning && fitted s n && (s.stations.get n).spurFull.isRunning

/-- REFUSED (R80). -/
def refusedLamp (s : State) (n : Quad) : Bool :=
  s.isRunning && fitted s n && match (s.stations.get n).head with
    | some e => e.refused
    | none => false

/-- QUARANTINE at the clean end (R131). -/
def quarantineLamp (s : State) : Bool :=
  s.isRunning && match s.ret.cleanEnd with
    | e :: _ => e.quarantined
    | [] => false

/-- RETURN FULL (R147). -/
def returnFullLamp (s : State) : Bool := s.isRunning && s.ret.confirm

/-- The number of deliveries in flight with origin SURPLUS (R149). -/
def surplusDeliveries (s : State) : Nat :=
  (s.stations.list.map fun u => u.deliveries.countP fun d => d.origin == .surplus).sum

/-- The surplus feed output (R147). -/
def surplusFeedOutput (s : State) : Bool := s.isRunning && 0 < surplusDeliveries s

/-- The return timers are paused: the emergency-stop chain is open (R148). -/
def returnPaused (s : State) : Bool := s.interlock.live.estop

/-- The state of a transit record at place `i` (R137). -/
def transitState (s : State) (i : Nat) (t : Transit) : TransitState :=
  if i = 0 && s.ret.held then .held else if t.travel == .expired then .due else .travelling

end Sys2Proof.Machine
end

