-- ==== Sys2Proof/Machine/Ops.lean ====
section
/-! DEFINITION. The operations every block uses: the notice queue with its priorities and mask, the change of track state
with its STATE notice, and the latched reporting of the interlock group. -/

namespace Sys2Proof.Machine
open Sys2Proof

/-! ### Field inputs -/

/-- Take note of the sensor readings a command carries (log entry 4). -/
def State.sense (p : Plant) (s : State) : State := { s with plant := p }

/-- Replace one station unit. -/
def State.setStation (n : Quad) (u : StationUnit) (s : State) : State :=
  { s with stations := s.stations.set n u }

/-- Put a record, or none, at a track position. -/
def State.setPosition (i : Fin 17) (r : Option TrackRecord) (s : State) : State :=
  { s with track := { s.track with positions := s.track.positions.set i r } }

/-! ### Notices (section 10.5) -/

/-- The priority of a notice's kind, 1 first (Table 42). -/
def Notice.priority : Notice → Nat
  | .startUp .. => 1
  | .interlock .. => 2
  | .fault .. => 3
  | .shortDose .. => 4
  | .spill .. => 5
  | .admission .. => 6
  | .rackRetired .. => 7
  | .returnHold .. => 8
  | .state .. => 9

/-- The bit of a notice's kind in the notify mask: its kind less 0x40 (R188, Table 42). -/
def Notice.maskBit : Notice → Nat
  | .startUp .. => 0
  | .interlock .. => 1
  | .fault .. => 2
  | .shortDose .. => 3
  | .admission .. => 4
  | .spill .. => 5
  | .rackRetired .. => 6
  | .state .. => 7
  | .returnHold .. => 8

/-- The kind of the notice is enabled; START_UP and SPILL always are (R188). -/
def Notice.enabled (mask : Half) (n : Notice) : Bool :=
  n.maskBit == 0 || n.maskBit == 5 || mask.getLsbD n.maskBit

/-- Place a notice after every queued one of the same or a smaller priority number and before every larger (R186). -/
def placeNotice (n : Notice) : List Notice → List Notice
  | [] => [n]
  | m :: q => if m.priority ≤ n.priority then m :: placeNotice n q else n :: m :: q

/-- The largest priority number queued. -/
def largestNumber (q : List Notice) : Nat := (q.map Notice.priority).foldl max 0

/-- Discard the newest of the queued notices with the largest number (R186). -/
def discardNewest (q : List Notice) : List Notice :=
  (q.reverse.eraseP fun m => m.priority == largestNumber q).reverse

/-- A block queues a notice: masked kinds are not queued (R188), the others are placed by priority or settled against a
full queue, where one notice is lost and counted (R186, R189). -/
def enqueue (n : Notice) (s : State) : State :=
  if !n.enabled s.link.mask then s
  else if s.link.notices.length < Config.noticePlaces then
    { s with link := { s.link with notices := placeNotice n s.link.notices } }
  else
    let lost := { s.link with discarded := satAdd 65535 s.link.discarded 1 }
    if n.priority < largestNumber s.link.notices then
      { s with link := { lost with notices := placeNotice n (discardNewest s.link.notices) } }
    else { s with link := lost }

/-- Queue several notices in order. -/
def enqueueAll (ns : List Notice) (s : State) : State := ns.foldl (fun s n => enqueue n s) s

/-- The notice queue has a free place (R117, R187). -/
def noticePlaceFree (s : State) : Bool := s.link.notices.length < Config.noticePlaces

/-- The notice is an INTERLOCK notice. -/
def Notice.isInterlock : Notice → Bool
  | .interlock .. => true
  | _ => false

/-- The INTERLOCK notice of a latch: a waiting one takes the new contents in its place, otherwise it is queued (R157,
R187). -/
def enqueueInterlock (n : Notice) (s : State) : State :=
  if !n.enabled s.link.mask then s
  else if s.link.notices.any Notice.isInterlock then
    { s with link := { s.link with notices := s.link.notices.map fun m => if m.isInterlock then n else m } }
  else enqueue n s

/-! ### The track state and its STATE notice -/

/-- The contents of a STATE notice at this moment (R28). -/
def stateReport (settled : Option Settlement) (s : State) : StateReport :=
  { state := s.track.state, holds := s.track.holds, fault := s.track.fault,
    interrupted := s.track.motion == .interrupted, recoveryPending := s.track.recoveryPending,
    runEnable := s.track.runEnable, purgeCount := s.track.purgeCount, records := s.track.records, settled := settled }

/-- READY, HOLD and STEPPING: changes among them are not notified (R28). -/
def TrackState.isStepping3 : TrackState → Bool
  | .ready | .hold | .stepping => true
  | _ => false

/-- The change of track state is notified (R28). -/
def stateNotified (before after : TrackState) : Bool :=
  before != after && after != .fault && !(before.isStepping3 && after.isStepping3)

/-- The track enters a state; a STATE notice is queued when R28 says so. -/
def enterState (st : TrackState) (s : State) : State :=
  let t := { s with track := { s.track with state := st } }
  if stateNotified s.track.state st then enqueue (.state (stateReport none t)) t else t

/-! ### Latched reporting of the interlock group (section 8.2) -/

/-- The group latches: the snapshot takes the live values, the flag is set, the count rises, the cause is recorded and an
INTERLOCK notice is queued (R156, R158). -/
def latch (cause : LatchCause) (s : State) : State :=
  let i := s.interlock
  let t := { s with interlock :=
    { i with snapshot := i.live, latched := true, count := i.count + 1, cause := cause } }
  enqueueInterlock (.interlock i.live i.live (i.count + 1) cause) t

/-- A member change is passed to the latched reporting (R156, R157). -/
def reportChange (s : State) : State :=
  if s.interlock.latched then s else latch .change s

/-- Give the JAM member a value; a change of it is a member change (R152, R155). -/
def setJam (v : Bool) (s : State) : State :=
  if s.interlock.live.jam == v then s
  else reportChange
    { s with interlock := { s.interlock with live := { s.interlock.live with jam := v } } }

end Sys2Proof.Machine
end

