-- ==== Sys2Proof/Machine/Directory.lean ====
section
/-! DEFINITION. The rack directory RDR (Chapter 6): lookup and recency, allocation, pinning, the messages of the other
blocks, and the host's directory requests. -/

namespace Sys2Proof.Machine
open Sys2Proof

/-! ### Sets, lookup and recency -/

/-- The set of a rack id: its remainder by 64 (R110). -/
def setOf (id : RackId) : Fin 64 := ⟨id.toNat % 64, Nat.mod_lt _ (by decide)⟩

/-- A way holds a valid entry of this id (R110). -/
def DirSet.holds (d : DirSet) (id : RackId) (w : Quad) : Bool :=
  match d.ways.get w with
  | some e => e.id == id
  | none => false

/-- The way of a set that holds an id (R110). -/
def DirSet.find (d : DirSet) (id : RackId) : Option Quad := quads.find? (d.holds id)

/-- An access to a way sets the bits to point away from it (Table 30). -/
def DirSet.access (d : DirSet) (w : Quad) : DirSet :=
  match w with
  | 0 => { d with b0 := true, b1 := true }
  | 1 => { d with b0 := true, b1 := false }
  | 2 => { d with b0 := false, b2 := true }
  | 3 => { d with b0 := false, b2 := false }

/-- Store an entry in a way and access it. -/
def DirSet.put (d : DirSet) (w : Quad) (e : DirEntry) : DirSet :=
  ({ d with ways := d.ways.set w (some e) }).access w

/-- Replace one set of the directory. -/
def State.setDirSet (i : Fin 64) (d : DirSet) (s : State) : State :=
  { s with directory := s.directory.set i d }

/-- The lookup of an id: its way and entry on a hit; id 0 always misses (R110). -/
def lookup (s : State) (id : RackId) : Option (Quad × DirEntry) :=
  if id = 0 then none
  else
    let d := s.directory[setOf id]
    (d.find id).bind fun w => (d.ways.get w).map fun e => (w, e)

/-- A message or request that hits changes the entry and accesses it; one that misses changes nothing (R112, R113). -/
def updateEntry (id : RackId) (f : DirEntry → DirEntry) (s : State) : State :=
  match lookup s id with
  | some (w, e) => s.setDirSet (setOf id) ((s.directory[setOf id]).put w (f e))
  | none => s

/-! ### Messages from the other blocks (section 6.5) -/

/-- A location message that leaves the pinned field as it stands (R121). -/
def sendLocation (id : RackId) (loc : Location) (s : State) : State :=
  updateEntry id (fun e => { e with location := loc, dirty := true }) s

/-- A location message that unpins (R119). -/
def sendUnpin (id : RackId) (loc : Location) (s : State) : State :=
  updateEntry id (fun e => { e with location := loc, dirty := true, pinned := false }) s

/-- A kind message (R121): the same kind accesses the entry and changes nothing. -/
def sendKind (id : RackId) (k : Kind) (s : State) : State :=
  updateEntry id (fun e => if e.kind = k then e else { e with kind := k, dirty := true }) s

/-- The F2 update of a step start (R120). -/
def sendPass (id : RackId) (v : Verdict) (dose : Nat) (s : State) : State :=
  updateEntry id (fun e =>
    { e with washes := satAdd 65535 e.washes 1, short := if v = .short then satAdd 255 e.short 1 else e.short,
             last := dose, dirty := true }) s

/-! ### Allocation (section 6.3) -/

/-- The way may be taken by the walk: it is not pinned (R115). -/
def DirSet.unpinned (d : DirSet) (w : Quad) : Bool :=
  match d.ways.get w with
  | some e => !e.pinned
  | none => true

/-- The lowest-numbered invalid way (R114). -/
def DirSet.invalidWay (d : DirSet) : Option Quad := quads.find? fun w => (d.ways.get w).isNone

/-- The tree walk of R115: the victim, or none when all four ways are pinned. -/
def DirSet.walk (d : DirSet) : Option Quad :=
  let pair0 := d.unpinned 0 || d.unpinned 1
  let pair1 := d.unpinned 2 || d.unpinned 3
  let second := if d.b0 then pair1 else !pair0
  if second then
    if !pair1 then none
    else if d.b2 then (if d.unpinned 3 then some 3 else some 2) else (if d.unpinned 2 then some 2 else some 3)
  else
    if !pair0 then none
    else if d.b1 then (if d.unpinned 1 then some 1 else some 0) else (if d.unpinned 0 then some 0 else some 1)

/-- The ids of the valid entries of a set (the four pinned ones where R116 asks for them). -/
def DirSet.ids (d : DirSet) : List RackId := d.ways.list.filterMap fun e => e.map (·.id)

/-- The outcome of an allocation (R114 to R117). -/
inductive Allocation where
  /-- the way taken, the state after, and the spilled victim if the way held a dirty entry -/
  | taken (way : Quad) (s : State) (victim : Option EntryBlock)
  /-- all four ways are pinned; their ids (R116) -/
  | setFull (ids : List RackId)
  /-- the victim is dirty and the notice queue is full (R117) -/
  | spillBlocked (victim : RackId)

/-- Allocate a way for an id that has missed and give it the entry (R114 to R117). -/
def allocate (id : RackId) (e : DirEntry) (s : State) : Allocation :=
  let i := setOf id
  let d := s.directory[i]
  match d.invalidWay with
  | some w => .taken w (s.setDirSet i (d.put w e)) none
  | none =>
    match d.walk with
    | none => .setFull d.ids
    | some w =>
      match d.ways.get w with
      | none => .taken w (s.setDirSet i (d.put w e)) none
      | some v =>
        if !v.dirty then .taken w (s.setDirSet i (d.put w e)) none
        else if noticePlaceFree s then
          let b : EntryBlock := ⟨v, i.val, w⟩
          .taken w ((enqueue (.spill b .replaced) s).setDirSet i (d.put w e)) (some b)
        else .spillBlocked v.id

/-- The entry a missed admission request creates (R118). -/
def admittedEntry (id : RackId) (k : Kind) : DirEntry :=
  { id := id, kind := k, washes := 0, short := 0, last := 0, location := .track, partialHistory := true, pinned := true,
    dirty := true }

/-- The admission request of the merge for a non-zero id from station `n`: the state after, and whether the answer is an
entry, which makes the record TRACKED (R118). -/
def admissionRequest (id : RackId) (k : Kind) (n : Quad) (s : State) : State × Bool :=
  match lookup s id with
  | some _ =>
    (updateEntry id (fun e => { e with pinned := true, location := .track, kind := k, dirty := true }) s, true)
  | none =>
    match allocate id (admittedEntry id k) s with
    | .taken _ t _ => (t, true)
    | .setFull ids => (enqueue (.admission (.setFull id (setOf id).val n ids)) s, false)
    | .spillBlocked v => (enqueue (.admission (.spillBlocked id (setOf id).val n v)) s, false)

/-! ### The router lookup (R122) -/

/-- The retirement test on an entry's counts, by the retire and inspect limits of the profile; a limit of 0 is off
(R122). -/
def retireTest (v : ProfileValues) (e : DirEntry) : Option RetireTest :=
  let byWashes := v.retireLimit != 0 && v.retireLimit ≤ e.washes
  let byShort := v.inspectLimit != 0 && v.inspectLimit ≤ e.short
  if byWashes && byShort then some .both
  else if byWashes then some .retire
  else if byShort then some .inspect
  else none

/-- The router lookup of an id: a hit accesses the entry and answers the test with the entry; a miss and id 0 answer
none (R122). -/
def routerLookup (id : RackId) (s : State) : State × Option (DirEntry × RetireTest) :=
  match lookup s id with
  | some (_, e) => (updateEntry id (fun e => e) s, (retireTest s.profile.values e).map fun t => (e, t))
  | none => (s, none)

/-! ### Host requests (section 6.7) -/

/-- GET_RECORD (R124). -/
def requestGetRecord (id : RackId) (s : State) : State × Result × ReplyBody :=
  if id = 0 then (s, .range, .empty)
  else match lookup s id with
    | none => (s, .notFound, .empty)
    | some (w, e) =>
      let t := updateEntry id (fun e => e) s
      let d := t.directory[setOf id]
      (t, .ok, .entry ⟨e, (setOf id).val, w⟩ d.b0 d.b1 d.b2)

/-- The history PUT_RECORD leaves in a pinned partial entry: the host's counts are added to the part's (Table 32). -/
def addHistory (washes short last : Nat) (e : DirEntry) : DirEntry :=
  { e with washes := satAdd 65535 e.washes washes, short := satAdd 255 e.short short,
           last := if e.washes ≠ 0 then e.last else last, partialHistory := false, dirty := true }

/-- The history PUT_RECORD leaves in an unpinned entry: the host's replaces the part's (Table 32). -/
def replaceHistory (k : Kind) (washes short last : Nat) (e : DirEntry) : DirEntry :=
  { e with kind := k, washes := washes, short := short, last := last, partialHistory := false, dirty := false }

/-- The entry PUT_RECORD allocates on a miss (R126). -/
def loadedEntry (id : RackId) (k : Kind) (washes short last : Nat) : DirEntry :=
  { id := id, kind := k, washes := washes, short := short, last := last, location := .unknown, partialHistory := false,
    pinned := false, dirty := false }

/-- PUT_RECORD (R125, R126). A refusal with STATE carries the result byte alone (DESIGN CHOICE, log entry 45). -/
def requestPutRecord (id : RackId) (kind : Byte) (washes : Half) (short : Byte) (last : Half) (s : State) :
    State × Result × ReplyBody :=
  if id = 0 then (s, .range, .empty)
  else match kindOfCode kind with
    | none => (s, .range, .empty)
    | some k =>
      let i := (setOf id).val
      match lookup s id with
      | some (w, e) =>
        if !e.pinned then
          let e' := replaceHistory k washes.toNat short.toNat last.toNat e
          (updateEntry id (fun _ => e') s, .ok, .entryPut (some ⟨e, i, w⟩) ⟨e', i, w⟩ none)
        else if e.partialHistory then
          let e' := addHistory washes.toNat short.toNat last.toNat e
          (updateEntry id (fun _ => e') s, .ok, .entryPut (some ⟨e, i, w⟩) ⟨e', i, w⟩ none)
        else (s, .state, .empty)
      | none =>
        let e := loadedEntry id k washes.toNat short.toNat last.toNat
        match allocate id e s with
        | .taken w t v => (t, .ok, .entryPut none ⟨e, i, w⟩ v)
        | _ => (s, .full, .empty)

/-- DROP_RECORD (R127). -/
def requestDropRecord (id : RackId) (s : State) : State × Result × ReplyBody :=
  if id = 0 then (s, .range, .empty)
  else match lookup s id with
    | none => (s, .notFound, .empty)
    | some (w, e) =>
      if e.pinned then (s, .state, .empty)
      else
        let d := s.directory[setOf id]
        (s.setDirSet (setOf id) { d with ways := d.ways.set w none }, .ok, .entryDropped ⟨e, (setOf id).val, w⟩)

/-- What a flush leaves of an entry whose contents have been placed in the notice (R128). -/
def flushedEntry (e : DirEntry) : DirEntry :=
  if e.partialHistory then { e with dirty := false, washes := 0, short := 0 } else { e with dirty := false }

/-- Visit places of the directory in order and flush dirty entries until one finds the notice queue full (R128): the state
after and the number flushed. -/
def flushFrom : List (Fin 64 × Quad) → State → State × Nat
  | [], s => (s, 0)
  | (i, w) :: rest, s =>
    match (s.directory[i]).ways.get w with
    | none => flushFrom rest s
    | some e =>
      if !e.dirty then flushFrom rest s
      else if noticePlaceFree s then
        let d := s.directory[i]
        let t := (enqueue (.spill ⟨e, i.val, w⟩ .flushed) s).setDirSet i
          { d with ways := d.ways.set w (some (flushedEntry e)) }
        let r := flushFrom rest t
        (r.1, r.2 + 1)
      else (s, 0)

/-- Every place of the directory, in order of set and within a set in order of way (R128). -/
def directoryPlaces : List (Fin 64 × Quad) := (List.range 64).flatMap fun i => quads.map fun w => (Fin.ofNat 64 i, w)

/-- The number of dirty entries. -/
def dirtyCount (s : State) : Nat :=
  directoryPlaces.countP fun p => match (s.directory[p.1]).ways.get p.2 with
    | some e => e.dirty
    | none => false

/-- FLUSH_DIRECTORY (R128). -/
def requestFlushDirectory (s : State) : State × Result × ReplyBody :=
  let r := flushFrom directoryPlaces s
  (r.1, .ok, .flushed r.2 (dirtyCount r.1))

end Sys2Proof.Machine
end

