-- ==== Sys2Proof/Machine/Track.lean ====
section
/-! DEFINITION. The wash track TRK (Chapter 1): the due evaluation, step start, step completion with the exit-eye check,
failures and resumption, standby, recovery and purge as far as the track is concerned. -/

namespace Sys2Proof.Machine
open Sys2Proof

/-! ### Step start (R14) -/

/-- Give the record at X its destination, which makes the exit reservation (R13, R14). -/
def reserveExit (s : State) : State :=
  match s.track.x with
  | some r => s.setPosition 16 (some { r with destination := exitRoute s r })
  | none => s

/-- The verdict fixed at step start (R14, R44). -/
def verdictOf (r : TrackRecord) : Verdict := if r.required ≤ r.dose then .sanitised else .short

/-- Fix the verdict of the F2 record, mark it leaving, send the directory its update and queue a SHORT_DOSE notice
(R14). -/
def fixVerdict (s : State) : State :=
  match s.track.f2 with
  | none => s
  | some r =>
    let v := verdictOf r
    let s1 := s.setPosition 12 (some { r with verdict := v, leaving := true })
    let s2 := if r.tracked then sendPass r.id v r.dose s1 else s1
    if v = .short then
      enqueue (.shortDose r.id ((r.programme.map (·.number)).getD 0) r.dose r.required r.rewashCount) s2
    else s2

/-- The chain drive runs: the gate opens for a REWASH destination and the motion timer is preset with the motion limit
(R14, R22). -/
def runDrive (s : State) : State :=
  { s with track := { s.track with
      motion := .inFlight, chainDrive := true,
      rewashGate := s.track.rewashGate || s.reservation == some .rewash,
      motionTimer := .preset (seconds s.profile.values.motionLimit) } }

/-- A due step starts, in one action (R14). In PURGING the track stays in PURGING. -/
def stepStart (s : State) : State :=
  let s1 := fixVerdict (reserveExit s)
  let s2 := { s1 with track := { s1.track with
    holds := .empty, stepDue := false, extension := .idle,
    state := if s1.track.state = .purging then .purging else .stepping } }
  runDrive s2

/-! ### The due evaluation (R7 to R12, R26) -/

/-- The extension timer preset with a limit in seconds; a limit of 0 expires it at once (R10). -/
def extensionPreset (limit : Nat) : Timer := if limit = 0 then .expired else .preset (seconds limit)

/-- The extension timer starts at the first due evaluation that finds the F2 record below its dose while it is IDLE
(R10). -/
def startExtension (s : State) : State :=
  if f2Below s && s.track.extension == .idle then
    let limit := ((s.track.f2.bind (·.programme)).map (·.limit)).getD 0
    { s with track := { s.track with extension := extensionPreset limit } }
  else s

/-- The hold reasons of the conditions now unmet (R7). -/
def holdsNow (s : State) : Holds :=
  { transfer := transferInFlight s, tank := s.interlock.live.tank, exit := !routeFound s, dose := !doseMet s }

/-- The due evaluation of R7, and its repetition in HOLD (R9): the step starts when every condition holds, otherwise the
track is in HOLD with the reasons of the unmet ones. -/
def evaluate (s : State) : State :=
  let s1 := startExtension s
  let h := holdsNow s1
  if h = .empty then
    if chainsClosed s1 then stepStart s1 else s1
  else { s1 with track := { s1.track with state := .hold, holds := h } }

/-- A purge step that is due starts when the chains are closed and the routing finds a place; otherwise EXIT is recorded
(R26). -/
def purgeStep (s : State) : State :=
  if !chainsClosed s then s
  else if routeFound s then stepStart s
  else { s with track := { s.track with holds := { Holds.empty with exit := true } } }

/-- Make the due evaluation if this is a moment at which the track makes one: READY with the step-due mark set and a
record on the track, HOLD, or PURGING with the mark set and no motion (R7, R9, R26). -/
def dueEvaluation (s : State) : State :=
  match s.track.state with
  | .ready => if s.track.stepDue && s.track.records != 0 then evaluate s else s
  | .hold => evaluate s
  | .purging => if s.track.stepDue && s.track.motion == .none then purgeStep s else s
  | _ => s

/-! ### Step completion (R15 to R19) -/

/-- Hand the X record over to its reserved destination (R16). -/
def handOver (s : State) : State :=
  match s.track.x with
  | none => s
  | some r =>
    match r.destination with
    | none => s
    | some d =>
      let r' := { r with destination := none }
      let s1 := match d with
        | .clean => { s with ret := { s.ret with cleanEnd := s.ret.cleanEnd ++ [⟨r', false⟩] } }
        | .quarantine => { s with ret := { s.ret with cleanEnd := s.ret.cleanEnd ++ [⟨r', true⟩] } }
        | .rewash => { s with ret := { s.ret with lane := s.ret.lane ++ [r'] } }
      if r.tracked then sendLocation r.id (if d = .rewash then .rewash else .clean) s1 else s1

/-- The records at positions 0..15 move to 1..16 and position 0 becomes empty (R15). -/
def shiftRecords (v : Vector (Option TrackRecord) 17) : Vector (Option TrackRecord) 17 :=
  ⟨⟨none :: v.toList.dropLast⟩, by simp⟩

/-- The record that has come to D1 has its leaving mark cleared (R15). -/
def clearLeaving (s : State) : State :=
  match s.track.positions[13] with
  | some r => s.setPosition 13 (some { r with leaving := false })
  | none => s

/-- The period in force is fixed and the step timer preset with it (R6, R15). -/
def fixPeriod (s : State) : State :=
  { s with track := { s.track with period := periodOf s, stepTimer := .preset (periodOf s * 10) } }

/-- The phantom created for a rack found at X with no record (R19). -/
def phantom : TrackRecord :=
  { id := 0, kind := .unknown, programme := none, dose := 0, verdict := .short, rewashCount := 0, source := .phantom,
    identity := .none, tracked := false, leaving := false, destination := none }

/-- The exit-eye check on the new X position (R18, R19). -/
def exitEyeCheck (s : State) : State :=
  match s.track.x, s.plant.exitEye with
  | some r, false =>
    let s1 := s.setPosition 16 none
    let s2 := if r.tracked then sendUnpin r.id .unknown s1 else s1
    enqueue (.fault (.missingRack r.id r.source)) s2
  | none, true => s.setPosition 16 (some phantom)
  | _, _ => s

/-- The motion ends: the chain drive stops, the gate closes and the motion timer is cancelled (R15, first action). -/
def endMotion (s : State) : State :=
  { s with track := { s.track with
      chainDrive := false, rewashGate := false, motionTimer := .idle, motion := .none } }

/-- Actions 1 to 6 of a completion, in order (R15). The step-due mark is clear after it (R17, log entry 10). -/
def completeMotion (s : State) : State :=
  let s1 := handOver (endMotion s)
  let s2 := clearLeaving { s1 with track := { s1.track with
    positions := shiftRecords s1.track.positions, stepDue := false } }
  exitEyeCheck (fixPeriod s2)

/-- The purge ends in OFF: the hold reasons are emptied and a STATE notice is queued (R27). A step-due mark still set stays
(DESIGN CHOICE, log entry 11). -/
def endPurge (s : State) : State :=
  enterState .off { s with track := { s.track with purgeCount := 0, holds := .empty } }

/-- The next state after the completion actions (R17). -/
def stateAfterCompletion (s : State) : State :=
  if s.track.state = .purging then
    let c := s.track.purgeCount - 1
    if c = 0 then endPurge s else { s with track := { s.track with purgeCount := c } }
  else if s.track.runEnable then enterState .ready s
  else enterState .off s

/-! ### Failures and interruption (R20, R21) -/

/-- A motion in flight is interrupted: the drive stops, the timer is cancelled and the mark is taken (R21). -/
def interruptMotion (s : State) : State :=
  if s.track.motion = .inFlight then
    { s with track := { s.track with chainDrive := false, motionTimer := .idle, motion := .interrupted } }
  else s

/-- The recovery timers are stopped (R166, R168). -/
def stopRecoveryTimers (s : State) : State :=
  { s with interlock := { s.interlock with recovery := .idle, limit := .idle } }

/-- A chain opening reaches the track (R21, R166). A purge that it ends leaves the step-due mark as it stands (DESIGN CHOICE,
log entry 11). -/
def trackOpening (s : State) : State :=
  let t := s.track
  match t.state with
  | .ready | .hold | .stepping =>
    let s1 := interruptMotion s
    enterState .stopped { s1 with track := { s1.track with holds := .empty } }
  | .purging =>
    let s1 := interruptMotion s
    enterState .stopped { s1 with track := { s1.track with holds := .empty, purgeCount := 0 } }
  | .recovery =>
    let s1 := stopRecoveryTimers s
    enterState .stopped { s1 with track := { s1.track with recoveryPending := true } }
  | .off | .fault | .standby | .stopped => s

/-- The track enters FAULT for a jam: run enable cleared, hold reasons emptied, the JAM member set and the FAULT notice
queued (R20, R96, R155). -/
def enterJam (c : FaultCause) (n : FaultNotice) (s : State) : State :=
  let s1 := { s with track := { s.track with
    state := .fault, fault := some c, runEnable := false, holds := .empty, purgeCount := 0 } }
  enqueue (.fault n) (setJam true s1)

/-- The motion timer expires before the index is made (R20). -/
def jamMotion (s : State) : State :=
  enterJam .jamMotion .jamMotion
    { s with track := { s.track with chainDrive := false, motion := .interrupted, motionTimer := .idle } }

/-! ### Standby and recovery as the track enters and leaves them (R24, R163, R164) -/

/-- The track enters STANDBY and the heat-economy line is asserted (R24, R162). -/
def enterStandby (s : State) : State :=
  enterState .standby { s with interlock := { s.interlock with heat := true } }

/-- The track enters RECOVERY and the recovery begins afresh (R164, R48). -/
def enterRecovery (s : State) : State :=
  let v := s.profile.values
  let i := match v.recoveryMode with
    | .fixed => { s.interlock with recovery := .preset (tensOfSeconds v.recoveryTime), limit := .idle }
    | .temperature => { s.interlock with limit := .preset (tensOfSeconds v.recoveryLimit), recovery := .idle }
  enterState .recovery { s with
    interlock := i, dose := { s.dose with recoveryRun := 0 },
    track := { s.track with recoveryPending := false } }

/-- The wake from STANDBY (R163). -/
def wake (s : State) : State :=
  let s1 := { s with interlock := { s.interlock with heat := false } }
  if chainsClosed s1 then enterRecovery s1
  else enterState .stopped { s1 with track := { s1.track with recoveryPending := true } }

/-- The recovery is complete: its timer is stopped and the track enters READY, where the due evaluation follows (R164). -/
def completeRecovery (s : State) : State := dueEvaluation (enterState .ready (stopRecoveryTimers s))

/-- In TEMPERATURE mode the recovery limit runs out (R165). -/
def failRecovery (s : State) : State :=
  let s1 := stopRecoveryTimers s
  let s2 := { s1 with track := { s1.track with
    state := .fault, fault := some .recoveryFailed, runEnable := false } }
  enqueue (.fault (.recoveryFailed s2.dose.recoveryRun (s2.dose.last.map (·.t)))) s2

/-! ### Resumption (R22) -/

/-- The interrupted motion is resumed: completion is applied when the index is made, otherwise the drive runs again
(R22). -/
def resumeMotion (s : State) : State :=
  if s.plant.index then enterState .ready (completeMotion s)
  else enterState .stepping (runDrive s)

/-! ### Requests of the track -/

/-- The track's own move at a RUN that is taken (R3). -/
def runMove (s : State) : State :=
  let s1 := { s with track := { s.track with runEnable := true } }
  match s.track.state with
  | .off => if s.track.motion = .interrupted then resumeMotion s1 else enterState .ready s1
  | .stopped =>
    if s.track.motion = .interrupted then resumeMotion s1
    else if s.track.recoveryPending then enterRecovery s1
    else enterState .ready s1
  | .standby => wake s1
  | _ => s1

/-- HALT (R4, R27, R162, R166). -/
def requestHalt (s : State) : State × Result × ReplyBody :=
  let s1 := { s with track := { s.track with runEnable := false } }
  match s.track.state with
  | .fault => (s, .state, .empty)
  | .off | .stepping => (s1, .ok, .empty)
  | .ready | .hold =>
    (enterState .off { s1 with track := { s1.track with holds := .empty } }, .ok, .empty)
  | .stopped =>
    (enterState .off { s1 with track := { s1.track with recoveryPending := false } }, .ok, .empty)
  | .standby | .recovery =>
    let s2 := stopRecoveryTimers s1
    (enterState .off { s2 with interlock := { s2.interlock with heat := false } }, .ok, .empty)
  | .purging =>
    if s.track.motion = .none then (endPurge s1, .ok, .empty)
    else ({ s1 with track := { s1.track with purgeCount := 0 } }, .ok, .empty)

/-- STANDBY (R24). -/
def requestStandby (s : State) : State × Result × ReplyBody :=
  if idleInReady s then (enterStandby s, .ok, .empty) else (s, .state, .empty)

/-- PURGE (R25). The first purge step is due at once: the step-due mark is set, and it stays set when the purge ends before
that step has begun (DESIGN CHOICE, log entry 11). -/
def requestPurge (s : State) : State × Result × ReplyBody :=
  if s.track.state = .off ∧ s.track.motion = .none ∧ !transferInFlight s ∧ chainsClosed s then
    (enterState .purging { s with track := { s.track with
      purgeCount := Config.purgeSteps, period := defaultDivisor s + 1, stepDue := true } }, .ok, .empty)
  else (s, .state, .empty)

/-- GET_TRACK (R29). -/
def trackReport (s : State) : TrackReport :=
  let t := s.track
  { state := t.state, runEnable := t.runEnable, holds := t.holds, fault := t.fault, stepDue := t.stepDue,
    interrupted := t.motion == .interrupted, recoveryPending := t.recoveryPending, period := t.period,
    stepLeft := t.stepTimer.left, extension := t.extension, reserved := s.reservation,
    motionLeft := t.motionTimer.left, purgeCount := t.purgeCount, positions := t.positions }

end Sys2Proof.Machine
end

