-- ==== Sys2Proof/Machine/Dose.lean ====
section
/-! DEFINITION. The rinse dose unit DSE (Chapter 2): channel temperatures, agreement, credit, formation and the run
counts. -/

namespace Sys2Proof.Machine
open Sys2Proof

/-- A raw code is valid when it lies in 1..1022 (R35). -/
def codeValid (c : Code) : Bool := 1 ≤ c.toNat && c.toNat ≤ 1022

/-- The temperature of a channel with a valid code, in tenths of a degree (R36). -/
def temperature (base span : Nat) (c : Code) : Nat := base + (c.toNat * span + 512) / 1024

/-- The temperature of a channel; none while its code is invalid (R35). -/
def channel (base span : Nat) (c : Code) : Option Nat := if codeValid c then some (temperature base span c) else none

/-- The agreed temperature and the status from the two channel temperatures, both converted (Table 12). -/
def agreePair (agree : Nat) : Option Nat → Option Nat → Option Nat × SampleStatus
  | some a, some b =>
    if max a b - min a b ≤ agree then (some ((a + b) / 2), .good) else (some (min a b), .disagree)
  | some a, none => (some a, .single)
  | none, some b => (some b, .single)
  | none, none => (none, .invalid)

/-- The agreed temperature and the status with one sensor fitted (Table 12, R34). -/
def agreeOne : Option Nat → Option Nat × SampleStatus
  | some a => (some a, .good)
  | none => (none, .invalid)

/-- The band of an agreed temperature; none below the rinse floor, without flow or without a temperature (R39). -/
def bandOf (floor : Nat) (flow : Bool) : Option Nat → Option Nat
  | some t => if flow && floor ≤ t then some (min 15 ((t - floor) / 10)) else none
  | none => none

/-- The credit of a band: the entry of the credit table, 0 without a band (R39). -/
def creditOf (table : Vector Nat 16) : Option Nat → Nat
  | some k => table[Fin.ofNat 16 k]
  | none => 0

/-- The sample formed from the codes of A and, if it was converted, of B, with the settings given and the flow read
(R35 to R39, R49, R51). Where B is not converted its validity reads invalid (DESIGN CHOICE, log entry 35). -/
def sampleOf (v : Sanitation) (flow : Bool) (a : Code) (b : Option Code) : Sample :=
  let tA := channel v.aBase v.aSpan a
  let tB := b.bind (channel v.bBase v.bSpan)
  let r := match b with
    | some _ => agreePair v.agree tA tB
    | none => agreeOne tA
  let band := bandOf v.floor flow r.1
  { codeA := a, codeB := b, validA := tA.isSome, validB := tB.isSome, tA := tA.getD 0, tB := tB.getD 0,
    t := r.1.getD 0, status := r.2, flow := flow, band := band, credit := creditOf v.credit band }

/-- A record in final rinse takes a credit unless it is leaving; the dose stays at 65535 (R40). -/
def creditRecord (c : Nat) (r : TrackRecord) : TrackRecord :=
  if r.leaving then r else { r with dose := satAdd 65535 r.dose c }

/-- The credit of a sample is added to the records at F1 and F2 (R40). -/
def creditRinse (c : Nat) (s : State) : State :=
  (s.setPosition 11 (s.track.f1.map (creditRecord c))).setPosition 12 (s.track.f2.map (creditRecord c))

/-- A run count after a sample that does or does not continue the run (R45, R46, R48). -/
def runNext (continues : Bool) (run : Nat) : Nat := if continues then satAdd Config.runLength run 1 else 0

/-- A run reaches its full length with this sample (R45, R46, R48). -/
def runCompletes (continues : Bool) (run : Nat) : Bool := continues && run + 1 == Config.runLength

/-- The sample counts towards recovery: it is not INVALID and is at least the floor plus the recovery margin (R48). -/
def countsForRecovery (v : Sanitation) (margin : Nat) (m : Sample) : Bool :=
  m.status != .invalid && v.floor + margin ≤ m.t

/-- The sample fields of a sensor notice (R47). -/
def sensorReport (m : Sample) : SensorReport :=
  { codeA := m.codeA, codeB := m.codeB, tA := m.tA, tB := m.tB, t := m.t, status := m.status }

/-- Advance the run counts and the sample count, and replace the last formed sample (R45, R46, R48, R49). -/
def Dose.advance (m : Sample) (hot : Bool) (d : Dose) : Dose :=
  { d with disagreeRun := runNext (m.status == .disagree) d.disagreeRun,
           invalidRun := runNext (m.status == .invalid) d.invalidRun,
           recoveryRun := runNext hot d.recoveryRun,
           count := d.count + 1, last := some m, converter := .idle, pendingA := none }

/-- The notices of the runs that reach their full length with this sample (R45, R46). -/
def runNotices (m : Sample) (d : Dose) : List Notice :=
  (if runCompletes (m.status == .disagree) d.disagreeRun then [.fault (.sensorDisagree (sensorReport m))] else []) ++
  (if runCompletes (m.status == .invalid) d.invalidRun then [.fault (.sensorLost (sensorReport m))] else [])

/-- The formation of a sample as far as DSE and the records go, in one action (R33, R40). -/
def formed (a : Code) (b : Option Code) (s : State) : State :=
  let v := s.programmes.sanitation
  let m := sampleOf v (!s.interlock.live.rinse) a b
  let s1 := creditRinse m.credit s
  let hot := countsForRecovery v s.profile.values.recoveryMargin m
  enqueueAll (runNotices m s.dose) { s1 with dose := s1.dose.advance m hot }

/-- The formation brings the recovery sample run to 8 (R48, R164). -/
def recoveryReached (before after : State) : Bool :=
  before.track.state == .recovery && before.profile.values.recoveryMode == .temperature &&
    before.dose.recoveryRun + 1 == Config.runLength && after.dose.recoveryRun == Config.runLength

/-- The formation of a sample with what follows from it on the track: the F2 dose is made known to TRK (R43), and in
TEMPERATURE mode the eighth sample of the recovery run ends the recovery (R164). -/
def formSample (a : Code) (b : Option Code) (s : State) : State :=
  let t := dueEvaluation (formed a b s)
  if recoveryReached s t then completeRecovery t else t

/-- A sample starts: the sample cycle timer is preset and channel A is converted (R32, R33). -/
def startSample (s : State) : State :=
  { s with dose := { s.dose with cycle := .preset Config.sampleCycle, converter := .convertingA, pendingA := none } }

/-- The conversion of channel A ends with this code (R33); without a conversion of A under way nothing happens (log
entry 18). -/
def conversionA (c : Code) (s : State) : State :=
  if s.dose.converter = .convertingA then
    if s.profile.values.sensors = 1 then formSample c none s
    else { s with dose := { s.dose with converter := .convertingB, pendingA := some c } }
  else s

/-- The conversion of channel B ends with this code (R33); without a conversion of B under way nothing happens (log
entry 18). -/
def conversionB (c : Code) (s : State) : State :=
  match s.dose.converter, s.dose.pendingA with
  | .convertingB, some a => formSample a (some c) s
  | _, _ => s

/-- One final-rinse position in a GET_RINSE reply (R50). -/
def rinsePosition (r : TrackRecord) : RinsePosition :=
  { id := r.id, dose := r.dose, required := r.required, leaving := r.leaving }

/-- GET_RINSE (R50). -/
def rinseReport (s : State) : RinseReport :=
  let d := s.dose
  { sensors := s.profile.values.sensors, converter := d.converter, last := d.last, count := d.count,
    disagreeRun := d.disagreeRun, invalidRun := d.invalidRun, recoveryRun := d.recoveryRun,
    f1 := s.track.f1.map rinsePosition, f2 := s.track.f2.map rinsePosition }

end Sys2Proof.Machine
end

