-- ==== Sys2Proof/Machine/Programme.lean ====
section
/-! DEFINITION. The programme table PGT (Chapter 3): the resolution of a spur head, the table's requests and the
sanitation settings. -/

namespace Sys2Proof.Machine
open Sys2Proof

/-- The kind map's programme number for a kind (R58). -/
def KindMap.get (m : KindMap) : Kind → Fin 8
  | .unknown => m.unknown
  | .plate => m.plate
  | .cup => m.cup
  | .cutlery => m.cutlery
  | .tray => m.tray

/-- The descriptor of a programme number; number 0 is always absent (R54). -/
def descriptor (s : State) (p : Fin 8) : Option Descriptor := if p = 0 then none else s.programmes.table[p]

/-- The programme number a head resolves to: its forced programme, or the kind map's (R58, R89). -/
def headProgramme (s : State) (e : SpurEntry) : Fin 8 := e.forced.getD (s.programmes.kindMap.get e.kind)

/-- The snapshot of a programme as the table holds it (R60). -/
def snapshotOf (p : Fin 8) (d : Descriptor) : Snapshot :=
  { number := p, divisor := d.divisor, required := d.required, limit := d.limit, allowed := d.allowed,
    rewash := d.rewash }

/-- The resolution of a head: the snapshot of its programme, or none when the resolution fails (R58, R89). -/
def resolveHead (s : State) (e : SpurEntry) : Option Snapshot :=
  (descriptor s (headProgramme s e)).map (snapshotOf (headProgramme s e))

/-- Replace the head entry of a station's spur. -/
def setHead (n : Quad) (e : SpurEntry) (s : State) : State :=
  let u := s.stations.get n
  s.setStation n { u with spur := e :: u.spur.tail }

/-- Re-test the head of one fitted station: a refused head that now resolves is no longer refused (R90). -/
def retestHead (n : Quad) (s : State) : State :=
  match (s.stations.get n).head with
  | some e => if fitted s n && e.refused && (resolveHead s e).isSome then setHead n { e with refused := false } s else s
  | none => s

/-- Re-test every refused head (R90). -/
def retestHeads (s : State) : State := quads.foldl (fun s n => retestHead n s) s

/-- The programme number may be defined, read and removed: 1 up to the table limit (R54). -/
def programmeInRange (s : State) (number : Byte) : Bool :=
  number != 0 && number.toNat ≤ s.profile.values.tableLimit

/-- The descriptor a SET_PROGRAMME stores, after its two clamps (R55). -/
def clampedDescriptor (divisor : Byte) (required : Half) (limit allowed rewash : Byte) : Descriptor :=
  { divisor := divisor.toNat, required := required.toNat, limit := min 60 limit.toNat, allowed := yes allowed,
    rewash := min 3 rewash.toNat }

/-- Store a descriptor, or its absence; the change is passed to the merge (R55, R56, R61). -/
def setDescriptor (p : Fin 8) (d : Option Descriptor) (s : State) : State :=
  retestHeads { s with programmes := { s.programmes with table := s.programmes.table.set p d } }

/-- A descriptor as a reply reports it; the fields of an absent one are 0 (R56, R57). -/
def descriptorReport : Option Descriptor → DescriptorReport
  | some d => { present := true, divisor := d.divisor, required := d.required, limit := d.limit, allowed := d.allowed,
                rewash := d.rewash }
  | none => { present := false, divisor := 0, required := 0, limit := 0, allowed := false, rewash := 0 }

/-- SET_PROGRAMME (R55, R56). -/
def requestSetProgramme (number present divisor : Byte) (required : Half) (limit allowed rewash : Byte) (s : State) :
    State × Result × ReplyBody :=
  if !programmeInRange s number then (s, .range, .empty)
  else if yes present then
    let d := clampedDescriptor divisor required limit allowed rewash
    let r := if 60 < limit.toNat || 3 < rewash.toNat then Result.clamped else .ok
    (setDescriptor (programmeOf number) (some d) s, r, .programme (descriptorReport (some d)))
  else (setDescriptor (programmeOf number) none s, .ok, .programme (descriptorReport none))

/-- GET_PROGRAMME (R57). A refusal with RANGE carries the result byte alone (DESIGN CHOICE, log entry 45). -/
def requestGetProgramme (number : Byte) (s : State) : State × Result × ReplyBody :=
  if !programmeInRange s number then (s, .range, .empty)
  else
    (s, .ok,
      .programmeRead (descriptorReport (descriptor s (programmeOf number))) s.profile.values.tableLimit)

/-- SET_KIND_MAP (R59, R61). -/
def requestSetKindMap (unknown plate cup cutlery tray : Byte) (s : State) : State × Result × ReplyBody :=
  let limit := s.profile.values.tableLimit
  if [unknown, plate, cup, cutlery, tray].any fun b => limit < b.toNat then (s, .range, .empty)
  else
    let m : KindMap :=
      ⟨programmeOf unknown, programmeOf plate, programmeOf cup, programmeOf cutlery, programmeOf tray⟩
    (retestHeads { s with programmes := { s.programmes with kindMap := m } }, .ok, .kindMap m)

/-- GET_KIND_MAP (R59). -/
def requestGetKindMap (s : State) : State × Result × ReplyBody :=
  (s, .ok, .kindMapRead s.programmes.kindMap s.profile.values.tableLimit)

/-- The settings as a SET_SANITATION gives them (R63). -/
def sanitationOf (aBase aSpan bBase bSpan floor : Half) (agree : Byte) (credit : Vector Half 16) : Sanitation :=
  { aBase := aBase.toNat, aSpan := aSpan.toNat, bBase := bBase.toNat, bSpan := bSpan.toNat, floor := floor.toNat,
    agree := agree.toNat, credit := credit.map (·.toNat) }

/-- Every setting lies in its range (Table 18). -/
def Sanitation.inRange (v : Sanitation) : Bool :=
  v.aBase ≤ 999 && (100 ≤ v.aSpan && v.aSpan ≤ 2000) && v.bBase ≤ 999 && (100 ≤ v.bSpan && v.bSpan ≤ 2000) &&
    (600 ≤ v.floor && v.floor ≤ 950) && v.agree ≤ 100 && v.credit.toList.all (· ≤ 4095)

/-- SET_SANITATION (R63). -/
def requestSetSanitation (v : Sanitation) (s : State) : State × Result × ReplyBody :=
  if s.programmes.lock then (s, .locked, .empty)
  else if !v.inRange then (s, .range, .empty)
  else ({ s with programmes := { s.programmes with sanitation := v, source := .host, required := false } }, .ok,
    .sanitation v)

/-- GET_SANITATION (R65). -/
def requestGetSanitation (s : State) : State × Result × ReplyBody :=
  let p := s.programmes
  (s, .ok, .sanitationRead p.sanitation p.source p.lock p.required)

end Sys2Proof.Machine
end

