-- ==== Sys2Proof/Machine/Station.lean ====
section
/-! DEFINITION. The station units STN (Chapter 4): stack, bay, spur, spur-head readings, and the station requests. -/

namespace Sys2Proof.Machine
open Sys2Proof

/-! ### The holders of rack ids (R81, R103) -/

/-- The ids a spur holds; with `skipHead` its head is left out (R103). -/
def spurIds (skipHead : Bool) (u : StationUnit) : List RackId :=
  ((if skipHead then u.spur.tail else u.spur).map (·.expected))

/-- Every holder of rack ids with each id it holds, in the order R81 and R103 list them. `granted` names the spur whose
head is left out (R103, log entry 22). -/
def holders (granted : Option Quad) (s : State) : List (Holder × RackId) :=
  (quads.flatMap fun n => (s.stations.get n).stack.map fun e => (Holder.stack n, e.id)) ++
  (quads.flatMap fun n => (s.stations.get n).bay.toList.map fun e => (Holder.bay n, e.id)) ++
  (quads.flatMap fun n => (spurIds (granted == some n) (s.stations.get n)).map fun i => (Holder.spur n, i)) ++
  (s.track.positions.toList.filterMap fun r => r.map fun r => (Holder.track, r.id)) ++
  (s.ret.lane.map fun r => (Holder.rewash, r.id)) ++
  (s.ret.cleanEnd.map fun e => (Holder.clean, e.record.id)) ++
  (s.ret.transit.map fun t => (Holder.onReturn, t.record.id)) ++
  (s.ret.surplus.map fun e => (Holder.surplus, e.id)) ++
  (quads.flatMap fun n => (s.stations.get n).deliveries.map fun d => (Holder.delivery n, d.id))

/-- The id is held anywhere in the part (R81). -/
def heldAnywhere (id : RackId) (s : State) : Bool := (holders none s).any fun h => h.2 == id

/-! ### Stack and bay -/

/-- A stack-lift at a fitted station: the bay's old entry is discarded, and the top entry, or an anonymous one, goes to
the bay (R71, R72). -/
def popStack (n : Quad) (s : State) : State :=
  let u := s.stations.get n
  let s1 := match u.bay with
    | some e => sendLocation e.id .loose s
    | none => s
  match u.stack with
  | e :: rest => sendLocation e.id (.bay n) (s1.setStation n { u with stack := rest, bay := some e })
  | [] => s1.setStation n { u with bay := some ⟨0, .unknown⟩ }

/-! ### Sending (R73, R74) -/

/-- The spur entry a send adds (R73). -/
def sentEntry (id : RackId) : SpurEntry :=
  { expected := id, kind := .unknown, profiled := false, refused := false, forced := none }

/-- A send that is taken: the entry joins the spur, the bay is emptied, and the track is woken from STANDBY (R73,
R163). -/
def takeSend (n : Quad) (s : State) : State :=
  let u := s.stations.get n
  let id := (u.bay.map (·.id)).getD 0
  let s1 := sendLocation id (.spur n) (s.setStation n { u with spur := u.spur ++ [sentEntry id], bay := none })
  if s1.track.state = .standby then wake s1 else s1

/-- A press of the send button at a fitted station (R73, R74). -/
def pressSend (n : Quad) (s : State) : State :=
  let u := s.stations.get n
  if u.mode = .openMode && s.plant.bay.get n then
    if u.spur.length < Config.spurPlaces then takeSend n s
    else s.setStation n { u with spurFull := .preset Config.spurFullTime }
  else s

/-! ### The spur head -/

/-- The profile sensor is read with a rack on the spur-head sensor: an unprofiled head takes the kind, and in an empty
spur an anonymous profiled entry is made (R76, R78). -/
def profileHead (n : Quad) (s : State) : State :=
  let u := s.stations.get n
  let k := s.plant.profile.get n
  match u.head with
  | some e =>
    if e.profiled then s else sendKind e.expected k (setHead n { e with kind := k, profiled := true } s)
  | none =>
    s.setStation n { u with spur := [{ expected := 0, kind := k, profiled := true, refused := false, forced := none }] }

/-- The spur-head sensor is read once (R78). -/
def readSpurHead (n : Quad) (s : State) : State :=
  if fitted s n && s.plant.spurHead.get n then profileHead n s else s

/-- Remove the head entry of a spur (R75). -/
def removeHead (n : Quad) (s : State) : State :=
  let u := s.stations.get n
  s.setStation n { u with spur := u.spur.tail }

/-- The spur-head sensor becomes clear with no transfer from the spur in flight: a profiled head is withdrawn (R77). -/
def withdrawHead (n : Quad) (s : State) : State :=
  match (s.stations.get n).head with
  | some e => if e.profiled then sendLocation e.expected .loose (removeHead n s) else s
  | none => s

/-! ### Deliveries -/

/-- A delivery completes: it leaves the list and its entry is pushed onto the stack (R70). -/
def completeDelivery (n : Quad) (i : Nat) (s : State) : State :=
  let u := s.stations.get n
  match u.deliveries[i]? with
  | some d =>
    sendLocation d.id (.stack n)
      (s.setStation n { u with deliveries := u.deliveries.eraseIdx i, stack := ⟨d.id, d.kind⟩ :: u.stack })
  | none => s

/-! ### Requests -/

/-- The checks and the effect of SET_STATION before the prompt (R79): the station when it is taken. -/
def requestSetStation (station mode mask : Byte) (s : State) : State × Result × ReplyBody :=
  match stationOf s station, modeOfCode mode with
  | some n, some m =>
    let k := maskOfCode mask
    if k.nonEmpty then
      (s.setStation n { s.stations.get n with mode := m, mask := k }, .ok, .stationMode m k)
    else (s, .range, .empty)
  | _, _ => (s, .range, .empty)

/-- An entry of LOAD_STACK with its kind read; a kind outside the five gives none (R81). -/
def loadEntry (e : LoadEntry) : Option RackEntry := (kindOfCode e.kind).map fun k => ⟨e.id, k⟩

/-- The ids of a list that are not 0. -/
def namedIds (es : List RackEntry) : List RackId := (es.map (·.id)).filter (· != 0)

/-- LOAD_STACK (R81). The STACK n messages are sent in the order listed (DESIGN CHOICE, log entry 36). -/
def requestLoadStack (station count : Byte) (entries : List LoadEntry) (s : State) : State × Result × ReplyBody :=
  match stationOf s station, entries.mapM loadEntry with
  | some n, some es =>
    if count = 0 || 6 < count.toNat then (s, .range, .empty)
    else
      let u := s.stations.get n
      if Config.stackPlaces < u.committed + es.length then (s, .full, .empty)
      else if !decide (namedIds es).Nodup || (namedIds es).any (heldAnywhere · s) then (s, .duplicate, .empty)
      else
        let t := s.setStation n { u with stack := es.reverse ++ u.stack }
        ((namedIds es).foldl (fun s id => sendLocation id (.stack n) s) t, .ok, .empty)
  | _, _ => (s, .range, .empty)

/-- CLEAR_STACK (R82). The LOOSE messages of its entries are sent from the top of the stack down (DESIGN CHOICE, log entry
36). -/
def requestClearStack (station : Byte) (s : State) : State × Result × ReplyBody :=
  match stationOf s station with
  | some n =>
    let u := s.stations.get n
    ((u.stack.map (·.id)).foldl (fun s id => sendLocation id .loose s) (s.setStation n { u with stack := [] }), .ok,
      .removed u.stack.length)
  | none => (s, .range, .empty)

/-- One delivery in a GET_STATION reply (R84). -/
def deliveryReport (d : Delivery) : DeliveryReport :=
  { id := d.id, kind := d.kind, origin := d.origin, left := d.timer.left }

/-- What GET_STATION reports of a fitted station (R84). -/
def stationReport (n : Quad) (s : State) : StationReport :=
  let u := s.stations.get n
  { mode := u.mode, mask := u.mask, committed := u.committed, stack := u.stack,
    deliveries := u.deliveries.map deliveryReport, bay := u.bay, baySensor := s.plant.bay.get n, spur := u.spur,
    spurHeadSensor := s.plant.spurHead.get n, inTransfer := transferFrom s n, noRack := noRackLamp s n,
    spurFull := spurFullLamp s n, refused := refusedLamp s n, spurFullLeft := u.spurFull.left }

/-- GET_STATION (R84). -/
def requestGetStation (station : Byte) (s : State) : State × Result × ReplyBody :=
  match stationOf s station with
  | some n => (s, .ok, .station (stationReport n s))
  | none => (s, .range, .empty)

end Sys2Proof.Machine
end

