-- ==== Sys2Proof/Machine/Merge.lean ====
section
/-! DEFINITION. The merge MRG (Chapter 5): resolution of the spur heads, the grant, completion with the rack's identity,
jams and interruptions, and the tag reader line. -/

namespace Sys2Proof.Machine
open Sys2Proof

/-! ### Resolution of the spur heads (R88, R89) -/

/-- A spur head is eligible: its station is fitted, it is profiled and not refused, and it resolves (R88). -/
def eligible (s : State) (n : Quad) : Bool :=
  headWaiting s n && match (s.stations.get n).head with
    | some e => (resolveHead s e).isSome
    | none => false

/-- The REFUSED notice of a head (R89, Table 26). -/
def refusedNotice (s : State) (n : Quad) (e : SpurEntry) : Notice :=
  .admission (.refused n e.expected e.kind (headProgramme s e) e.forced.isSome)

/-- Resolve one profiled head that is not refused: a failed resolution sets its refused field and queues the notice
(R89). -/
def resolveStation (n : Quad) (s : State) : State :=
  match (s.stations.get n).head with
  | some e =>
    if headWaiting s n && !(resolveHead s e).isSome then
      enqueue (refusedNotice s n e) (setHead n { e with refused := true } s)
    else s
  | none => s

/-- Resolve every spur head that waits to be resolved (R89), in the order of the station numbers (DESIGN CHOICE, log entry
37). -/
def resolveHeads (s : State) : State := quads.foldl (fun s n => resolveStation n s) s

/-! ### The grant (R92 to R94) -/

/-- A grant opportunity: the conditions of R92. -/
def grantOpen (s : State) : Bool :=
  s.merge.state == .idle && s.track.infeed.isNone && s.track.motion == .none &&
    (s.track.state == .ready || s.track.state == .hold) &&
    (!s.ret.lane.isEmpty || quads.any (headWaiting s))

/-- The spurs in the order that starts after the rotation pointer (R93). -/
def rotationOrder (r : Quad) : List Quad := [r + 1, r + 2, r + 3, r]

/-- The requester chosen among the eligible ones (R93). -/
def chooseRequester (s : State) : Option Requester :=
  if !s.ret.lane.isEmpty then some .rewash
  else
    let order := (rotationOrder s.merge.rotation).filter (eligible s)
    match order.find? (fun n => (s.stations.get n).spur.length == Config.spurPlaces) with
    | some n => some (.spur n)
    | none => order.head?.map .spur

/-- The grant a requester's choice records (R94): none where the requester has nothing to grant. -/
def grantOf (s : State) : Requester → Option Grant
  | .rewash => s.ret.lane.head?.map .rewash
  | .spur n => (s.stations.get n).head.bind fun e => (resolveHead s e).map fun p => .spur n e.expected e.kind p

/-- The requester a grant names. -/
def Grant.requester : Grant → Requester
  | .spur n _ _ _ => .spur n
  | .rewash _ => .rewash

/-- The expected id of a spur grant. -/
def Grant.expected : Grant → Option RackId
  | .spur _ e _ _ => some e
  | .rewash _ => none

/-- A grant is made: it is recorded, the tag read queue is emptied, the pusher runs with its timer preset, and in HOLD the
reasons gain TRANSFER (R93, R94). -/
def makeGrant (g : Grant) (s : State) : State :=
  { s with
    merge := { s.merge with
      state := .transferring, grant := some g, tags := [], overrun := false, pusher := some g.requester,
      timer := .preset (seconds s.profile.values.transferLimit),
      rotation := match g with
        | .spur n _ _ _ => n
        | .rewash _ => s.merge.rotation },
    track := { s.track with
      holds := if s.track.state = .hold then { s.track.holds with transfer := true } else s.track.holds } }

/-- A grant opportunity is taken: the heads are resolved, and one eligible requester is granted (R89, R92). At the first
one after a warm start-up the refused heads are re-tested before (R90, log entry 21). -/
def grantOpportunity (s : State) : State :=
  if grantOpen s then
    let s1 := if s.merge.retest then retestHeads { s with merge := { s.merge with retest := false } } else s
    let s2 := resolveHeads s1
    match (chooseRequester s2).bind (grantOf s2) with
    | some g => makeGrant g s2
    | none => s2
  else s

/-! ### Identity (R102 to R104) -/

/-- The tag result (R102). -/
inductive TagResult where
  | none
  | one (id : RackId)
  | conflict
  deriving DecidableEq, Repr

/-- The ids of the GOOD reads. -/
def goodIds (tags : List TagRead) : List RackId := (tags.filter (·.good)).map (·.id)

/-- The tag read queue reduced to a tag result (R102). -/
def tagResult (tags : List TagRead) : TagResult :=
  match goodIds tags with
  | [] => .none
  | x :: xs => if xs.all (· == x) then .one x else .conflict

/-- The resolved id, its source and the notices due (Table 25). -/
def resolveIdentity (n : Quad) (expected : RackId) (tags : List TagRead) (overrun : Bool) :
    RackId × IdSource × List AdmissionNotice :=
  match tagResult tags with
  | .one x =>
    if expected = 0 ∨ expected = x then (x, .tag, []) else (x, .tag, [.mismatch n expected x overrun])
  | .none => if expected = 0 then (0, .none, []) else (expected, .expected, [])
  | .conflict =>
    if expected ≠ 0 ∧ expected ∈ goodIds tags then (expected, .expected, [])
    else (0, .none, [.conflict n expected tags overrun])

/-- The first holder of an id other than the granted head (R103, log entry 22). -/
def holderOf (granted : Quad) (id : RackId) (s : State) : Option Holder :=
  ((holders (some granted) s).find? fun h => h.2 == id).map (·.1)

/-- The holder is a resting one: a stack, a bay, a spur entry or the surplus queue (R103). -/
def Holder.resting : Holder → Bool
  | .stack _ | .bay _ | .spur _ | .surplus => true
  | _ => false

/-- An entry of this id becomes anonymous. -/
def RackEntry.forget (id : RackId) (e : RackEntry) : RackEntry := if e.id = id then { e with id := 0 } else e

/-- A spur entry of this expected id becomes anonymous. -/
def SpurEntry.forget (id : RackId) (e : SpurEntry) : SpurEntry := if e.expected = id then { e with expected := 0 } else e

/-- The entries of a spur forget an id; with `skipHead` the head keeps its own (R103). -/
def forgetSpur (skipHead : Bool) (id : RackId) (q : List SpurEntry) : List SpurEntry :=
  if skipHead then q.take 1 ++ q.tail.map (·.forget id) else q.map (·.forget id)

/-- The id held in a resting holder is set to 0 there; the granted head keeps its own (R103). -/
def forgetId (granted : Quad) (id : RackId) (h : Holder) (s : State) : State :=
  match h with
  | .stack n =>
    let u := s.stations.get n
    s.setStation n { u with stack := u.stack.map (·.forget id) }
  | .bay n =>
    let u := s.stations.get n
    s.setStation n { u with bay := u.bay.map (·.forget id) }
  | .spur n =>
    let u := s.stations.get n
    s.setStation n { u with spur := forgetSpur (n = granted) id u.spur }
  | .surplus => { s with ret := { s.ret with surplus := s.ret.surplus.map (·.forget id) } }
  | _ => s

/-- The outcome of the presence check: the final id and source, the notice due, and the state after (R103). -/
structure Presence where
  id : RackId
  source : IdSource
  notices : List AdmissionNotice
  state : State

/-- The presence check of a resolved id (R103). -/
def presenceCheck (n : Quad) (id : RackId) (source : IdSource) (overrun : Bool) (s : State) : Presence :=
  if id = 0 then ⟨id, source, [], s⟩
  else match holderOf n id s with
    | none => ⟨id, source, [], s⟩
    | some h =>
      if h.resting then ⟨id, source, [.moved n id h], forgetId n id h s⟩
      else ⟨0, .none, [.duplicate n id h overrun], s⟩

/-- The messages to the rack directory for the admitted rack: the admission request for a non-zero final id, then LOOSE
for an expected id that differs (R104). The flag says whether the record is TRACKED. -/
def sendAdmission (n : Quad) (final expected : RackId) (k : Kind) (s : State) : State × Bool :=
  let r := if final = 0 then (s, false) else admissionRequest final k n s
  (if expected ≠ 0 ∧ expected ≠ final then sendLocation expected .loose r.1 else r.1, r.2)

/-! ### Completion (R95, R105) -/

/-- The record built at the completion of a spur transfer (R105). -/
def builtRecord (n : Quad) (id : RackId) (k : Kind) (p : Snapshot) (source : IdSource) (tracked : Bool) : TrackRecord :=
  { id := id, kind := k, programme := some p, dose := 0, verdict := .none, rewashCount := 0, source := .station n,
    identity := source, tracked := tracked, leaving := false, destination := none }

/-- The record re-entered at the completion of a rewash transfer (R105). -/
def reentered (r : TrackRecord) : TrackRecord :=
  { r with dose := 0, verdict := .none, rewashCount := satAdd 3 r.rewashCount 1, source := .rewash, leaving := false,
           destination := none }

/-- The pusher stops and the transfer timer is cancelled. -/
def stopPusher (s : State) : State := { s with merge := { s.merge with pusher := none, timer := .idle } }

/-- The merge enters IDLE with no grant. -/
def mergeIdle (s : State) : State := { s with merge := { s.merge with state := .idle, grant := none } }

/-- Steps 2 to 6 of the completion of a spur transfer (R95). -/
def completeSpur (n : Quad) (expected : RackId) (k : Kind) (p : Snapshot) (s : State) : State :=
  let i := resolveIdentity n expected s.merge.tags s.merge.overrun
  let c := presenceCheck n i.1 i.2.1 s.merge.overrun s
  let d := sendAdmission n c.id expected k c.state
  let s1 := removeHead n (d.1.setPosition 0 (some (builtRecord n c.id k p c.source d.2)))
  enqueueAll ((i.2.2 ++ c.notices).map .admission) s1

/-- Steps 2 to 6 of the completion of a rewash transfer (R95, R105). -/
def completeRewash (s : State) : State :=
  match s.ret.lane with
  | r :: rest =>
    let s1 := if r.tracked then sendLocation r.id .track s else s
    { s1.setPosition 0 (some (reentered r)) with ret := { s1.ret with lane := rest } }
  | [] => s

/-- Completion is applied (R95): steps 1 to 8 in order. The lane's freed place and the end of the transfer re-test a held
step in one due evaluation, at step 7. -/
def completeTransfer (s : State) : State :=
  let s1 := stopPusher s
  match s.merge.grant with
  | some (.spur n e k p) => readSpurHead n (dueEvaluation (mergeIdle (completeSpur n e k p s1)))
  | some (.rewash _) => dueEvaluation (mergeIdle (completeRewash s1))
  | none => mergeIdle s1

/-! ### Timeout, interruption, resolution and settlement (R96 to R99) -/

/-- The transfer timer expires while TRANSFERRING (R96). -/
def jamTransfer (s : State) : State :=
  let s1 := stopPusher { s with merge := { s.merge with state := .jammed } }
  match s.merge.grant with
  | some g => enterJam .jamTransfer (.jamTransfer g.requester g.expected) s1
  | none => s1

/-- A chain opening reaches the merge (R97). -/
def mergeOpening (s : State) : State :=
  if s.merge.state = .transferring then
    stopPusher { s with merge := { s.merge with state := .interrupted } }
  else s

/-- The spur-head sensor of the spur a grant names is read (R78, R98, R99). -/
def readGranted (g : Option Grant) (s : State) : State :=
  match g with
  | some (.spur n _ _ _) => readSpurHead n s
  | _ => s

/-- The transfer is dropped: the grant is discarded, the merge enters IDLE and the spur-head sensor is read (R98). -/
def dropTransfer (s : State) : State := readGranted s.merge.grant (mergeIdle (stopPusher s))

/-- An interrupted transfer is resolved by the position-0 sensor (R98). -/
def resolveTransfer (s : State) : State := if s.plant.position0 then completeTransfer s else dropTransfer s

/-- The first RUN after an interruption resolves it (R98). -/
def resolveInterrupted (s : State) : State := if s.merge.state = .interrupted then resolveTransfer s else s

/-- The tag read queue is emptied and its overrun mark cleared. -/
def emptyTags (s : State) : State := { s with merge := { s.merge with tags := [], overrun := false } }

/-- A jammed transfer is settled by the first case of R99 that applies; the outcome with its requester and expected id, and
the state after. -/
def settleJam (s : State) : State × Option Settlement :=
  let s0 := emptyTags s
  match s.merge.grant with
  | none => (mergeIdle s0, none)
  | some g =>
    let told (o : SettleOutcome) : Option Settlement := some ⟨o, g.requester, g.expected⟩
    if s.plant.position0 then (completeTransfer s0, told .completed)
    else match g with
      | .rewash _ => (dropTransfer s0, told .kept)
      | .spur n e _ _ =>
        if s.plant.spurHead.get n then (dropTransfer s0, told .kept)
        else (readSpurHead n (mergeIdle (sendUnpin e .unknown (removeHead n s0))), told .lost)

/-! ### The tag reader line (R100, R101) -/

/-- A read enters the tag read queue; with 3 held it replaces the newest and sets the overrun mark (R101). -/
def queueTag (r : TagRead) (s : State) : State :=
  if s.merge.tags.length < Config.tagPlaces then { s with merge := { s.merge with tags := s.merge.tags ++ [r] } }
  else { s with merge := { s.merge with tags := s.merge.tags.dropLast ++ [r], overrun := true } }

/-- The read of a complete report: GOOD when the check matches and the id is not 0 (R100). -/
def tagReport (h l check : Byte) : TagRead :=
  { id := halfOf h l, good := check == (0xC3#8 ^^^ h ^^^ l) && halfOf h l != 0 }

/-- A byte on the tag reader line (R100). -/
def tagByte (b : Byte) (s : State) : State :=
  match s.merge.receiver with
  | .hunting =>
    if b = 0xC3#8 then
      { s with merge := { s.merge with receiver := .assembling [], tagGap := .preset Config.gapTime } }
    else s
  | .assembling [h, l] =>
    queueTag (tagReport h l b) { s with merge := { s.merge with receiver := .hunting, tagGap := .idle } }
  | .assembling bytes =>
    { s with merge := { s.merge with receiver := .assembling (bytes ++ [b]), tagGap := .preset Config.gapTime } }

/-- The gap limit passes between two bytes of a report, which is abandoned (R100). -/
def tagAbandon (s : State) : State := { s with merge := { s.merge with receiver := .hunting, tagGap := .idle } }

/-! ### Requests -/

/-- FORCE_PROGRAMME (R91). The refused field is cleared for a number of 0 too, so that the head is resolved at once through
the kind map (log entry 32). -/
def requestForceProgramme (station number : Byte) (s : State) : State × Result × ReplyBody :=
  match stationOf s station with
  | none => (s, .range, .empty)
  | some n =>
    if s.profile.values.tableLimit < number.toNat then (s, .range, .empty)
    else match (s.stations.get n).head with
      | none => (s, .state, .empty)
      | some e =>
        if transferFrom s n then (s, .state, .empty)
        else
          let p := programmeOf number
          if number ≠ 0 ∧ (descriptor s p).isNone then (s, .notFound, .empty)
          else
            let e' : SpurEntry := { e with forced := if number = 0 then none else some p, refused := false }
            let t := resolveStation n (setHead n e' s)
            (t, .ok, .head n (((t.stations.get n).head).getD e'))

/-- The outstanding grant as GET_MERGE reports it (R107). Of a rewash grant the kind of its record is given beside the id
(DESIGN CHOICE, log entry 42). -/
def grantReport (s : State) (g : Grant) : GrantReport :=
  let left := if s.merge.state = .transferring then s.merge.timer.left else 0
  match g with
  | .spur n e k p => { requester := .spur n, id := e, kind := k, programme := some p.number, left := left }
  | .rewash r =>
    { requester := .rewash, id := r.id, kind := r.kind, programme := r.programme.map (·.number), left := left }

/-- The state in which GET_MERGE asks whether a head would be eligible: the re-test owed after a warm start-up would come
first (R90, R107). -/
def opportunityView (s : State) : State := if s.merge.retest then retestHeads s else s

/-- GET_MERGE (R107). -/
def mergeReport (s : State) : MergeReport :=
  { state := s.merge.state, rotation := s.merge.rotation, grant := s.merge.grant.map (grantReport s),
    tags := s.merge.tags, overrun := s.merge.overrun, position0 := s.plant.position0,
    heads := (quads.filter (fitted s)).map fun n =>
      { station := n, head := (s.stations.get n).head, eligible := eligible (opportunityView s) n },
    laneHead := s.ret.lane.head?.map (·.id) }

end Sys2Proof.Machine
end

