-- ==== Sys2Proof/Machine/Return.lean ====
section
/-! DEFINITION. The clean end and return RTN (Chapter 7): unload and release, return transit, the router with its hold and
prompts, surplus feeds and deliveries. -/

namespace Sys2Proof.Machine
open Sys2Proof

/-! ### The clean end (R131 to R135) -/

/-- A confirm is completed: the oldest clean-end entry joins return transit, its directory entry is unpinned, and the
place freed is passed to the track (R133). -/
def completeConfirm (s : State) : State :=
  match s.ret.cleanEnd with
  | [] => s
  | e :: rest =>
    let t : Transit := ⟨e.record, .preset (seconds s.profile.values.travelTime)⟩
    let s1 := { s with ret := { s.ret with cleanEnd := rest, transit := s.ret.transit ++ [t], confirm := false } }
    dueEvaluation (sendUnpin e.record.id .onReturn s1)

/-- An unload confirm of an oldest entry that is not quarantined: completed when transit has room, otherwise held
(R132). -/
def confirmOldest (s : State) : State :=
  if s.ret.transit.length < Config.transitPlaces then completeConfirm s
  else { s with ret := { s.ret with confirm := true } }

/-- A press of the unload button (R132). -/
def pressUnload (s : State) : State :=
  match s.ret.cleanEnd with
  | [] => s
  | e :: _ => if s.ret.confirm || e.quarantined then s else confirmOldest s

/-- RELEASE_QUARANTINE with action RETURN (R134). -/
def releaseReturn (e : CleanEntry) (rest : List CleanEntry) (s : State) : State × Result × ReplyBody :=
  let s1 := { s with ret := { s.ret with cleanEnd := { e with quarantined := false } :: rest } }
  (confirmOldest s1, .ok, .released (s.ret.transit.length < Config.transitPlaces))

/-- RELEASE_QUARANTINE with action REWASH (R135). -/
def releaseRewash (e : CleanEntry) (rest : List CleanEntry) (s : State) : State × Result × ReplyBody :=
  if e.record.programme.isNone then (s, .state, .empty)
  else if Config.lanePlaces ≤ laneCount s then (s, .full, .empty)
  else
    let s1 := { s with ret := { s.ret with cleanEnd := rest, lane := s.ret.lane ++ [e.record] } }
    (dueEvaluation (sendLocation e.record.id .rewash s1), .ok, .empty)

/-- RELEASE_QUARANTINE (R134, R135). -/
def requestReleaseQuarantine (action : Byte) (s : State) : State × Result × ReplyBody :=
  match releaseIsReturn action with
  | none => (s, .range, .empty)
  | some toReturn =>
    match s.ret.cleanEnd with
    | [] => (s, .state, .empty)
    | e :: rest =>
      if !e.quarantined then (s, .state, .empty)
      else if toReturn then releaseReturn e rest s
      else releaseRewash e rest s

/-! ### Deliveries and surplus feeds (R144, R146) -/

/-- The time a delivery takes, by its origin (R144). -/
def deliveryTime (s : State) (n : Quad) : Origin → Nat
  | .router => seconds (s.profile.values.deliveryTime.get n)
  | .surplus => seconds s.profile.values.feedTime

/-- A delivery is started to a station (R144). -/
def startDelivery (n : Quad) (id : RackId) (k : Kind) (o : Origin) (s : State) : State :=
  let u := s.stations.get n
  let d : Delivery := ⟨id, k, o, .preset (deliveryTime s n o)⟩
  sendLocation id (.delivery n) (s.setStation n { u with deliveries := u.deliveries ++ [d] })

/-- The station of a list with the lowest committed count; between equal counts the first of the list (R141, R146). -/
def lowestCommitted (s : State) : List Quad → Option Quad
  | [] => none
  | n :: rest =>
    match lowestCommitted s rest with
    | none => some n
    | some m => if (s.stations.get n).committed ≤ (s.stations.get m).committed then some n else some m

/-- A station is fitted, OPEN and has a place for one more rack (R141, R146). -/
def stationOpen (s : State) (n : Quad) : Bool :=
  fitted s n && (s.stations.get n).mode == .openMode && (s.stations.get n).committed < Config.stackPlaces

/-- A kind mask accepts a kind; UNKNOWN is accepted whatever the mask (R141). -/
def KindMask.accepts (m : KindMask) : Kind → Bool
  | .unknown => true
  | .plate => m.plate
  | .cup => m.cup
  | .cutlery => m.cutlery
  | .tray => m.tray

/-- A station can take an arriving rack of this kind (R141). -/
def canTake (s : State) (k : Kind) (n : Quad) : Bool := stationOpen s n && (s.stations.get n).mask.accepts k

/-- A surplus feed is offered: the head of surplus is started to the open station with the lowest committed count; the flag
says whether a feed was started (R146). -/
def offerFeed (s : State) : State × Bool :=
  match s.ret.surplus, lowestCommitted s (quads.filter (stationOpen s)) with
  | e :: rest, some n =>
    (startDelivery n e.id e.kind .surplus { s with ret := { s.ret with surplus := rest } }, true)
  | _, _ => (s, false)

/-! ### The router (R138 to R143) -/

/-- Where a routing takes the head by steps 2 and 3 of R140. -/
inductive Route where
  | station (n : Quad)
  | surplus
  deriving DecidableEq, Repr

/-- The route of an arriving or held rack of this kind: a station, surplus, or none when it has to be held (R140 to
R143). -/
def routeOf (s : State) (k : Kind) : Option Route :=
  match lowestCommitted s (quads.filter (canTake s k)) with
  | some n => some (.station n)
  | none => if s.ret.surplus.length < Config.surplusPlaces then some .surplus else none

/-- The head leaves transit: the arrival spacing timer is preset and a hold ends (R138, R140, R142). -/
def leaveTransit (s : State) : State :=
  { s with ret := { s.ret with transit := s.ret.transit.tail, spacing := .preset Config.spacingTime, held := false } }

/-- A place freed in transit completes a pending confirm (R133, R140). -/
def completePending (s : State) : State :=
  if s.ret.confirm && s.ret.transit.length < Config.transitPlaces then completeConfirm s else s

/-- The rack of a record is routed to a station or to surplus, with the diverter set (R141, R143). -/
def placeRack (r : TrackRecord) (route : Route) (s : State) : State :=
  match route with
  | .station n =>
    startDelivery n r.id r.kind .router { s with ret := { s.ret with diverter := .station n } }
  | .surplus =>
    sendLocation r.id .surplus
      { s with ret := { s.ret with diverter := .surplus, surplus := s.ret.surplus ++ [⟨r.id, r.kind⟩] } }

/-- A routing of an arrival by steps 2 and 3 of R140, with the confirm it completes: the rack's new location is sent before
the confirm's RETURN (R140, log entry 43). -/
def routeHead (r : TrackRecord) (route : Route) (s : State) : State :=
  completePending (placeRack r route (leaveTransit s))

/-- A routing of a held head at a retry: the pending confirm completes, then the directory is sent the new location, as R142
lists them (R113, log entry 43). -/
def routeHeld (r : TrackRecord) (route : Route) (s : State) : State :=
  placeRack r route (completePending (leaveTransit s))

/-- The head goes to inspection (R140, step 1). -/
def inspectHead (r : TrackRecord) (e : DirEntry) (t : RetireTest) (s : State) : State :=
  let s1 := leaveTransit s
  let s2 := { s1 with ret :=
    { s1.ret with diverter := .inspect, inspections := satAdd 65535 s1.ret.inspections 1 } }
  completePending
    (enqueue (.rackRetired r.id r.kind e.washes e.short t) (sendLocation r.id .inspect s2))

/-- The RETURN_HOLD notice of the head (R142). -/
def holdNotice (r : TrackRecord) (s : State) : Notice :=
  .returnHold r.id r.kind s.ret.surplus.length (s.ret.transit.length - 1)

/-- An arrival that can be placed nowhere is held (R142). -/
def holdHead (r : TrackRecord) (s : State) : State :=
  enqueue (holdNotice r s) { s with ret := { s.ret with held := true } }

/-- The head of transit arrives at the router (R140). A routing to surplus is followed by one feed offer (R145); a confirm
pending completes before it (DESIGN CHOICE, log entry 43). -/
def arrive (r : TrackRecord) (s : State) : State :=
  let l := routerLookup r.id s
  match l.2 with
  | some (e, t) => inspectHead r e t l.1
  | none =>
    match routeOf l.1 r.kind with
    | some .surplus => (offerFeed (routeHead r .surplus l.1)).1
    | some route => routeHead r route l.1
    | none => holdHead r l.1

/-- The head arrives if the conditions of R138 hold now. -/
def tryArrival (s : State) : State :=
  match s.ret.transit with
  | t :: _ =>
    if t.travel = .expired ∧ s.ret.spacing = .expired ∧ s.inputs.arrival ∧ !s.interlock.live.estop ∧ !s.ret.held then
      arrive t.record s
    else s
  | [] => s

/-- The held head is retried (R142, R145). -/
def retryHeld (s : State) : State :=
  match s.ret.held, s.ret.transit with
  | true, t :: _ =>
    match routeOf s t.record.kind with
    | some route => routeHeld t.record route s
    | none => s
  | _, _ => s

/-- A prompt: a retry, a feed offer, and after a started feed one more retry; no action while the emergency-stop chain is
open (R145, R148). -/
def prompt (s : State) : State :=
  if s.interlock.live.estop then s
  else
    let f := offerFeed (retryHeld s)
    if f.2 then retryHeld f.1 else f.1

/-- A stray rack is reported, with the counts as they stand (R139). -/
def reportStray (s : State) : State := enqueue (.fault (.strayRack s.ret.inspections s.ret.surplus.length)) s

/-- The router arrival sensor becomes made: a stray rack while transit is empty, otherwise perhaps an arrival (R138,
R139). -/
def arrivalMade (s : State) : State := if s.ret.transit = [] then reportStray s else tryArrival s

/-! ### The emergency stop (R148) -/

/-- The emergency-stop chain opens: the conveyor stops; the return timers are paused while the chain is open (R148). -/
def returnOpening (s : State) : State := { s with ret := { s.ret with conveyor := false } }

/-- The emergency-stop chain clears: the conveyor runs, the clearance is a prompt, and a head that was due arrives after
it (R148). -/
def returnClearance (s : State) : State :=
  tryArrival (prompt { s with ret := { s.ret with conveyor := true } })

/-! ### GET_RETURN (R149) -/

/-- The programme number of a record, 0 for a phantom (R149). -/
def programmeNumber (r : TrackRecord) : Fin 8 := (r.programme.map (·.number)).getD 0

/-- One clean-end entry in the reply. -/
def cleanReport (e : CleanEntry) : CleanReport :=
  { id := e.record.id, kind := e.record.kind, programme := programmeNumber e.record, verdict := e.record.verdict,
    dose := e.record.dose, rewashCount := e.record.rewashCount, source := e.record.source,
    quarantined := e.quarantined }

/-- One rewash lane record in the reply. -/
def laneReport (r : TrackRecord) : LaneReport :=
  { id := r.id, kind := r.kind, programme := programmeNumber r, dose := r.dose, rewashCount := r.rewashCount,
    source := r.source }

/-- One transit record in the reply. -/
def transitReport (s : State) (i : Nat) (t : Transit) : TransitReport :=
  { id := t.record.id, kind := t.record.kind, programme := programmeNumber t.record, verdict := t.record.verdict,
    dose := t.record.dose, rewashCount := t.record.rewashCount, state := transitState s i t, left := t.travel.left }

/-- GET_RETURN (R149). -/
def returnReport (s : State) : ReturnReport :=
  let r := s.ret
  { cleanEnd := r.cleanEnd.map cleanReport, cleanEntries := r.cleanEnd.length, cleanReserved := cleanReserved s,
    confirm := r.confirm,
    quarantineLamp := quarantineLamp s, returnFullLamp := returnFullLamp s, lane := r.lane.map laneReport,
    laneReserved := laneReserved s, transit := r.transit.mapIdx (transitReport s), spacingLeft := r.spacing.left,
    arrival := s.inputs.arrival, surplus := r.surplus,
    deliveries := ⟨s.stations.one.deliveries.length, s.stations.two.deliveries.length,
      s.stations.three.deliveries.length, s.stations.four.deliveries.length⟩,
    surplusDeliveries := surplusDeliveries s, inspections := r.inspections, diverter := r.diverter,
    conveyor := r.conveyor, paused := returnPaused s }

end Sys2Proof.Machine
end

