-- ==== Sys2Proof/Machine/Interlock.lean ====
section
/-! DEFINITION. The interlock monitor ILK (Chapter 8): changes of its field inputs, release, the idle and recovery timers,
and the clearing of a fault. -/

namespace Sys2Proof.Machine
open Sys2Proof

/-! ### Member changes (R152 to R154) -/

/-- Replace the live members. -/
def setLive (m : Members) (s : State) : State := { s with interlock := { s.interlock with live := m } }

/-- The emergency-stop chain opens or closes: the track, the merge and the return act on it, then it is reported (R153,
log entry 25). -/
def changeEstop (isOpen : Bool) (s : State) : State :=
  if s.interlock.live.estop = isOpen then s
  else
    let s1 := setLive { s.interlock.live with estop := isOpen } s
    reportChange (if isOpen then returnOpening (mergeOpening (trackOpening s1)) else returnClearance s1)

/-- The door chain opens or closes: an opening reaches the track and the merge (R153). -/
def changeDoor (isOpen : Bool) (s : State) : State :=
  if s.interlock.live.door = isOpen then s
  else
    let s1 := setLive { s.interlock.live with door := isOpen } s
    reportChange (if isOpen then mergeOpening (trackOpening s1) else s1)

/-- The rinse flow is lost or returns (R154). -/
def changeRinse (noFlow : Bool) (s : State) : State :=
  if s.interlock.live.rinse = noFlow then s
  else reportChange (setLive { s.interlock.live with rinse := noFlow } s)

/-- The tank level becomes low or OK; a held step is re-tested (R9, R154). -/
def changeTank (low : Bool) (s : State) : State :=
  if s.interlock.live.tank = low then s
  else reportChange (dueEvaluation (setLive { s.interlock.live with tank := low } s))

/-! ### Release and report (R158, R159) -/

/-- RELEASE_INTERLOCKS as far as the group goes (R158). -/
def releaseGroup (s : State) : State :=
  if s.interlock.latched then
    let s1 := { s with interlock := { s.interlock with latched := false } }
    if s.interlock.live = s.interlock.snapshot then s1 else latch .release s1
  else s

/-- RELEASE_INTERLOCKS (R158). -/
def requestReleaseInterlocks (s : State) : State × Result × ReplyBody :=
  let t := releaseGroup s
  let i := t.interlock
  (t, .ok, .interlocksReleased i.snapshot i.live i.latched i.count i.cause)

/-- GET_INTERLOCKS (R159). -/
def interlockReport (s : State) : InterlockReport :=
  let i := s.interlock
  { snapshot := i.snapshot, live := i.live, latched := i.latched, count := i.count, cause := i.cause,
    idleLeft := i.idle.left, mode := s.profile.values.recoveryMode, recoveryLeft := max i.recovery.left i.limit.left,
    recoveryRun := s.dose.recoveryRun, heat := i.heat }

/-! ### Timers (R161, R164, R165) -/

/-- The idle timer expires (R24, R161). -/
def idleExpiry (s : State) : State :=
  let s1 := { s with interlock := { s.interlock with idle := .idle } }
  if idleInReady s then enterStandby s1 else s1

/-- The recovery timer expires: in RECOVERY the recovery is complete (R164). -/
def recoveryExpiry (s : State) : State :=
  let s1 := { s with interlock := { s.interlock with recovery := .idle } }
  if s.track.state = .recovery then completeRecovery s1 else s1

/-- The recovery limit timer expires: in RECOVERY the recovery has failed (R165). -/
def limitExpiry (s : State) : State :=
  let s1 := { s with interlock := { s.interlock with limit := .idle } }
  if s.track.state = .recovery then failRecovery s1 else s1

/-- The idle timer is preset when the track comes to stand in READY with the part idle, and stopped when it no longer
does (R161). -/
def idleTimerHook (before after : State) : State :=
  let preset : Timer :=
    if after.profile.values.idleLimit = 0 then .idle else .preset (tensOfSeconds after.profile.values.idleLimit)
  if idleInReady after then
    if idleInReady before then after else { after with interlock := { after.interlock with idle := preset } }
  else { after with interlock := { after.interlock with idle := .idle } }

/-! ### Clearing a fault (R23, R99, R167) -/

/-- The end of a CLEAR_FAULT that is taken: the track enters OFF, and JAM is cleared (R167). -/
def leaveFault (s : State) : State := setJam false (enterState .off s)

/-- CLEAR_FAULT (R23, R99, R167). -/
def requestClearFault (s : State) : State × Result × ReplyBody :=
  let s1 := { s with track := { s.track with fault := none } }
  match s.track.state, s.track.fault with
  | .fault, some .jamMotion =>
    if !chainsClosed s then (s, .state, .empty)
    else if s.plant.index then (leaveFault (completeMotion s1), .ok, .faultCleared .jamMotion .completed)
    else (leaveFault s1, .ok, .faultCleared .jamMotion .pending)
  | .fault, some .jamTransfer =>
    if !chainsClosed s then (s, .state, .empty)
    else
      let r := settleJam s1
      (leaveFault r.1, .ok, .faultCleared .jamTransfer ((r.2.map ClearOutcome.settled).getD .none))
  | .fault, some .recoveryFailed => (enterState .off s1, .ok, .faultCleared .recoveryFailed .none)
  | _, _ => (s, .state, .empty)

/-! ### RUN (R3) -/

/-- RUN is refused with STATE (R3). -/
def runRefused (s : State) : Bool :=
  !chainsClosed s || s.track.state == .fault || s.track.state == .purging || s.programmes.required

/-- RUN: the first one taken sets the sanitation lock, an interrupted transfer is resolved, and the track makes its move
(R3, R64, R98). -/
def requestRun (s : State) : State × Result × ReplyBody :=
  if runRefused s then (s, .state, .empty)
  else
    (runMove (resolveInterrupted { s with programmes := { s.programmes with lock := true } }), .ok, .empty)

end Sys2Proof.Machine
end

