-- ==== Sys2Proof/Machine/StartUp.lean ====
section
/-! DEFINITION. The plant profile and start-up (Chapter 9): the checks and clamps of the profile image, the resets with the
values each block takes, the restart lines, and the end of start-up. -/

namespace Sys2Proof.Machine
open Sys2Proof

/-! ### The profile image (R169 to R172, Table 37) -/

/-- A byte of the image; one that the configuration memory does not give reads 0xFF (R169). -/
def imageByte (img : List Byte) (i : Nat) : Nat := (img.getD i 0xFF#8).toNat

/-- A two-byte field of the image, high byte first. -/
def imageHalf (img : List Byte) (i : Nat) : Nat := imageByte img i * 256 + imageByte img (i + 1)

/-- The sum of the bytes 0..61 (R170). -/
def imageSum (img : List Byte) : Nat := ((List.range 62).map (imageByte img)).sum

/-- Both checks of R170 pass. -/
def imageSound (img : List Byte) : Bool := imageSum img == imageHalf img 62 && imageByte img 0 == 1

/-- The fields of the image that stay with the blocks of Table 37, as read; a recovery mode other than 1 reads FIXED. -/
def imageValues (img : List Byte) : ProfileValues :=
  { stations := imageByte img 1 / 16, sensors := imageByte img 1 % 16, tableLimit := imageByte img 2,
    motionLimit := imageByte img 3, transferLimit := imageByte img 4, idleLimit := imageByte img 5,
    recoveryMode := if imageByte img 6 = 1 then .temperature else .fixed, recoveryTime := imageByte img 7,
    recoveryLimit := imageByte img 8, recoveryMargin := imageByte img 9, travelTime := imageByte img 10,
    deliveryTime := ⟨imageByte img 11, imageByte img 12, imageByte img 13, imageByte img 14⟩,
    feedTime := imageByte img 15, inspectLimit := imageByte img 16, retireLimit := imageHalf img 17 }

/-- The sanitation settings of the image, as read (Table 37). -/
def imageSanitation (img : List Byte) : Sanitation :=
  { aBase := imageHalf img 19, aSpan := imageHalf img 21, bBase := imageHalf img 23, bSpan := imageHalf img 25,
    floor := imageHalf img 27, agree := imageByte img 29,
    credit := Vector.ofFn fun i : Fin 16 => imageHalf img (30 + 2 * i.val) }

/-- The nearer end of a range where a value lies outside (section 4.2 of the scope). -/
def clamp (lo hi v : Nat) : Nat := max lo (min hi v)

/-- Each field clamped to its range (R171). -/
def ProfileValues.clamp (v : ProfileValues) : ProfileValues :=
  { v with stations := Machine.clamp 1 4 v.stations, sensors := Machine.clamp 1 2 v.sensors,
           tableLimit := Machine.clamp 1 7 v.tableLimit, motionLimit := Machine.clamp 2 20 v.motionLimit,
           transferLimit := Machine.clamp 2 20 v.transferLimit, recoveryTime := Machine.clamp 1 60 v.recoveryTime,
           recoveryLimit := Machine.clamp 6 255 v.recoveryLimit, recoveryMargin := Machine.clamp 0 100 v.recoveryMargin,
           travelTime := Machine.clamp 5 250 v.travelTime,
           deliveryTime := ⟨Machine.clamp 2 120 v.deliveryTime.one, Machine.clamp 2 120 v.deliveryTime.two,
             Machine.clamp 2 120 v.deliveryTime.three, Machine.clamp 2 120 v.deliveryTime.four⟩,
           feedTime := Machine.clamp 2 120 v.feedTime }

/-- Each sanitation setting clamped to its range (R62, R171). -/
def Sanitation.clamp (v : Sanitation) : Sanitation :=
  { aBase := Machine.clamp 0 999 v.aBase, aSpan := Machine.clamp 100 2000 v.aSpan, bBase := Machine.clamp 0 999 v.bBase,
    bSpan := Machine.clamp 100 2000 v.bSpan, floor := Machine.clamp 600 950 v.floor, agree := Machine.clamp 0 100 v.agree,
    credit := v.credit.map (Machine.clamp 0 4095) }

/-- No field of a sound image needs a clamp; a recovery mode other than 0 or 1 counts as one (R171). -/
def imageInRange (img : List Byte) : Bool :=
  imageValues img == (imageValues img).clamp && imageSanitation img == (imageSanitation img).clamp &&
    imageByte img 6 ≤ 1

/-- The profile status of an image (R170). -/
def imageStatus (img : List Byte) : ProfileStatus :=
  if !imageSound img then .fault else if imageInRange img then .ok else .clamped

/-- The values of a complete image are handed to the blocks (R62, R170, R172). -/
def loadProfile (img : List Byte) (s : State) : State :=
  let st := imageStatus img
  if st = .fault then
    { s with
      profile := { s.profile with values := .builtIn, status := st },
      programmes := { s.programmes with sanitation := .builtIn, source := .builtIn, required := true } }
  else
    { s with
      profile := { s.profile with values := (imageValues img).clamp, status := st },
      programmes := { s.programmes with
        sanitation := (imageSanitation img).clamp, source := .profile, required := false } }

/-! ### Resets (R174, and the reset tables of the chapters) -/

/-- A restart line is asserted. -/
def lineAsserted (s : State) : Bool := s.coldLine || s.warmLine

/-- The start-up of the latest reset's kind begins from its start: the profile read, or for a warm start-up the settling
stage (R174, R176). -/
def beginStartUp (s : State) : State :=
  if s.resetKind = .warm then { s with phase := .settling, settle := .preset Config.settleTime }
  else { s with phase := .profileRead, settle := .idle, profile := { s.profile with reading := true, bits := 0 } }

/-- The part is held in reset while a line is asserted; otherwise its start-up begins (R174). A part that is held has the bit
count at 0, and a warm start-up that begins at once leaves it (DESIGN CHOICE, log entry 46). -/
def holdOrBegin (s : State) : State :=
  if lineAsserted s then { s with phase := .held, settle := .idle, profile := { s.profile with reading := false, bits := 0 } }
  else beginStartUp s

/-- The values every block takes at a power-on or cold reset; what stands outside the part is as it was. -/
def freshState (k : ResetKind) (c : ResetCause) (s : State) : State :=
  { State.reset with
    pending := s.pending, choices := s.choices, coldLine := s.coldLine, warmLine := s.warmLine, inputs := s.inputs,
    plant := s.plant, resetKind := k, resetCause := c }

/-- A power-on or cold reset is taken (R174). -/
def coldReset (k : ResetKind) (c : ResetCause) (s : State) : State := holdOrBegin (freshState k c s)

/-- TRK at a warm reset (R31, Table 11). -/
def Track.warm (t : Track) : Track :=
  { t with state := .off, runEnable := false, holds := .empty, fault := none, recoveryPending := false, purgeCount := 0,
           motionTimer := .idle, chainDrive := false, rewashGate := false }

/-- A station at a warm reset (R86, Table 23). -/
def StationUnit.warm (u : StationUnit) : StationUnit := { u with spurFull := .idle }

/-- MRG at a warm reset (R109, Table 27); the tag gap timer is stopped (DESIGN CHOICE, log entry 47). -/
def Merge.warm (m : Merge) : Merge :=
  { m with timer := .idle, pusher := none, rotation := 3, tags := [], overrun := false, receiver := .hunting,
           tagGap := .idle }

/-- ILK at a warm reset: JAM is clear, the timers stop and the heat-economy line is released (R155, R168). The live field
members, the snapshot, the flag, the count and the cause keep their values until the end of start-up latches the group anew
(DESIGN CHOICE, log entry 39). -/
def Interlock.warm (i : Interlock) : Interlock :=
  { i with live := { i.live with jam := false }, idle := .idle, recovery := .idle, limit := .idle, heat := false }

/-- SLK at a warm reset: counters and mask are kept (R191, Table 53), and the gap timer is stopped (DESIGN CHOICE, log entry
47). -/
def Link.warm (l : Link) : Link :=
  { l with assembly := [], gap := .idle, buffer := [], reply := none, transmitter := .idle, notices := [] }

/-- The values every block takes at a warm reset. -/
def warmState (s : State) : State :=
  { s with
    track := s.track.warm, dose := .fresh,
    stations := ⟨s.stations.one.warm, s.stations.two.warm, s.stations.three.warm, s.stations.four.warm⟩,
    merge := s.merge.warm, ret := { s.ret with conveyor := false }, interlock := s.interlock.warm,
    link := s.link.warm }

/-- A start-up of a power-on or cold reset has begun or is held (R174). -/
def coldUnderWay (s : State) : Bool :=
  s.phase != .running && s.resetKind != .warm

/-- A warm reset is taken (R174): during a power-on or cold start-up it begins that start-up again with the same kind and
cause, the link keeping its counters and mask as at any warm reset (R191, Table 53, log entry 40); during a warm start-up it
begins it again with the cause it had; otherwise it is a warm reset with this cause. -/
def warmReset (c : ResetCause) (s : State) : State :=
  if coldUnderWay s then { coldReset s.resetKind s.resetCause s with link := s.link.warm }
  else
    let cause := if s.phase = .running then c else s.resetCause
    holdOrBegin { warmState s with resetKind := .warm, resetCause := cause }

/-- The cold-restart line becomes asserted (R174). -/
def assertCold (s : State) : State :=
  let s1 := { s with coldLine := true }
  if s.coldLine || s.phase = .noSupply then s1 else coldReset .cold .line s1

/-- The warm-restart line becomes asserted; while the cold line is asserted, the cold line governs (R174). -/
def assertWarm (s : State) : State :=
  let s1 := { s with warmLine := true }
  if s.warmLine || s.coldLine || s.phase = .noSupply then s1 else warmReset .line s1

/-- A restart line is released; when none is asserted any more, the start-up begins (R174). -/
def releaseLine (l : RestartLine) (s : State) : State :=
  let s1 := match l with
    | .cold => { s with coldLine := false }
    | .warm => { s with warmLine := false }
  if s.phase = .held && !lineAsserted s1 then beginStartUp s1 else s1

/-- The supply falls below its operating level: the part is held in reset with the values of a power-on reset (R174, log
entry 13). -/
def loseSupply (s : State) : State :=
  let t := freshState .powerOn .supply s
  { t with phase := .noSupply, profile := { t.profile with reading := false } }

/-- The profile read completes with this image: it is checked and its values handed out, and the settling stage begins
(R169, R176). -/
def completeProfileRead (img : List Byte) (s : State) : State :=
  if s.phase = .profileRead then
    let s1 := loadProfile img s
    { s1 with phase := .settling, settle := .preset Config.settleTime,
              profile := { s1.profile with reading := false, bits := Config.profileBits } }
  else s

/-! ### The end of start-up (R176, R177) -/

/-- ILK reads the group from its inputs and latches it (R160). -/
def latchAtStart (s : State) : State :=
  let m : Members := ⟨s.inputs.estopOpen, s.inputs.doorOpen, s.inputs.noFlow, s.inputs.tankLow, false⟩
  let i := s.interlock
  enqueueInterlock (.interlock m m 1 .start)
    { s with interlock := { i with live := m, snapshot := m, latched := true, count := 1, cause := .start } }

/-- An extension timer that was RUNNING or EXPIRED is preset again with the F2 record's limit (R31, step 2). -/
def restartExtension (s : State) : State :=
  if s.track.extension = .idle then s
  else
    let limit := ((s.track.f2.bind (·.programme)).map (·.limit)).getD 0
    { s with track := { s.track with extension := extensionPreset limit } }

/-- A motion carried across a warm reset is resolved by the index sensor (R31, step 3): completion is applied, or the
track stands in STOPPED with the interrupted mark. -/
def resolveMotion (s : State) : State :=
  if s.track.motion = .none then s
  else if s.plant.index then completeMotion s
  else { s with track := { s.track with state := .stopped, motion := .interrupted } }

/-- A transfer carried across a warm reset is resolved by its sensors (R109; R31, step 4). -/
def resolveCarried (s : State) : State × Option Settlement :=
  match s.merge.state with
  | .idle => (s, none)
  | .transferring | .interrupted => (resolveTransfer s, none)
  | .jammed => settleJam s

/-- The track's restart at the end of a warm start-up (R31). -/
def restartTrack (s : State) : State :=
  let r := resolveCarried (resolveMotion (restartExtension (fixPeriod s)))
  if r.1.track.state = .stopped || r.2.isSome then enqueue (.state (stateReport r.2 r.1)) r.1 else r.1

/-- A delivery's timer at its full time again (R151). -/
def restartDelivery (s : State) (n : Quad) (d : Delivery) : Delivery :=
  { d with timer := .preset (deliveryTime s n d.origin) }

/-- A station's delivery timers at their full times again (R86, R151). -/
def restartDeliveries (n : Quad) (s : State) : State :=
  let u := s.stations.get n
  s.setStation n { u with deliveries := u.deliveries.map (restartDelivery s n) }

/-- The running parts of RTN at the end of a warm start-up (R151): every timer at its full time, a prompt, and the
RETURN_HOLD notice again for a head that is still held. -/
def restartReturn (s : State) : State :=
  let full : Timer := .preset (seconds s.profile.values.travelTime)
  let s1 := { s with ret := { s.ret with
    transit := s.ret.transit.map (fun t => { t with travel := full }), spacing := .preset Config.spacingTime } }
  let s2 := prompt (quads.foldl (fun s n => restartDeliveries n s) s1)
  match s2.ret.held, s2.ret.transit with
  | true, t :: _ => enqueue (holdNotice t.record s2) s2
  | _, _ => s2

/-- RTN at the end of a power-on or cold start-up: a rack at the router stop is reported as a stray (R150). -/
def strayAtStart (s : State) : State :=
  if s.inputs.arrival ∧ s.ret.transit = [] then reportStray s else s

/-- The end of start-up: every block takes up its work for the kind of reset (R176, R177, log entry 15). The spur-head sensors
are read in the order of the station numbers (R78; DESIGN CHOICE, log entry 44). -/
def endStartUp (s : State) : State :=
  let warm := s.resetKind == .warm
  let s1 := enqueue (.startUp s.resetKind s.resetCause s.profile.status) { s with phase := .running, settle := .idle }
  let s2 := latchAtStart s1
  let s3 := if warm then restartTrack s2 else s2
  let s4 := quads.foldl (fun s n => readSpurHead n s) s3
  let s5 := { s4 with ret := { s4.ret with conveyor := !s4.interlock.live.estop } }
  let s6 := if warm then restartReturn s5 else strayAtStart s5
  startSample { s6 with merge := { s6.merge with retest := warm } }

end Sys2Proof.Machine
end

