-- ==== Sys2Proof/Machine/Requests.lean ====
section
/-! DEFINITION. The execution of a request by the block that owns it (R182, R183), and the requests of the link itself. -/

namespace Sys2Proof.Machine
open Sys2Proof

/-- The mask SET_NOTIFY stores: bits 1 to 4 and 6 to 8 of the request, bits 0 and 5 set (R188). -/
def storedMask (mask : Half) : Half := (mask &&& 0x01DE#16) ||| 0x0021#16

/-- SET_NOTIFY (R188). -/
def requestSetNotify (mask : Half) (s : State) : State × Result × ReplyBody :=
  if mask &&& 0xFE00#16 ≠ 0 then (s, .range, .empty)
  else
    let m := storedMask mask
    ({ s with link := { s.link with mask := m } }, .ok, .notify m)

/-- RESTART: the reset is taken when the reply has been sent (R175). -/
def requestRestart (action : Byte) (s : State) : State × Result × ReplyBody :=
  match restartOfCode action with
  | some k => (s, .ok, .restart k)
  | none => (s, .range, .empty)

/-- LINK_STATUS (R189). -/
def linkReport (s : State) : LinkReport :=
  let l := s.link
  { crcErrors := l.crcErrors, framingErrors := l.framingErrors, overflows := l.overflows, discarded := l.discarded,
    queued := l.notices.length, mask := l.mask, status := s.profile.status }

/-- IDENTIFY (R190). -/
def identityReport (s : State) : IdentityReport :=
  let v := s.profile.values
  { stations := v.stations, sensors := v.sensors, tableLimit := v.tableLimit, status := s.profile.status,
    kind := s.resetKind }

/-- SET_STATION that is taken is passed to the return as a prompt (R79, R145). -/
def requestSetStationPrompted (station mode mask : Byte) (s : State) : State × Result × ReplyBody :=
  let r := requestSetStation station mode mask s
  if r.2.1 = .ok then (prompt r.1, r.2) else r

/-- The request is handed to the block that owns the matter: the state after, the result and what the reply carries. -/
def executeRequest (r : Request) (s : State) : State × Result × ReplyBody :=
  match r with
  | .identify => (s, .ok, .identity (identityReport s))
  | .linkStatus => (s, .ok, .linkStatus (linkReport s))
  | .setNotify m => requestSetNotify m s
  | .restart a => requestRestart a s
  | .run => requestRun s
  | .halt => requestHalt s
  | .standby => requestStandby s
  | .clearFault => requestClearFault s
  | .getTrack => (s, .ok, .track (trackReport s))
  | .purge => requestPurge s
  | .setProgramme n q d c x a w => requestSetProgramme n q d c x a w s
  | .getProgramme n => requestGetProgramme n s
  | .setKindMap u p c k t => requestSetKindMap u p c k t s
  | .getKindMap => requestGetKindMap s
  | .setSanitation ab as bb bs f g cr => requestSetSanitation (sanitationOf ab as bb bs f g cr) s
  | .getSanitation => requestGetSanitation s
  | .getRinse => (s, .ok, .rinse (rinseReport s))
  | .getStation n => requestGetStation n s
  | .setStation n m k => requestSetStationPrompted n m k s
  | .loadStack n c es => requestLoadStack n c es s
  | .clearStack n => requestClearStack n s
  | .getMerge => (s, .ok, .merge (mergeReport s))
  | .forceProgramme n p => requestForceProgramme n p s
  | .getReturn => (s, .ok, .returns (returnReport s))
  | .releaseQuarantine a => requestReleaseQuarantine a s
  | .getRecord i => requestGetRecord i s
  | .putRecord i k w sh d => requestPutRecord i k w sh d s
  | .dropRecord i => requestDropRecord i s
  | .flushDirectory => requestFlushDirectory s
  | .getInterlocks => (s, .ok, .interlocks (interlockReport s))
  | .releaseInterlocks => requestReleaseInterlocks s
  | .unknownKind _ => (s, .unknown, .empty)
  | .badLength _ => (s, .badLen, .empty)

/-- A waiting request is performed: one whose frame completed during start-up is answered STARTING and changes nothing, however
late its turn comes, and during start-up every request is; the others are executed (R176; R183, check 1). -/
def perform (w : Waiting) (s : State) : State × Result × ReplyBody :=
  if s.phase = .running ∧ w.starting = false then executeRequest w.request s else (s, .starting, .empty)

end Sys2Proof.Machine
end

