-- ==== Sys2Proof/Machine/Link.lean ====
section
/-! DEFINITION. The supervisory link SLK (Chapter 10): receive assembly, request buffer, reply slot, transmitter, and what
every command does at its end. -/

namespace Sys2Proof.Machine
open Sys2Proof

/-- The link receives and sends from the beginning of a start-up on; while the part is held in reset or has no supply it
does not (R174, R176). -/
def State.linkWorks (s : State) : Bool :=
  match s.phase with
  | .profileRead | .settling | .running => true
  | .noSupply | .held => false

/-! ### Execution of requests (R181 to R183) -/

/-- The oldest request is executed when the reply slot is empty; its reply enters the slot (R182). -/
def executeOldest (s : State) : State :=
  match s.link.reply, s.link.buffer with
  | none, w :: rest =>
    let t := perform w { s with link := { s.link with buffer := rest } }
    { t.1 with link := { t.1.link with reply := some ⟨replyKind w.request.kindByte, t.2.1, t.2.2⟩ } }
  | _, _ => s

/-- A frame that holds this request completes: it enters the buffer, with the mark of a request received during start-up
(R176), or is discarded and counted (R181), and is executed at once when the slot is empty (R182). -/
def submit (r : Request) (s : State) : State :=
  if s.link.buffer.length < Config.requestPlaces then
    executeOldest { s with link := { s.link with buffer := s.link.buffer ++ [⟨r, !s.isRunning⟩] } }
  else { s with link := { s.link with overflows := satAdd 65535 s.link.overflows 1 } }

/-! ### Receive assembly (R178 to R180) -/

/-- The states of the receive assembly (Table 39). -/
inductive AssemblyState where
  | hunting | kind | length | payload | check
  deriving DecidableEq, Repr

/-- The length byte of the frame in assembly. -/
def frameLength (a : List Byte) : Nat := (a.getD 2 0).toNat

/-- The state of the receive assembly, from the bytes it has stored (Table 39). -/
def assemblyState (a : List Byte) : AssemblyState :=
  if a.length = 0 then .hunting
  else if a.length = 1 then .kind
  else if a.length = 2 then .length
  else if a.length < 3 + frameLength a then .payload
  else .check

/-- Count a framing error (R189). -/
def countFraming (s : State) : State :=
  { s with link := { s.link with framingErrors := satAdd 65535 s.link.framingErrors 1 } }

/-- Count a CRC error (R189). -/
def countCrc (s : State) : State := { s with link := { s.link with crcErrors := satAdd 65535 s.link.crcErrors 1 } }

/-- Replace the bytes in assembly. -/
def setAssembly (a : List Byte) (s : State) : State := { s with link := { s.link with assembly := a } }

/-- The check of a frame that is whole: its CRC over kind, length and payload equals the one received (R179). -/
def frameSound (a : List Byte) : Bool :=
  crc16 ((a.drop 1).take (2 + frameLength a)) == halfAt a (3 + frameLength a)

/-- The receive assembly takes one byte (Table 39, R179, R180): the state after, and the stored bytes that are to be taken
again. A length byte that is a bad length is taken again as well (log entry 41). -/
def takeByte (b : Byte) (s : State) : State × List Byte :=
  let a := s.link.assembly ++ [b]
  match assemblyState s.link.assembly with
  | .hunting => (if b = 0x5A#8 then setAssembly [b] s else s, [])
  | .kind | .payload => (setAssembly a s, [])
  | .length => if 58 < b.toNat then (countFraming (setAssembly [] s), a.tail) else (setAssembly a s, [])
  | .check =>
    if a.length < 5 + frameLength a then (setAssembly a s, [])
    else if frameSound a then
      (submit (decodeRequest (a.getD 1 0) ((a.drop 3).take (frameLength a))) (setAssembly [] s), [])
    else (countCrc (setAssembly [] s), a.tail)

/-- Take bytes one after another, those given back by a dropped frame before the rest (R180). The first number bounds the
bytes taken; `receiveFuel` is more than any assembly needs. -/
def takeBytes : Nat → List Byte → State → State
  | fuel + 1, b :: rest, s =>
    let r := takeByte b s
    takeBytes fuel (r.2 ++ rest) r.1
  | _, _, s => s

/-- More bytes than one byte from the line can lead to: a frame stores at most 63, and each dropped lead gives back fewer
than it stored. -/
abbrev receiveFuel : Nat := 4096

/-- A byte from the supervisory line (R178, R179): the gap timer is preset at a byte that is taken; a byte whose stop bit
is low is discarded and abandons a frame in assembly. -/
def receiveByte (b : Byte) (stopHigh : Bool) (s : State) : State :=
  if stopHigh then
    takeBytes receiveFuel [b] { s with link := { s.link with gap := .preset Config.gapTime } }
  else if s.link.assembly = [] then s
  else countFraming { s with link := { s.link with assembly := [], gap := .idle } }

/-- The gap timer expires: a frame in assembly is abandoned and counted (R179). -/
def receiveGap (s : State) : State :=
  let s1 := { s with link := { s.link with gap := .idle } }
  if s.link.assembly = [] then s1 else countFraming (setAssembly [] s1)

/-! ### The transmitter (R185) -/

/-- The reset a reply asks for when its last byte has been sent (R175). -/
def Reply.restartKind (r : Reply) : Option ResetKind :=
  match r.body with
  | .restart k => some k
  | _ => none

/-- The reset that RESTART asks for (R174, R175). -/
def requestedReset (k : ResetKind) (s : State) : State :=
  match k with
  | .warm => warmReset .request s
  | _ => coldReset .cold .request s

/-- The transmitter ends a message (R185). At the end of a reply the slot empties, a requested reset is taken, and
otherwise a waiting request is executed (R175, R182). -/
def endTransmission (s : State) : State :=
  let s1 := { s with link := { s.link with transmitter := .idle } }
  match s.link.transmitter, s.link.reply with
  | .reply, some r =>
    match r.restartKind with
    | some k => requestedReset k s1
    | none => executeOldest { s1 with link := { s1.link with reply := none } }
  | _, _ => s1

/-- An idle transmitter chooses a message: the reply, or else the first notice, which leaves the queue (R185). -/
def chooseMessage (s : State) : State :=
  match s.link.transmitter, s.link.reply, s.link.notices with
  | .idle, some _, _ => { s with link := { s.link with transmitter := .reply } }
  | .idle, none, n :: rest => { s with link := { s.link with transmitter := .notice n, notices := rest } }
  | _, _, _ => s

/-! ### The end of every command -/

/-- What follows in the same action once a command's own effect is done: a due evaluation and a grant opportunity that it
opened (R7, R92, log entry 8), the idle timer (R161), and the transmitter's choice (R185, log entry 9). -/
def conclude (before after : State) : State :=
  chooseMessage
    (if after.phase = .running then idleTimerHook before (grantOpportunity (dueEvaluation after)) else after)

/-- An effect that is acted on only once start-up has ended (R176). -/
def whenRunning (f : State → State) (s : State) : State := if s.phase = .running then f s else s

/-- An effect of the supervisory line, which works from the beginning of a start-up on (R176). -/
def whenLinked (f : State → State) (s : State) : State := if s.linkWorks then f s else s

/-- An effect of a timer's expiry: it happens only while the timer runs (log entry 7). -/
def ifTimerRuns (t : Timer) (f : State → State) (s : State) : State := if t.isRunning then f s else s

/-- The part after an event of the plant or of a timer. -/
def event (f : State → State) (s : State) : State := conclude s (whenRunning f s)

/-- The part after an event that carries the readings of the sensors its action reads (log entry 4). -/
def eventAt (p : Plant) (f : State → State) (s : State) : State := conclude s (whenRunning f (s.sense p))

/-- The part after a request frame has completed (R181, log entry 5). -/
def requested (r : Request) (s : State) : State := conclude s (whenLinked (submit r) s)

/-- The part after a request frame has completed whose execution may read sensors (R181, log entries 4 and 5). -/
def requestedAt (p : Plant) (r : Request) (s : State) : State := conclude s (whenLinked (submit r) (s.sense p))

/-- What a command answers. -/
abbrev Answer := Host.Outcome State Fault Refusal

end Sys2Proof.Machine
end

