-- ==== Sys2Proof/Machine/Clock.lean ====
section
/-! DEFINITION. The clock of the part (log entry 6): which timers have run out, which of their expiries is taken, and what
10 ms without an event do. -/

namespace Sys2Proof.Machine
open Sys2Proof

/-- The timer has counted its time down and its expiry has not been taken yet. -/
def Timer.ranOut : Timer → Bool
  | .running 0 => true
  | _ => false

/-- One step of 10 ms of a timer. -/
def Timer.tick : Timer → Timer
  | .running n => .running (n - 1)
  | t => t

/-- The expiry of a timer, if it has run out. -/
def expiryOf (t : Timer) (c : Instr) : List Instr := if t.ranOut then [c] else []

/-- The timers that have run out while the part works, by the commands that take their expiries. -/
def runOutRunning (s : State) : List Instr :=
  expiryOf s.link.gap .receiveGapExpiry ++ expiryOf s.merge.tagGap .tagGapExpiry ++
  expiryOf s.track.stepTimer .stepTimerExpiry ++ expiryOf s.track.motionTimer .motionTimeout ++
  expiryOf s.track.extension .extensionExpiry ++ expiryOf s.interlock.idle .idleTimerExpiry ++
  expiryOf s.interlock.recovery .recoveryTimerExpiry ++ expiryOf s.interlock.limit .recoveryLimitExpiry ++
  expiryOf s.dose.cycle .sampleCycleExpiry ++ expiryOf s.merge.timer .transferTimeout ++
  (quads.flatMap fun n => expiryOf (s.stations.get n).spurFull (.spurFullTimerExpiry n)) ++
  (if returnPaused s then []
   else
    expiryOf s.ret.spacing .spacingTimerExpiry ++
    (s.ret.transit.mapIdx fun i t => expiryOf t.travel (.travelTimerExpiry i)).flatten ++
    (quads.flatMap fun n =>
      ((s.stations.get n).deliveries.mapIdx fun i d => expiryOf d.timer (.deliveryCompletion n i)).flatten))

/-- The timers that have run out (R176): during start-up only the gap timer of the supervisory line and the settling stage
run; the end of the settling stage reads the sensors as they stand. -/
def runOut (s : State) : List Instr :=
  match s.phase with
  | .running => runOutRunning s
  | .settling => expiryOf s.link.gap .receiveGapExpiry ++ expiryOf s.settle (.endOfStartUp s.plant)
  | .profileRead => expiryOf s.link.gap .receiveGapExpiry
  | .held | .noSupply => []

/-- The expiry that is taken next: of several that have run out, the one the free value names (log entry 6). -/
def nextExpiry (s : State) : Option Instr :=
  let q := runOut s
  q[Config.tieOrder s.choices % q.length]?

/-- One of several choices has been made. -/
def countChoice (s : State) : State := { s with choices := s.choices + 1 }

/-- 10 ms of a delivery. -/
def Delivery.tick (d : Delivery) : Delivery := { d with timer := d.timer.tick }

/-- 10 ms of a station's timers; its delivery timers stand while the return is paused (R148). -/
def StationUnit.tick (paused : Bool) (u : StationUnit) : StationUnit :=
  { u with spurFull := u.spurFull.tick,
           deliveries := if paused then u.deliveries else u.deliveries.map Delivery.tick }

/-- 10 ms of the return's own timers (R148). -/
def Return.tick (paused : Bool) (r : Return) : Return :=
  if paused then r
  else { r with spacing := r.spacing.tick, transit := r.transit.map fun t => { t with travel := t.travel.tick } }

/-- 10 ms of every timer of a working part. -/
def tickRunning (s : State) : State :=
  let p := returnPaused s
  { s with
    track := { s.track with stepTimer := s.track.stepTimer.tick, extension := s.track.extension.tick,
                            motionTimer := s.track.motionTimer.tick },
    dose := { s.dose with cycle := s.dose.cycle.tick },
    merge := { s.merge with timer := s.merge.timer.tick, tagGap := s.merge.tagGap.tick },
    stations := ⟨s.stations.one.tick p, s.stations.two.tick p, s.stations.three.tick p, s.stations.four.tick p⟩,
    ret := s.ret.tick p,
    interlock := { s.interlock with idle := s.interlock.idle.tick, recovery := s.interlock.recovery.tick,
                                    limit := s.interlock.limit.tick },
    link := { s.link with gap := s.link.gap.tick } }

/-- 10 ms of the supervisory gap timer. -/
def tickGap (s : State) : State := { s with link := { s.link with gap := s.link.gap.tick } }

/-- 10 ms of the profile read: 100 more bits at 10 kHz; the 512th comes with PROFILE_READ_COMPLETE (R169, log entry
27). -/
def tickRead (s : State) : State :=
  { s with profile := { s.profile with
      bits := min (Config.profileBits - 1) (s.profile.bits + Config.profileBitsPerTick) } }

/-- 10 ms without an event (section 4.3 of the scope; R176 during start-up; R174 in reset). -/
def tick (s : State) : State :=
  match s.phase with
  | .running => tickRunning s
  | .settling => tickGap { s with settle := s.settle.tick }
  | .profileRead => tickGap (tickRead s)
  | .held | .noSupply => s

end Sys2Proof.Machine
end

