-- ==== Sys2Proof/Machine/DoseCommands.lean ====
section
/-! DEFINITION. The events of the rinse dose unit. -/

namespace Sys2Proof.Machine
open Sys2Proof

/-- SAMPLE_CYCLE_EXPIRY (R32). -/
def execSampleCycleExpiry (s : State) : Answer := .next (event (ifTimerRuns s.dose.cycle startSample) s)

/-- CONVERSION_A_COMPLETE (R33). -/
def execConversionAComplete (code : Code) (s : State) : Answer := .next (event (conversionA code) s)

/-- CONVERSION_B_COMPLETE (R33). -/
def execConversionBComplete (code : Code) (s : State) : Answer := .next (event (conversionB code) s)

end Sys2Proof.Machine
end

