-- ==== Sys2Proof/Machine/InterlockCommands.lean ====
section
/-! DEFINITION. The events of the interlock inputs. -/

namespace Sys2Proof.Machine
open Sys2Proof

/-- ESTOP_CHAIN_CHANGE (R148, R153, R156). -/
def execEstopChainChange (isOpen : Bool) (s : State) : Answer :=
  .next (conclude s (whenRunning (changeEstop isOpen) { s with inputs := { s.inputs with estopOpen := isOpen } }))

/-- DOOR_CHAIN_CHANGE (R153, R156). -/
def execDoorChainChange (isOpen : Bool) (s : State) : Answer :=
  .next (conclude s (whenRunning (changeDoor isOpen) { s with inputs := { s.inputs with doorOpen := isOpen } }))

/-- RINSE_FLOW_CHANGE (R154, R156): `flow` is whether the switch shows flow. -/
def execRinseFlowChange (flow : Bool) (s : State) : Answer :=
  .next (conclude s (whenRunning (changeRinse !flow) { s with inputs := { s.inputs with noFlow := !flow } }))

/-- TANK_LEVEL_CHANGE (R9, R154, R156): `low` is whether the switch shows low. -/
def execTankLevelChange (low : Bool) (s : State) : Answer :=
  .next (conclude s (whenRunning (changeTank low) { s with inputs := { s.inputs with tankLow := low } }))

end Sys2Proof.Machine
end

