-- ==== Sys2Proof/Machine/LinkCommands.lean ====
section
/-! DEFINITION. The events of the supervisory line and of the tag reader line. -/

namespace Sys2Proof.Machine
open Sys2Proof

/-- SUPERVISORY_BYTE_RECEIVED (R178 to R182): the receive assembly takes a byte. The sensors a completed request may read
stand as `p` gives them. -/
def execSupervisoryByteReceived (b : Byte) (stopHigh : Bool) (p : Plant) (s : State) : Answer :=
  .next (conclude s (whenLinked (receiveByte b stopHigh) (s.sense p)))

/-- RECEIVE_GAP_EXPIRY (R179): the gap timer of the receive assembly expires. -/
def execReceiveGapExpiry (s : State) : Answer :=
  .next (conclude s (whenLinked (ifTimerRuns s.link.gap receiveGap) s))

/-- TRANSMIT_COMPLETE (R175, R182, R185): the transmitter ends a message. The sensors a request waiting in the buffer may
read stand as `p` gives them. -/
def execTransmitComplete (p : Plant) (s : State) : Answer :=
  .next (conclude s (whenLinked endTransmission (s.sense p)))

/-- TAG_BYTE_RECEIVED (R100, R101); during start-up the byte is discarded (R176). -/
def execTagByteReceived (b : Byte) (s : State) : Answer := .next (event (tagByte b) s)

/-- TAG_GAP_EXPIRY (R100): a gap abandons the report in assembly. -/
def execTagGapExpiry (s : State) : Answer := .next (event (ifTimerRuns s.merge.tagGap tagAbandon) s)

end Sys2Proof.Machine
end

