-- ==== Sys2Proof/Machine/MergeCommands.lean ====
section
/-! DEFINITION. The events of the merge. -/

namespace Sys2Proof.Machine
open Sys2Proof

/-- The position-0 sensor is made: a transfer in TRANSFERRING completes (R95). -/
def position0Made (s : State) : State := if s.merge.state = .transferring then completeTransfer s else s

/-- TRANSFER_COMPLETION (R95, R102 to R105). -/
def execTransferCompletion (p : Plant) (s : State) : Answer :=
  .next (eventAt { p with position0 := true } position0Made s)

/-- The transfer timer expires (R96). -/
def transferExpiry (s : State) : State := if s.merge.state = .transferring then jamTransfer s else s

/-- TRANSFER_TIMEOUT (R96). -/
def execTransferTimeout (s : State) : Answer := .next (event (ifTimerRuns s.merge.timer transferExpiry) s)

end Sys2Proof.Machine
end

