-- ==== Sys2Proof/Machine/RequestCommands.lean ====
section
/-! DEFINITION. The host requests as commands: each is the completion of its frame, executed at once when the reply slot is empty and
buffered otherwise (R181, R182); the rule named gives what its execution does. -/

namespace Sys2Proof.Machine
open Sys2Proof

/-- IDENTIFY (R190): its request frame completes. -/
def execIdentify (s : State) : Answer := .next (requested (.identify) s)

/-- LINK_STATUS (R189): its request frame completes. -/
def execLinkStatus (s : State) : Answer := .next (requested (.linkStatus) s)

/-- SET_NOTIFY (R188): its request frame completes. -/
def execSetNotify (mask : Half) (s : State) : Answer := .next (requested (.setNotify mask) s)

/-- RESTART (R175): its request frame completes. -/
def execRestart (action : Byte) (s : State) : Answer := .next (requested (.restart action) s)

/-- RUN (R3, R22, R98, R163): its request frame completes. The sensors its action may read stand as `p` gives them (log entry 4). -/
def execRun (p : Plant) (s : State) : Answer := .next (requestedAt p (.run) s)

/-- HALT (R4, R27): its request frame completes. -/
def execHalt (s : State) : Answer := .next (requested (.halt) s)

/-- STANDBY (R24): its request frame completes. -/
def execStandby (s : State) : Answer := .next (requested (.standby) s)

/-- CLEAR_FAULT (R23, R99, R167): its request frame completes. The sensors its action may read stand as `p` gives them (log entry 4). -/
def execClearFault (p : Plant) (s : State) : Answer := .next (requestedAt p (.clearFault) s)

/-- GET_TRACK (R29): its request frame completes. -/
def execGetTrack (s : State) : Answer := .next (requested (.getTrack) s)

/-- PURGE (R25, R26): its request frame completes. -/
def execPurge (s : State) : Answer := .next (requested (.purge) s)

/-- SET_PROGRAMME (R55, R56): its request frame completes. -/
def execSetProgramme (number present divisor : Byte) (required : Half) (limit allowed rewash : Byte)
    (s : State) : Answer :=
  .next (requested (.setProgramme number present divisor required limit allowed rewash) s)

/-- GET_PROGRAMME (R57): its request frame completes. -/
def execGetProgramme (number : Byte) (s : State) : Answer := .next (requested (.getProgramme number) s)

/-- SET_KIND_MAP (R59): its request frame completes. -/
def execSetKindMap (unknown plate cup cutlery tray : Byte) (s : State) : Answer :=
  .next (requested (.setKindMap unknown plate cup cutlery tray) s)

/-- GET_KIND_MAP (R59): its request frame completes. -/
def execGetKindMap (s : State) : Answer := .next (requested (.getKindMap) s)

/-- SET_SANITATION (R63): its request frame completes. -/
def execSetSanitation (aBase aSpan bBase bSpan floor : Half) (agree : Byte) (credit : Vector Half 16)
    (s : State) : Answer :=
  .next (requested (.setSanitation aBase aSpan bBase bSpan floor agree credit) s)

/-- GET_SANITATION (R65): its request frame completes. -/
def execGetSanitation (s : State) : Answer := .next (requested (.getSanitation) s)

/-- GET_RINSE (R50): its request frame completes. -/
def execGetRinse (s : State) : Answer := .next (requested (.getRinse) s)

/-- GET_STATION (R84): its request frame completes. The sensors its action may read stand as `p` gives them (log entry 4). -/
def execGetStation (station : Byte) (p : Plant) (s : State) : Answer := .next (requestedAt p (.getStation station) s)

/-- SET_STATION (R79): its request frame completes. -/
def execSetStation (station mode mask : Byte) (s : State) : Answer :=
  .next (requested (.setStation station mode mask) s)

/-- LOAD_STACK (R81): its request frame completes. -/
def execLoadStack (station count : Byte) (entries : List LoadEntry) (s : State) : Answer :=
  .next (requested (.loadStack station count entries) s)

/-- CLEAR_STACK (R82): its request frame completes. -/
def execClearStack (station : Byte) (s : State) : Answer := .next (requested (.clearStack station) s)

/-- GET_MERGE (R107): its request frame completes. The sensors its action may read stand as `p` gives them (log entry 4). -/
def execGetMerge (p : Plant) (s : State) : Answer := .next (requestedAt p (.getMerge) s)

/-- FORCE_PROGRAMME (R91): its request frame completes. -/
def execForceProgramme (station number : Byte) (s : State) : Answer :=
  .next (requested (.forceProgramme station number) s)

/-- GET_RETURN (R149): its request frame completes. -/
def execGetReturn (s : State) : Answer := .next (requested (.getReturn) s)

/-- RELEASE_QUARANTINE (R134, R135): its request frame completes. -/
def execReleaseQuarantine (action : Byte) (s : State) : Answer := .next (requested (.releaseQuarantine action) s)

/-- GET_RECORD (R124): its request frame completes. -/
def execGetRecord (id : RackId) (s : State) : Answer := .next (requested (.getRecord id) s)

/-- PUT_RECORD (R125, R126): its request frame completes. -/
def execPutRecord (id : RackId) (kind : Byte) (washes : Half) (short : Byte) (last : Half) (s : State) : Answer :=
  .next (requested (.putRecord id kind washes short last) s)

/-- DROP_RECORD (R127): its request frame completes. -/
def execDropRecord (id : RackId) (s : State) : Answer := .next (requested (.dropRecord id) s)

/-- FLUSH_DIRECTORY (R128): its request frame completes. -/
def execFlushDirectory (s : State) : Answer := .next (requested (.flushDirectory) s)

/-- GET_INTERLOCKS (R159): its request frame completes. -/
def execGetInterlocks (s : State) : Answer := .next (requested (.getInterlocks) s)

/-- RELEASE_INTERLOCKS (R158): its request frame completes. -/
def execReleaseInterlocks (s : State) : Answer := .next (requested (.releaseInterlocks) s)

end Sys2Proof.Machine
end

