-- ==== Sys2Proof/Machine/ReturnCommands.lean ====
section
/-! DEFINITION. The events of the clean end and return. -/

namespace Sys2Proof.Machine
open Sys2Proof

/-- UNLOAD_BUTTON (R132, R133). -/
def execUnloadButton (s : State) : Answer := .next (event pressUnload s)

/-- The timers of the return do not run while the emergency-stop chain is open (R148). -/
def ifReturnRuns (f : State → State) (s : State) : State := if returnPaused s then s else f s

/-- The travel timer at a place of transit has expired; the head may arrive (R137, R138). -/
def travelEnds (i : Nat) (s : State) : State :=
  match s.ret.transit[i]? with
  | some t =>
    if t.travel.isRunning then
      tryArrival { s with ret := { s.ret with transit := s.ret.transit.set i { t with travel := .expired } } }
    else s
  | none => s

/-- TRAVEL_TIMER_EXPIRY (R137, R138). -/
def execTravelTimerExpiry (i : Nat) (s : State) : Answer := .next (event (ifReturnRuns (travelEnds i)) s)

/-- The arrival spacing timer has expired; the head may arrive (R138). -/
def spacingEnds (s : State) : State := tryArrival { s with ret := { s.ret with spacing := .expired } }

/-- SPACING_TIMER_EXPIRY (R138). -/
def execSpacingTimerExpiry (s : State) : Answer :=
  .next (event (ifReturnRuns (ifTimerRuns s.ret.spacing spacingEnds)) s)

/-- The router arrival sensor, which was clear or made before, is clear or made now: only its becoming made is acted on (R138,
R139, log entry 30). -/
def arrivalSensor (before made : Bool) (s : State) : State := if made && !before then arrivalMade s else s

/-- ROUTER_ARRIVAL_SENSOR (R138 to R143). -/
def execRouterArrivalSensor (made : Bool) (s : State) : Answer :=
  .next (conclude s (whenRunning (arrivalSensor s.inputs.arrival made) { s with inputs := { s.inputs with arrival := made } }))

end Sys2Proof.Machine
end

