-- ==== Sys2Proof/Machine/StartUpCommands.lean ====
section
/-! DEFINITION. The resets, the profile read and the end of start-up as commands. -/

namespace Sys2Proof.Machine
open Sys2Proof

/-- POWER_ON_RESET (R174): the supply reaches its operating level. -/
def execPowerOnReset (s : State) : Answer := .next (coldReset .powerOn .supply s)

/-- COLD_RESTART_LINE (R174): the line becomes asserted. -/
def execColdRestartLine (s : State) : Answer := .next (assertCold s)

/-- WARM_RESTART_LINE (R174): the line becomes asserted. -/
def execWarmRestartLine (s : State) : Answer := .next (assertWarm s)

/-- RESTART_LINE_RELEASED (R174). -/
def execRestartLineReleased (line : RestartLine) (s : State) : Answer := .next (releaseLine line s)

/-- PROFILE_READ_COMPLETE (R169 to R172). -/
def execProfileReadComplete (image : List Byte) (s : State) : Answer := .next (completeProfileRead image s)

/-- END_OF_START_UP (R176, R177): the settling stage ends. The sensors stand as `p` gives them. -/
def execEndOfStartUp (p : Plant) (s : State) : Answer :=
  .next (if s.phase = .settling then conclude s (endStartUp (s.sense p)) else s.sense p)

/-- SUPPLY_BELOW_OPERATING_LEVEL (R174). -/
def execSupplyBelowOperatingLevel (s : State) : Answer := .next (loseSupply s)

end Sys2Proof.Machine
end

