-- ==== Sys2Proof/Machine/StationCommands.lean ====
section
/-! DEFINITION. The events of the loading stations. -/

namespace Sys2Proof.Machine
open Sys2Proof

/-- An effect of a field input of a station, which is read only at a fitted one (R68). -/
def atFitted (n : Quad) (f : State → State) (s : State) : State := if fitted s n then f s else s

/-- A stack-lift, passed on to the return as a pop (R71, R145). -/
def liftStack (n : Quad) (s : State) : State := prompt (popStack n s)

/-- STACK_LIFT (R71, R72). -/
def execStackLift (n : Quad) (s : State) : Answer := .next (event (atFitted n (liftStack n)) s)

/-- SEND_BUTTON (R73, R74). The bay sensor stands as `p` gives it. -/
def execSendButton (n : Quad) (p : Plant) (s : State) : Answer := .next (eventAt p (atFitted n (pressSend n)) s)

/-- The SPUR FULL lamp goes out (R74). -/
def spurFullOut (n : Quad) (s : State) : State := s.setStation n { s.stations.get n with spurFull := .idle }

/-- SPUR_FULL_TIMER_EXPIRY (R74). -/
def execSpurFullTimerExpiry (n : Quad) (s : State) : Answer :=
  .next (event (ifTimerRuns (s.stations.get n).spurFull (spurFullOut n)) s)

/-- A change of the spur-head sensor is not acted on while a transfer from the spur is in flight (R76). -/
def ifNoTransfer (n : Quad) (f : State → State) (s : State) : State := if transferFrom s n then s else f s

/-- SPUR_HEAD_MADE (R76, R78). The profile sensor stands as `p` gives it. -/
def execSpurHeadMade (n : Quad) (p : Plant) (s : State) : Answer :=
  .next (eventAt { p with spurHead := p.spurHead.set n true } (atFitted n (ifNoTransfer n (profileHead n))) s)

/-- SPUR_HEAD_CLEAR (R77). -/
def execSpurHeadClear (n : Quad) (s : State) : Answer :=
  .next (eventAt { s.plant with spurHead := s.plant.spurHead.set n false }
    (atFitted n (ifNoTransfer n (withdrawHead n))) s)

/-- A delivery's timer expires; it does not run while the return is paused (R70, R148). -/
def deliveryExpiry (n : Quad) (i : Nat) (s : State) : State :=
  match (s.stations.get n).deliveries[i]? with
  | some d => if d.timer.isRunning && !returnPaused s then completeDelivery n i s else s
  | none => s

/-- DELIVERY_COMPLETION (R70, R144). -/
def execDeliveryCompletion (n : Quad) (i : Nat) (s : State) : Answer := .next (event (deliveryExpiry n i) s)

end Sys2Proof.Machine
end

