-- ==== Sys2Proof/Machine/TrackCommands.lean ====
section
/-! DEFINITION. The events of the wash track and its timers. -/

namespace Sys2Proof.Machine
open Sys2Proof

/-- The step timer has expired and the step-due mark is set (R5). -/
def stepFallsDue (s : State) : State := { s with track := { s.track with stepTimer := .expired, stepDue := true } }

/-- STEP_TIMER_EXPIRY (R5): the due evaluation of R7, or a purge step (R26), follows. -/
def execStepTimerExpiry (s : State) : Answer := .next (event (ifTimerRuns s.track.stepTimer stepFallsDue) s)

/-- The index sensor is made: a motion in flight completes, and the track takes its next state (R15, R17). -/
def indexMade (s : State) : State :=
  if s.track.motion = .inFlight then stateAfterCompletion (completeMotion s) else s

/-- STEP_COMPLETION (R15 to R19). -/
def execStepCompletion (p : Plant) (s : State) : Answer := .next (eventAt { p with index := true } indexMade s)

/-- The motion timer expires (R20). -/
def motionExpiry (s : State) : State := if s.track.motion = .inFlight then jamMotion s else s

/-- MOTION_TIMEOUT (R20). -/
def execMotionTimeout (s : State) : Answer := .next (event (ifTimerRuns s.track.motionTimer motionExpiry) s)

/-- The extension timer has expired (R10). -/
def extensionEnds (s : State) : State := { s with track := { s.track with extension := .expired } }

/-- EXTENSION_EXPIRY (R10, R11): a step held for DOSE is re-tested. -/
def execExtensionExpiry (s : State) : Answer := .next (event (ifTimerRuns s.track.extension extensionEnds) s)

/-- IDLE_TIMER_EXPIRY (R24, R161). -/
def execIdleTimerExpiry (s : State) : Answer := .next (event (ifTimerRuns s.interlock.idle idleExpiry) s)

/-- RECOVERY_TIMER_EXPIRY (R164). -/
def execRecoveryTimerExpiry (s : State) : Answer := .next (event (ifTimerRuns s.interlock.recovery recoveryExpiry) s)

/-- RECOVERY_LIMIT_EXPIRY (R165). -/
def execRecoveryLimitExpiry (s : State) : Answer := .next (event (ifTimerRuns s.interlock.limit limitExpiry) s)

end Sys2Proof.Machine
end

