-- ==== Sys2Proof/Machine/Dispatch.lean ====
section
/-! DEFINITION. The meaning of every command: one arm per constructor of Instr. -/

namespace Sys2Proof.Machine
open Sys2Proof

def exec (i : Instr) (s : State) : Host.Outcome State Fault Refusal :=
  match i with
  | .identify => Sys2Proof.Machine.execIdentify s
  | .linkStatus => Sys2Proof.Machine.execLinkStatus s
  | .setNotify mask => Sys2Proof.Machine.execSetNotify mask s
  | .restart action => Sys2Proof.Machine.execRestart action s
  | .run p => Sys2Proof.Machine.execRun p s
  | .halt => Sys2Proof.Machine.execHalt s
  | .standby => Sys2Proof.Machine.execStandby s
  | .clearFault p => Sys2Proof.Machine.execClearFault p s
  | .getTrack => Sys2Proof.Machine.execGetTrack s
  | .purge => Sys2Proof.Machine.execPurge s
  | .setProgramme number present divisor required limit allowed rewash => Sys2Proof.Machine.execSetProgramme number present divisor required limit allowed rewash s
  | .getProgramme number => Sys2Proof.Machine.execGetProgramme number s
  | .setKindMap unknown plate cup cutlery tray => Sys2Proof.Machine.execSetKindMap unknown plate cup cutlery tray s
  | .getKindMap => Sys2Proof.Machine.execGetKindMap s
  | .setSanitation aBase aSpan bBase bSpan floor agree credit => Sys2Proof.Machine.execSetSanitation aBase aSpan bBase bSpan floor agree credit s
  | .getSanitation => Sys2Proof.Machine.execGetSanitation s
  | .getRinse => Sys2Proof.Machine.execGetRinse s
  | .getStation station p => Sys2Proof.Machine.execGetStation station p s
  | .setStation station mode mask => Sys2Proof.Machine.execSetStation station mode mask s
  | .loadStack station count entries => Sys2Proof.Machine.execLoadStack station count entries s
  | .clearStack station => Sys2Proof.Machine.execClearStack station s
  | .getMerge p => Sys2Proof.Machine.execGetMerge p s
  | .forceProgramme station number => Sys2Proof.Machine.execForceProgramme station number s
  | .getReturn => Sys2Proof.Machine.execGetReturn s
  | .releaseQuarantine action => Sys2Proof.Machine.execReleaseQuarantine action s
  | .getRecord id => Sys2Proof.Machine.execGetRecord id s
  | .putRecord id kind washes short last => Sys2Proof.Machine.execPutRecord id kind washes short last s
  | .dropRecord id => Sys2Proof.Machine.execDropRecord id s
  | .flushDirectory => Sys2Proof.Machine.execFlushDirectory s
  | .getInterlocks => Sys2Proof.Machine.execGetInterlocks s
  | .releaseInterlocks => Sys2Proof.Machine.execReleaseInterlocks s
  | .supervisoryByteReceived b stopHigh p => Sys2Proof.Machine.execSupervisoryByteReceived b stopHigh p s
  | .receiveGapExpiry => Sys2Proof.Machine.execReceiveGapExpiry s
  | .transmitComplete p => Sys2Proof.Machine.execTransmitComplete p s
  | .tagByteReceived b => Sys2Proof.Machine.execTagByteReceived b s
  | .tagGapExpiry => Sys2Proof.Machine.execTagGapExpiry s
  | .powerOnReset => Sys2Proof.Machine.execPowerOnReset s
  | .coldRestartLine => Sys2Proof.Machine.execColdRestartLine s
  | .warmRestartLine => Sys2Proof.Machine.execWarmRestartLine s
  | .restartLineReleased line => Sys2Proof.Machine.execRestartLineReleased line s
  | .profileReadComplete image => Sys2Proof.Machine.execProfileReadComplete image s
  | .endOfStartUp p => Sys2Proof.Machine.execEndOfStartUp p s
  | .stepTimerExpiry => Sys2Proof.Machine.execStepTimerExpiry s
  | .stepCompletion p => Sys2Proof.Machine.execStepCompletion p s
  | .motionTimeout => Sys2Proof.Machine.execMotionTimeout s
  | .extensionExpiry => Sys2Proof.Machine.execExtensionExpiry s
  | .idleTimerExpiry => Sys2Proof.Machine.execIdleTimerExpiry s
  | .recoveryTimerExpiry => Sys2Proof.Machine.execRecoveryTimerExpiry s
  | .recoveryLimitExpiry => Sys2Proof.Machine.execRecoveryLimitExpiry s
  | .estopChainChange isOpen => Sys2Proof.Machine.execEstopChainChange isOpen s
  | .doorChainChange isOpen => Sys2Proof.Machine.execDoorChainChange isOpen s
  | .rinseFlowChange flow => Sys2Proof.Machine.execRinseFlowChange flow s
  | .tankLevelChange low => Sys2Proof.Machine.execTankLevelChange low s
  | .sampleCycleExpiry => Sys2Proof.Machine.execSampleCycleExpiry s
  | .conversionAComplete code => Sys2Proof.Machine.execConversionAComplete code s
  | .conversionBComplete code => Sys2Proof.Machine.execConversionBComplete code s
  | .stackLift n => Sys2Proof.Machine.execStackLift n s
  | .sendButton n p => Sys2Proof.Machine.execSendButton n p s
  | .spurFullTimerExpiry n => Sys2Proof.Machine.execSpurFullTimerExpiry n s
  | .spurHeadMade n p => Sys2Proof.Machine.execSpurHeadMade n p s
  | .spurHeadClear n => Sys2Proof.Machine.execSpurHeadClear n s
  | .deliveryCompletion n place => Sys2Proof.Machine.execDeliveryCompletion n place s
  | .transferCompletion p => Sys2Proof.Machine.execTransferCompletion p s
  | .transferTimeout => Sys2Proof.Machine.execTransferTimeout s
  | .unloadButton => Sys2Proof.Machine.execUnloadButton s
  | .travelTimerExpiry place => Sys2Proof.Machine.execTravelTimerExpiry place s
  | .spacingTimerExpiry => Sys2Proof.Machine.execSpacingTimerExpiry s
  | .routerArrivalSensor made => Sys2Proof.Machine.execRouterArrivalSensor made s
  | .supplyBelowOperatingLevel => Sys2Proof.Machine.execSupplyBelowOperatingLevel s

end Sys2Proof.Machine
end

