-- ==== Sys2Proof/Machine/Step.lean ====
section
/-! DEFINITION. One step of the part: the command at the front of the queue, or with an empty queue the clock. -/

namespace Sys2Proof.Machine
open Sys2Proof

/-- With no command waiting, the clock acts: the expiry of a timer that has run out, or 10 ms more (log entry 6). -/
def idleStep (s : State) : Host.Outcome State Fault Refusal :=
  match nextExpiry s with
  | some c => exec c (countChoice s)
  | none => .next (tick s)

/-- One step: the command at the front of the queue is executed with the rest of the queue waiting (log entry 1). -/
def step (s : State) : Host.Outcome State Fault Refusal :=
  match s.pending with
  | c :: rest => exec c { s with pending := rest }
  | [] => idleStep s

/-- The state with the command that a word spells put at the front of its queue; no row of the opcode table gives bits, so
no word spells one. -/
def State.withFetchWord (s : State) (nbits w : Nat) : State :=
  match decodeTableWord nbits w with
  | some c => { s with pending := c :: s.pending }
  | none => s

end Sys2Proof.Machine
end

