-- ==== Sys2Proof/Machine/Layout.lean ====
section
/-! DEFINITION. The payload bytes of every message the part sends, and the frames a message is sent in (R184). The bytes are
those of section 10.9 (Tables 43 and 45 to 51), of section 10.5 and of the rules of the messages; a field whose form is read
from the manual's other layouts is DEDUCED (log entry 49), and what the manual does not lay out is a free value (log
entry 48). -/

namespace Sys2Proof.Machine
open Sys2Proof

/-! ### Codes (Table 40, Table 45) -/

/-- A number as one byte. -/
def byteOf (n : Nat) : Byte := BitVec.ofNat 8 n

/-- A number as two bytes, high byte first. -/
def twoBytes (n : Nat) : List Byte := halfBytes (BitVec.ofNat 16 n)

/-- Bits by name, bit 0 first. -/
def bitsOf (l : List Bool) : Nat := l.foldr (fun b n => b.toNat + 2 * n) 0

def Result.code : Result → Nat
  | .ok => 0
  | .clamped => 1
  | .range => 2
  | .state => 3
  | .full => 4
  | .duplicate => 5
  | .notFound => 6
  | .locked => 7
  | .unknown => 8
  | .badLen => 9
  | .starting => 10

def Mode.code : Mode → Nat
  | .closed => 0
  | .openMode => 1

def Verdict.code : Verdict → Nat
  | .none => 0
  | .sanitised => 1
  | .short => 2

def IdSource.code : IdSource → Nat
  | .none => 0
  | .tag => 1
  | .expected => 2

def destinationCode : Option Destination → Nat
  | none => 0
  | some .clean => 1
  | some .quarantine => 2
  | some .rewash => 3

def Source.code : Source → Nat
  | .station n => n.val + 1
  | .rewash => 5
  | .phantom => 6

def TrackState.code : TrackState → Nat
  | .off => 0
  | .ready => 1
  | .hold => 2
  | .stepping => 3
  | .stopped => 4
  | .fault => 5
  | .standby => 6
  | .recovery => 7
  | .purging => 8

def faultCode : Option FaultCause → Nat
  | none => 0
  | some .jamMotion => 1
  | some .jamTransfer => 2
  | some .recoveryFailed => 3

/-- The state of the extension timer: IDLE, RUNNING or EXPIRED. -/
def Timer.code : Timer → Nat
  | .idle => 0
  | .running _ => 1
  | .expired => 2

def ProfileStatus.code : ProfileStatus → Nat
  | .ok => 0
  | .clamped => 1
  | .fault => 2

def ResetKind.code : ResetKind → Nat
  | .powerOn => 0
  | .cold => 1
  | .warm => 2

def LatchCause.code : LatchCause → Nat
  | .start => 0
  | .change => 1
  | .release => 2

/-- The interlock members in bits 0 to 4. -/
def Members.code (m : Members) : Nat := bitsOf [m.estop, m.door, m.rinse, m.tank, m.jam]

/-- The hold reasons in bits 0 to 3 (Table 46). -/
def Holds.code (h : Holds) : Nat := bitsOf [h.transfer, h.tank, h.exit, h.dose]

def Location.code : Location → Nat
  | .stack n => 0x10 + n.val + 1
  | .bay n => 0x20 + n.val + 1
  | .spur n => 0x30 + n.val + 1
  | .track => 0x40
  | .rewash => 0x50
  | .clean => 0x60
  | .onReturn => 0x70
  | .surplus => 0x80
  | .delivery n => 0x90 + n.val + 1
  | .inspect => 0xA0
  | .loose => 0xB0
  | .unknown => 0xC0

/-! ### Payloads (Tables 46 to 51) -/

/-- The twelve bytes of a position record (Table 47). -/
def positionBytes : Option TrackRecord → List Byte
  | none => List.replicate 12 0
  | some r =>
    let p : Snapshot := r.programme.getD ⟨0, 0, 0, 0, false, 0⟩
    halfBytes r.id ++
    [byteOf (bitsOf [true, r.leaving, r.tracked, p.allowed]),
     byteOf (kindCode r.kind + 16 * r.verdict.code + 64 * r.rewashCount),
     byteOf (p.number.val + 16 * p.rewash),
     byteOf (r.source.code + 8 * r.identity.code + 32 * destinationCode r.destination)] ++
    twoBytes r.dose ++ [byteOf p.divisor] ++ twoBytes p.required ++ [byteOf p.limit]

/-- The GET_TRACK reply after its result byte (Table 46). -/
def trackBytes (r : TrackReport) : List Byte :=
  [byteOf r.state.code, byteOf (bitsOf [r.runEnable, r.stepDue, r.interrupted, r.recoveryPending]),
   byteOf r.holds.code, byteOf (faultCode r.fault)] ++
  twoBytes r.period ++ twoBytes r.stepLeft ++ [byteOf r.extension.code] ++ twoBytes r.extension.left ++
  [byteOf (destinationCode r.reserved)] ++ twoBytes r.motionLeft ++ [byteOf r.purgeCount] ++
  r.positions.toList.flatMap positionBytes

/-- A directory entry block (Table 48). -/
def blockBytes (b : EntryBlock) : List Byte :=
  let e := b.entry
  halfBytes e.id ++ [byteOf (kindCode e.kind)] ++ twoBytes e.washes ++ [byteOf e.short] ++ twoBytes e.last ++
    [byteOf e.location.code, byteOf (bitsOf [e.dirty, e.pinned, e.partialHistory]), byteOf b.set, byteOf b.way.val]

/-- A block, or 12 bytes of 0 where there is none: section 10.9 says so of the victim of a PUT_RECORD, and for the block before
a miss the model takes the same (DESIGN CHOICE, log entry 38). -/
def blockBytes? : Option EntryBlock → List Byte
  | some b => blockBytes b
  | none => List.replicate 12 0

/-- The LINK_STATUS reply after its result byte (Table 51). -/
def linkBytes (r : LinkReport) : List Byte :=
  twoBytes r.crcErrors ++ twoBytes r.framingErrors ++ twoBytes r.overflows ++ twoBytes r.discarded ++
    [byteOf r.queued] ++ halfBytes r.mask ++ [byteOf r.status.code]

/-- The IDENTIFY reply after its result byte (R190). -/
def identityBytes (r : IdentityReport) : List Byte :=
  [byteOf 46, 0x53#8, byteOf 1, byteOf 17] ++ twoBytes 256 ++
    [byteOf Config.noticePlaces, byteOf Config.requestPlaces, byteOf r.stations, byteOf r.sensors, byteOf r.tableLimit,
     byteOf r.status.code, byteOf r.kind.code]

/-! ### Payloads of the messages that no table lays out whole -/

/-- A part of the message `m` that the manual does not lay out: free bytes, no more than the `room` that a message of one
frame leaves them (R184, log entry 48). -/
def freePart {α : Type} (room place : Nat) (m : α) : List Byte := (Config.freeBytes place m).take room

/-- A two-byte field that may be absent; the manual does not say what stands for an absent one (log entry 48). -/
def halfOrFree {α : Type} (room place : Nat) (m : α) : Option Half → List Byte
  | some w => halfBytes w
  | none => freePart room place m

/-- A descriptor in the order of SET_PROGRAMME's fields (R55, R56, Table 41; DEDUCED, log entry 49). -/
def descriptorBytes (d : DescriptorReport) : List Byte :=
  [byteOf d.present.toNat, byteOf d.divisor] ++ twoBytes d.required ++
    [byteOf d.limit, byteOf d.allowed.toNat, byteOf d.rewash]

/-- The kind map's five entries (R59). -/
def kindMapBytes (m : KindMap) : List Byte :=
  [byteOf m.unknown.val, byteOf m.plate.val, byteOf m.cup.val, byteOf m.cutlery.val, byteOf m.tray.val]

/-- The sanitation settings in the order of SET_SANITATION (R65, Table 41). -/
def sanitationBytes (v : Sanitation) : List Byte :=
  twoBytes v.aBase ++ twoBytes v.aSpan ++ twoBytes v.bBase ++ twoBytes v.bSpan ++ twoBytes v.floor ++ [byteOf v.agree] ++
    v.credit.toList.flatMap twoBytes

/-- The group as RELEASE_INTERLOCKS reports it; with the result byte 7 bytes, as section 10.11 counts them
(R158; latched as 1 DEDUCED, log entry 49). -/
def groupBytes (snapshot live : Members) (latched : Bool) (count : Half) (cause : LatchCause) : List Byte :=
  [byteOf snapshot.code, byteOf live.code, byteOf latched.toNat] ++ halfBytes count ++ [byteOf cause.code]

/-- The kind mask, PLATE, CUP, CUTLERY and TRAY in bits 0 to 3 (note to Table 41). -/
def KindMask.code (k : KindMask) : Nat := bitsOf [k.plate, k.cup, k.cutlery, k.tray]

/-- What a reply's payload holds after its result byte. The replies of GET_RINSE, GET_STATION, GET_MERGE and GET_RETURN,
which may exceed 58 bytes (R184) and which no table lays out, are free bytes of any number (log entry 48). The widths of the
others that no table lays out are DEDUCED (log entry 49). -/
def ReplyBody.bytes : ReplyBody → List Byte
  | .empty | .restart _ => []
  | .identity r => identityBytes r
  | .linkStatus r => linkBytes r
  | .notify mask => halfBytes mask
  | .track r => trackBytes r
  | .faultCleared cause outcome => byteOf (faultCode (some cause)) :: freePart 55 1 (cause, outcome)
  | .programme d => descriptorBytes d
  | .programmeRead d tableLimit => descriptorBytes d ++ [byteOf tableLimit]
  | .kindMap m => kindMapBytes m
  | .kindMapRead m tableLimit => kindMapBytes m ++ [byteOf tableLimit]
  | .sanitation v => sanitationBytes v
  | .sanitationRead v source lock required =>
    sanitationBytes v ++ [Config.freeByte 1 source] ++ freePart 12 2 (source, lock, required)
  | .rinse r => Config.freeBytes 0 r
  | .station r => Config.freeBytes 0 r
  | .stationMode mode mask => [byteOf mode.code, byteOf mask.code]
  | .removed n => [byteOf n]
  | .merge r => Config.freeBytes 0 r
  | .head n e => [byteOf (n.val + 1)] ++ halfBytes e.expected ++ [byteOf (kindCode e.kind)] ++ freePart 52 3 e
  | .returns r => Config.freeBytes 0 r
  | .released moved => [Config.freeByte 0 moved]
  | .entry b b0 b1 b2 => blockBytes b ++ [byteOf (bitsOf [b0, b1, b2])]
  | .entryDropped b => blockBytes b
  | .entryPut before after victim =>
    blockBytes? before ++ blockBytes after ++ [byteOf victim.isSome.toNat] ++ blockBytes? victim
  | .flushed n dirty => twoBytes n ++ twoBytes dirty
  | .interlocks r => groupBytes r.snapshot r.live r.latched r.count r.cause ++ freePart 50 5 r
  | .interlocksReleased snapshot live latched count cause => groupBytes snapshot live latched count cause

/-- The payload of a reply (R183): its result byte and what follows it. -/
def Reply.payload (r : Reply) : List Byte := byteOf r.result.code :: r.body.bytes

/-- The kind byte of a notice (Table 42). -/
def Notice.kindByte (n : Notice) : Byte := byteOf (0x40 + n.maskBit)

/-- The reason byte of a SPILL notice (section 10.9). -/
def SpillReason.code : SpillReason → Nat
  | .replaced => 0
  | .flushed => 1

/-- The cause that opens a FAULT notice (section 10.5). -/
def FaultNotice.code : FaultNotice → Nat
  | .jamMotion => 1
  | .jamTransfer .. => 2
  | .recoveryFailed .. => 3
  | .missingRack .. => 4
  | .sensorDisagree _ => 5
  | .sensorLost _ => 6
  | .strayRack .. => 7

/-- The cause that opens an ADMISSION notice (section 10.5). -/
def AdmissionNotice.code : AdmissionNotice → Nat
  | .refused .. => 1
  | .mismatch .. => 2
  | .conflict .. => 3
  | .moved .. => 4
  | .duplicate .. => 5
  | .setFull .. => 6
  | .spillBlocked .. => 7

/-- The eighth sample of a sensor run (R47; widths DEDUCED, log entry 49). -/
def sensorBytes (m : SensorReport) : List Byte :=
  halfBytes (m.codeA.setWidth 16) ++ halfOrFree 47 1 m (m.codeB.map (·.setWidth 16)) ++
    twoBytes m.tA ++ twoBytes m.tB ++ twoBytes m.t ++ [Config.freeByte 5 m.status]

/-- The fields a FAULT notice carries after its cause, in the order of the cause's rule (section 10.5, R18,
R20, R47, R96, R139, R165; widths DEDUCED, log entry 49). -/
def FaultNotice.fields : FaultNotice → List Byte
  | .jamMotion => []
  | .jamTransfer requester expected => Config.freeByte 0 requester :: halfOrFree 55 1 requester expected
  | .recoveryFailed run t => byteOf run :: halfOrFree 55 1 run (t.map (BitVec.ofNat 16))
  | .missingRack id source => halfBytes id ++ [byteOf source.code]
  | .sensorDisagree m | .sensorLost m => sensorBytes m
  | .strayRack inspections surplus => twoBytes inspections ++ [byteOf surplus]

/-- The fields an ADMISSION notice carries after its cause, in the order of the cause's rule (section 10.5,
Table 26, R116, R117; widths DEDUCED, log entry 49). -/
def AdmissionNotice.fields (a : AdmissionNotice) : List Byte :=
  match a with
  | .refused n expected kind tried _ =>
    [byteOf (n.val + 1)] ++ halfBytes expected ++ [byteOf (kindCode kind), byteOf tried.val, Config.freeByte 4 a]
  | .mismatch n expected tag _ => [byteOf (n.val + 1)] ++ halfBytes expected ++ halfBytes tag ++ [Config.freeByte 3 a]
  | .conflict n expected .. => [byteOf (n.val + 1)] ++ halfBytes expected ++ freePart 53 2 a
  | .moved n id _ => [byteOf (n.val + 1)] ++ halfBytes id ++ [Config.freeByte 2 a]
  | .duplicate n id .. => [byteOf (n.val + 1)] ++ halfBytes id ++ [Config.freeByte 2 a, Config.freeByte 3 a]
  | .setFull id set n pinned => halfBytes id ++ [byteOf set, byteOf (n.val + 1)] ++ pinned.flatMap halfBytes
  | .spillBlocked id set n victim => halfBytes id ++ [byteOf set, byteOf (n.val + 1)] ++ halfBytes victim

/-- A STATE notice (R28): the state, the hold reasons with the bits of Table 46 and the fault cause; how the marks and what
follows them stand is not laid out (log entry 48). -/
def stateBytes (r : StateReport) : List Byte :=
  [byteOf r.state.code, byteOf r.holds.code, byteOf (faultCode r.fault)] ++ freePart 54 3 r

/-- The payload of a notice (Tables 42 and 48 to 50, R28, R140, R142, R177; where no table gives the widths they are DEDUCED,
log entry 49). -/
def Notice.payload : Notice → List Byte
  | .startUp kind cause status => [byteOf kind.code, Config.freeByte 1 cause, byteOf status.code]
  | .interlock m l c cause => [byteOf m.code, byteOf l.code] ++ halfBytes c ++ [byteOf cause.code]
  | .fault f => byteOf f.code :: f.fields
  | .shortDose id p dose required count =>
    halfBytes id ++ [byteOf p.val] ++ twoBytes dose ++ twoBytes required ++ [byteOf count]
  | .spill b reason => blockBytes b ++ [byteOf reason.code]
  | .admission a => byteOf a.code :: a.fields
  | .rackRetired id kind washes short test =>
    halfBytes id ++ [byteOf (kindCode kind)] ++ twoBytes washes ++ [byteOf short, Config.freeByte 4 test]
  | .returnHold id kind surplus behind => halfBytes id ++ [byteOf (kindCode kind), byteOf surplus, byteOf behind]
  | .state r => stateBytes r

/-- The payloads of the frames of one message: 58 bytes in each but the last, which carries fewer (R184). -/
def framePayloads (p : List Byte) : List (List Byte) :=
  (List.range (p.length / Config.framePayload + 1)).map fun i =>
    (p.drop (Config.framePayload * i)).take Config.framePayload

/-- The frames of one message, sent one after another (R184, Table 43). -/
def messageFrames (kind : Byte) (p : List Byte) : List (List Byte) := (framePayloads p).map (frame kind)

/-- The frames of the message being sent; none while the transmitter is idle (R184, R185). -/
def sentFrames (s : State) : List (List Byte) :=
  match s.link.transmitter, s.link.reply with
  | .notice n, _ => messageFrames n.kindByte n.payload
  | .reply, some r => messageFrames r.kind r.payload
  | _, _ => []

end Sys2Proof.Machine
end

