-- ==== Sys2Proof/Safety.lean ====
section
/-! DEFINITION. What the statements speak of: when the part is ready for a request, when nothing is left to follow, and the
invariants of the chain and pusher, the queues, the rack ids, the directory and the link. -/

namespace Sys2Proof.Machine
open Sys2Proof

/-! ### Requests and the end of a command -/

/-- A request would be executed at once: start-up has ended, the reply slot and the buffer are empty (R182). -/
def Listening (s : State) : Prop := s.phase = .running ∧ s.link.reply = none ∧ s.link.buffer = []

/-- No due evaluation is left to be made: in READY no step is due, in HOLD the reasons are those of the unmet conditions and
the extension runs where it has to, in PURGING a due step waits for a place alone (R7, R9, R10, R26). -/
def NothingDue (s : State) : Prop :=
  (s.track.state = .ready → s.track.stepDue = false ∨ s.track.records = 0) ∧
  (s.track.state = .hold →
    (f2Below s = false ∨ s.track.extension ≠ .idle) ∧ s.track.holds = holdsNow s ∧ s.track.holds ≠ .empty) ∧
  (s.track.state = .purging → s.track.stepDue = true → s.track.motion = .none →
    routeFound s = false ∧ s.track.holds = { Holds.empty with exit := true })

/-- The request a request command stands for; none for the other commands (log entry 5). -/
def requestOf : Instr → Option Request
  | .identify => some .identify
  | .linkStatus => some .linkStatus
  | .setNotify m => some (.setNotify m)
  | .restart a => some (.restart a)
  | .run _ => some .run
  | .halt => some .halt
  | .standby => some .standby
  | .clearFault _ => some .clearFault
  | .getTrack => some .getTrack
  | .purge => some .purge
  | .setProgramme n q d c x a w => some (.setProgramme n q d c x a w)
  | .getProgramme n => some (.getProgramme n)
  | .setKindMap u p c k t => some (.setKindMap u p c k t)
  | .getKindMap => some .getKindMap
  | .setSanitation ab as bb bs f g cr => some (.setSanitation ab as bb bs f g cr)
  | .getSanitation => some .getSanitation
  | .getRinse => some .getRinse
  | .getStation n _ => some (.getStation n)
  | .setStation n m k => some (.setStation n m k)
  | .loadStack n c es => some (.loadStack n c es)
  | .clearStack n => some (.clearStack n)
  | .getMerge _ => some .getMerge
  | .forceProgramme n p => some (.forceProgramme n p)
  | .getReturn => some .getReturn
  | .releaseQuarantine a => some (.releaseQuarantine a)
  | .getRecord i => some (.getRecord i)
  | .putRecord i k w sh d => some (.putRecord i k w sh d)
  | .dropRecord i => some (.dropRecord i)
  | .flushDirectory => some .flushDirectory
  | .getInterlocks => some .getInterlocks
  | .releaseInterlocks => some .releaseInterlocks
  | _ => none

/-- The state with the sensor readings a request command carries noted (log entry 4). -/
def withReadings : Instr → State → State
  | .run p, s | .clearFault p, s | .getStation _ p, s | .getMerge p, s => s.sense p
  | _, s => s

/-- Nothing is left to follow: no due evaluation is left, no grant opportunity is open, and the idle timer runs only in READY
with the part idle (R7, R92, R161). -/
def Settled (s : State) : Prop :=
  NothingDue s ∧ grantOpen s = false ∧ (idleInReady s = true ∨ s.interlock.idle = .idle)

/-- The state after a request has been executed with state `t`, and its reply placed in the slot (R182, R183). -/
def answered (kind : Byte) (result : Result) (body : ReplyBody) (t : State) : State :=
  { t with link := { t.link with reply := some ⟨replyKind kind, result, body⟩ } }

/-- The state after a request that changes nothing else: its reply stands in the slot, and an idle transmitter sends it
(R182, R185). -/
def onlyAnswered (kind : Byte) (result : Result) (body : ReplyBody) (s : State) : State :=
  chooseMessage (answered kind result body s)

/-- The state after a STATE notice of this very state has been queued (R28). -/
def withStateNotice (s : State) : State := enqueue (.state (stateReport none s)) s

/-- The bytes come one after another from the supervisory line, each as a command of its own with its stop bit high and the
sensors standing as `p` says (R178). -/
def feedBytes (p : Plant) : List Byte → State → Answer
  | [], s => .next s
  | b :: rest, s =>
    match exec (.supervisoryByteReceived b true p) s with
    | .next t => feedBytes p rest t
    | o => o

/-! ### The chain and the pusher (Chapters 1, 5 and 8) -/

/-- The track states in which the chain may move or the merge may grant, or to which they lead without a RUN. -/
def TrackState.active : TrackState → Bool
  | .ready | .hold | .stepping | .purging | .recovery => true
  | .off | .stopped | .fault | .standby => false

/-- The states to which only a taken RUN leads (R3, R24, R163). -/
def TrackState.enabled : TrackState → Bool
  | .ready | .hold | .standby | .recovery => true
  | .off | .stopped | .fault | .stepping | .purging => false

/-- The cause is a jam (R155). -/
def isJam : Option FaultCause → Bool
  | some .jamMotion | some .jamTransfer => true
  | _ => false

/-- What holds of the moving parts in every phase: a motion and a transfer are never both unfinished (R8), and a grant is
outstanding exactly while the merge is not IDLE (R87). -/
def RecordsConsistent (s : State) : Prop :=
  (s.track.motion = .none ∨ s.merge.state = .idle) ∧ (s.merge.grant.isSome ↔ s.merge.state ≠ .idle)

/-- The chain drive and the pusher once start-up has ended: each runs exactly with its motion or transfer, with its timer,
in the states that allow it, and never with a chain open (R7, R21, R87, R97). -/
def DrivesConsistent (s : State) : Prop :=
  (s.track.chainDrive = true ↔ s.track.motion = .inFlight) ∧
  (s.track.motionTimer.isRunning = true ↔ s.track.motion = .inFlight) ∧
  (s.track.motion = .inFlight → s.track.state = .stepping ∨ s.track.state = .purging) ∧
  (s.track.state = .stepping → s.track.motion = .inFlight) ∧
  (s.track.state.enabled = true → s.track.motion = .none ∧ s.track.runEnable = true) ∧
  (s.track.state.active = true → chainsClosed s = true) ∧
  (s.merge.pusher.isSome ↔ s.merge.state = .transferring) ∧
  (s.merge.timer.isRunning = true ↔ s.merge.state = .transferring) ∧
  (s.merge.state = .transferring →
    chainsClosed s = true ∧ (s.track.state = .ready ∨ s.track.state = .hold ∨ s.track.state = .off)) ∧
  (s.track.state = .purging → s.merge.state = .idle)

/-- The track state with its marks, the fault and JAM, the heat-economy line and the recovery timers once start-up has
ended (R20, R96, R155, R162, R164, R166). -/
def MarksConsistent (s : State) : Prop :=
  (s.track.fault.isSome ↔ s.track.state = .fault) ∧
  (s.interlock.live.jam = isJam s.track.fault) ∧
  (s.merge.state = .jammed ↔ s.track.fault = some .jamTransfer) ∧
  (s.interlock.heat = true ↔ s.track.state = .standby) ∧
  (s.track.recoveryPending = true → s.track.state = .stopped ∧ s.track.motion = .none) ∧
  (s.track.purgeCount ≠ 0 → s.track.state = .purging) ∧ s.track.purgeCount ≤ Config.purgeSteps ∧
  (s.track.holds ≠ .empty → s.track.state = .hold ∨ s.track.state = .purging) ∧
  (s.interlock.recovery.isRunning = true ∨ s.interlock.limit.isRunning = true ↔ s.track.state = .recovery) ∧
  (s.interlock.latched = false → s.interlock.live = s.interlock.snapshot)

/-- The moving parts in reset and during start-up: the track stands in OFF with every mark and timer of its motion clear, no
pusher and no recovery timer runs, JAM is clear and the heat-economy line is released (R31, R109, R155, R168, R174). -/
def AtRest (s : State) : Prop :=
  s.track.state = .off ∧ s.track.runEnable = false ∧ s.track.holds = .empty ∧ s.track.fault = none ∧
  s.track.recoveryPending = false ∧ s.track.purgeCount = 0 ∧ s.track.chainDrive = false ∧
  s.track.motionTimer.isRunning = false ∧ s.merge.pusher = none ∧ s.merge.timer.isRunning = false ∧
  s.interlock.live.jam = false ∧ s.interlock.heat = false ∧ s.interlock.recovery.isRunning = false ∧
  s.interlock.limit.isRunning = false

/-- The invariant of the moving parts. -/
def Moving (s : State) : Prop :=
  RecordsConsistent s ∧ (s.phase = .running → DrivesConsistent s ∧ MarksConsistent s) ∧
    (s.phase ≠ .running → AtRest s)

/-! ### The sanitation lock (R62 to R64) -/

/-- While the sanitation lock is clear, no RUN has been taken: the track is in none of the states a RUN leads to, no
transfer is in flight and the track holds phantoms only. The settings-required mark is never set together with the lock, and
the lock is clear where a power-on or cold start-up has its profile read before it. -/
def LockSound (s : State) : Prop :=
  (s.phase = .profileRead ∨ (s.phase = .held ∧ s.resetKind ≠ .warm) → s.programmes.lock = false) ∧
  (s.programmes.lock = true → s.programmes.required = false) ∧
  (s.programmes.lock = false →
    s.track.state.enabled = false ∧ s.track.state ≠ .stepping ∧ s.merge.state = .idle ∧
    ∀ r ∈ s.track.positions.toList, ∀ x, r = some x → x.source = .phantom)

/-! ### Places of the queues -/

/-- A record has no destination; only the record at X may have one, while its motion lasts (R13). -/
def Unrouted (r : TrackRecord) : Prop := r.destination = none

/-- Where destinations stand: on the record at X, and there only with a motion (R13, R14, R16). -/
def RoutesSound (s : State) : Prop :=
  (∀ i : Fin 17, i ≠ 16 → ∀ r, s.track.positions[i] = some r → Unrouted r) ∧
  (∀ r, s.track.x = some r → r.destination ≠ none → s.track.motion ≠ .none) ∧
  (∀ r ∈ s.ret.lane, Unrouted r) ∧ (∀ e ∈ s.ret.cleanEnd, Unrouted e.record)

/-- Every queue stays within its places (R13, R69, R75, R101, R131, R136, R137, R143). -/
def WithinPlaces (s : State) : Prop :=
  cleanCount s ≤ Config.cleanPlaces ∧ laneCount s ≤ Config.lanePlaces ∧
  s.ret.transit.length ≤ Config.transitPlaces ∧ s.ret.surplus.length ≤ Config.surplusPlaces ∧
  s.merge.tags.length ≤ Config.tagPlaces ∧
  ∀ n, (s.stations.get n).committed ≤ Config.stackPlaces ∧ (s.stations.get n).spur.length ≤ Config.spurPlaces

/-- The invariant of the queues. -/
def Places (s : State) : Prop := RoutesSound s ∧ WithinPlaces s

/-! ### Doses and counts -/

/-- A record's dose and rewash count lie in their ranges (R40, Table 8). -/
def RecordInRange (r : TrackRecord) : Prop := r.dose ≤ 65535 ∧ r.rewashCount ≤ 3

/-- Every dose, count and run lies in its range (R40, R45, R46, R48, R140). -/
def CountsInRange (s : State) : Prop :=
  (∀ i : Fin 17, ∀ r, s.track.positions[i] = some r → RecordInRange r) ∧
  (∀ r ∈ s.ret.lane, RecordInRange r) ∧ (∀ e ∈ s.ret.cleanEnd, RecordInRange e.record) ∧
  (∀ t ∈ s.ret.transit, RecordInRange t.record) ∧
  s.dose.disagreeRun ≤ 8 ∧ s.dose.invalidRun ≤ 8 ∧ s.dose.recoveryRun ≤ 8 ∧ s.ret.inspections ≤ 65535

/-! ### Rack ids (R103) -/

/-- The non-zero ids of every holder. -/
def heldIds (s : State) : List RackId := ((holders none s).map (·.2)).filter (· != 0)

/-- An outstanding grant names what stands at the head of its queue (R93, R94). -/
def GrantStands (s : State) : Prop :=
  match s.merge.grant with
  | none => True
  | some (.spur n e k _) => ∃ h, (s.stations.get n).head = some h ∧ h.expected = e ∧ h.kind = k ∧ h.profiled = true
  | some (.rewash r) => s.ret.lane.head? = some r

/-- No rack id other than 0 is held twice (R103). -/
def IdsDistinct (s : State) : Prop := (heldIds s).Nodup ∧ GrantStands s

/-! ### The rack directory (Chapter 6) -/

/-- The entries of a set: each has a non-zero id of that set, and no two ways hold the same id (R110). -/
def DirSet.sound (i : Fin 64) (d : DirSet) : Prop :=
  (∀ w e, d.ways.get w = some e → e.id ≠ 0 ∧ setOf e.id = i) ∧
  (∀ v w e f, d.ways.get v = some e → d.ways.get w = some f → e.id = f.id → v = w)

/-- Every set of the directory is sound (R110). -/
def DirectorySound (s : State) : Prop := ∀ i : Fin 64, (s.directory[i]).sound i

/-- The records whose entries stay pinned: on the track, in the rewash lane and at the clean end (R119). -/
def keptRecords (s : State) : List TrackRecord :=
  s.track.positions.toList.filterMap id ++ s.ret.lane ++ s.ret.cleanEnd.map (·.record)

/-- The directory holds a pinned entry of this id. -/
def PinnedEntry (s : State) (id : RackId) : Prop := ∃ w e, lookup s id = some (w, e) ∧ e.pinned = true

/-- Every TRACKED record on the track, in the rewash lane or at the clean end has a pinned entry (R119). -/
def Pinned (s : State) : Prop := ∀ r ∈ keptRecords s, r.tracked = true → r.id ≠ 0 ∧ PinnedEntry s r.id

/-- The invariant of ids and directory together. -/
def Tracked (s : State) : Prop := IdsDistinct s ∧ DirectorySound s ∧ Pinned s

/-! ### The supervisory link (Chapter 10) -/

/-- The notice queue holds at most 16 notices in the order of their priorities, at most one of them an INTERLOCK notice; the
buffer holds at most two requests, and none while the slot is empty, and outside a working part each carries the mark of a
request received during start-up; an idle transmitter leaves nothing waiting; the mask keeps bits 0 and 5 set and bits 9 to 15
clear; the counters stay in range (R157, R176, R181, R182, R185, R186, R188, R189). -/
def LinkSound (s : State) : Prop :=
  s.link.notices.length ≤ Config.noticePlaces ∧
  s.link.notices.Pairwise (fun a b => a.priority ≤ b.priority) ∧
  s.link.notices.countP Notice.isInterlock ≤ 1 ∧
  s.link.buffer.length ≤ Config.requestPlaces ∧
  (s.link.reply = none → s.link.buffer = []) ∧
  (s.phase ≠ .running → ∀ w ∈ s.link.buffer, w.starting = true) ∧
  (s.link.transmitter = .idle → s.link.reply = none ∧ s.link.notices = []) ∧
  (s.link.transmitter = .reply → s.link.reply ≠ none) ∧
  (s.link.mask &&& 0xFE21#16 = 0x0021#16) ∧
  s.link.crcErrors ≤ 65535 ∧ s.link.framingErrors ≤ 65535 ∧ s.link.overflows ≤ 65535 ∧ s.link.discarded ≤ 65535

end Sys2Proof.Machine
end

