-- ==== Sys2Proof/Certificates/Slice0/Obligations.lean ====
section
/-! DEFINITION. The statements for the provers, each with the rules of the manual it rests on. -/

open Sys2Proof Sys2Proof.Machine

/-- With a command at the front of the queue, one step is the execution of that command in the state whose queue is
the rest. The queue is the interface of the model (log entry 1). (95_what_each_step_holds, R182) -/
def Obligations.StepTakesTheFrontCommand : Prop :=
  ∀ (c : Instr) (rest : List Instr) (s : State),
    step { s with pending := c :: rest } = exec c { s with pending := rest }

/-- With no command waiting and no timer run out, a step is 10 ms of the running timers. With timers run out, it is
the execution of the expiry of one of them, whichever the free value names. That the clock acts on an empty queue, and
the free choice between timers that run out together, are the model's choice (log entry 6). In 10 ms of a working part
each running timer falls by one and nothing else changes; while the emergency-stop chain is open the spacing, travel
and delivery timers stand. During the settling stage only its own timing and the supervisory gap timer run, during the
profile read only the gap timer and the count of the bits read, which stays below 512 until the read completes (log
entry 27). In reset and without supply nothing runs. (00_scope section 4.3, R148, R169, R176) -/
def Obligations.EmptyQueueLetsTheClockRun : Prop :=
  (∀ s : State, s.pending = [] →
    (runOut s = [] → step s = .next (tick s)) ∧
    (runOut s ≠ [] → ∃ c ∈ runOut s, step s = exec c { s with choices := s.choices + 1 })) ∧
  (∀ s : State,
    let down : Timer → Timer := fun x => match x with
      | .running n => .running (n - 1)
      | y => y
    let open' := s.interlock.live.estop
    let unit := fun u : StationUnit => { u with
      spurFull := down u.spurFull,
      deliveries := if open' then u.deliveries else u.deliveries.map fun d => { d with timer := down d.timer } }
    (s.phase = .running → tick s = { s with
      track := { s.track with stepTimer := down s.track.stepTimer, extension := down s.track.extension,
                              motionTimer := down s.track.motionTimer },
      dose := { s.dose with cycle := down s.dose.cycle },
      stations := ⟨unit s.stations.one, unit s.stations.two, unit s.stations.three, unit s.stations.four⟩,
      merge := { s.merge with timer := down s.merge.timer, tagGap := down s.merge.tagGap },
      ret := { s.ret with
        spacing := if open' then s.ret.spacing else down s.ret.spacing,
        transit := if open' then s.ret.transit else s.ret.transit.map fun t => { t with travel := down t.travel } },
      interlock := { s.interlock with idle := down s.interlock.idle, recovery := down s.interlock.recovery,
                                      limit := down s.interlock.limit },
      link := { s.link with gap := down s.link.gap } }) ∧
    (s.phase = .settling →
      tick s = { s with settle := down s.settle, link := { s.link with gap := down s.link.gap } }) ∧
    (s.phase = .profileRead → tick s = { s with
      profile := { s.profile with bits := min 511 (s.profile.bits + 100) },
      link := { s.link with gap := down s.link.gap } }) ∧
    (s.phase = .held ∨ s.phase = .noSupply → tick s = s))

/-- For every command and every state the execution answers a next state. The commands that wait and the model's own
order counter are unchanged by it. No command faults and none is refused (log entry 24). (95_what_each_step_holds,
R183, R176) -/
def Obligations.EveryCommandCompletes : Prop :=
  ∀ (c : Instr) (s : State), ∃ t, exec c s = .next t ∧ t.pending = s.pending ∧ t.choices = s.choices

/-- For every request of Table 41, with every value of its fields that the payload admits, the kind byte and the
payload written from the fields are read back as the same request. (R183, Table 41, 10_supervisory_link section 10.2)
-/
def Obligations.RequestPayloadsRoundTrip : Prop :=
  ∀ r : Request, r.wellFormed = true → decodeRequest r.kindByte r.encode = r

/-- Whenever a frame of some kind and payload is read as a request of Table 41, the kind is that request's kind and
the payload is the one written from its fields. So no two payloads are read as one request, and no payload of another
length is accepted. (R183, Table 41) -/
def Obligations.ReadPayloadsAreTheirRequests : Prop :=
  ∀ (k : Byte) (p : List Byte), (decodeRequest k p).wellFormed = true →
    (decodeRequest k p).kindByte = k ∧ (decodeRequest k p).encode = p

/-- From HUNTING, in a state with nothing left to follow, the bytes of a frame of any kind with a payload of up to 58
bytes and its CRC, received one after another, end in the state the completed request leads to: the request enters the
buffer or overflows it, and is executed at once when the reply slot is empty. Between the bytes nothing else happens.
The gap timer stands preset at the last byte. That a request command is the completion of its frame is the model's
choice (log entry 5). (R178, R179, R181, R182, Table 39, Table 43) -/
def Obligations.FrameBytesMakeTheirRequest : Prop :=
  ∀ (k : Byte) (q : List Byte) (p : Plant) (s : State),
    q.length ≤ Config.framePayload → s.linkWorks = true → s.link.assembly = [] → LinkSound s →
    (s.phase = .running → Settled s) →
    feedBytes p (frame k q) s =
      .next (requestedAt p (decodeRequest k q) { s with link := { s.link with gap := .preset Config.gapTime } })

/-- While the link works and nothing is left to follow: the expiry of the gap timer with a frame in assembly, and a
byte with a low stop bit, drop it, count one framing error and return to HUNTING; in HUNTING neither does anything but
let the gap timer rest. A length byte above 58 counts a framing error and drops the frame; the kind byte and, by the
model's choice (log entry 41), the bad length byte itself are taken again, so that the first of them that is 0x5A is a
new lead. A last byte that makes the check fail counts a CRC error, and the bytes stored after the failed lead are
taken again: with no 0x5A among them the assembly returns to HUNTING; the first 0x5A starts a new frame, which goes on
with the rest and waits for the line; a whole sound frame that ends with the last byte completes and does what its
request does. In general, while no retaken frame completes, the stored bytes act as though received one after another,
so that a retaken frame with a bad length or a failed check is itself dropped, counted and retaken; a sound frame
behind such bytes, with no 0x5A after it, completes. Nothing else changes. (R178, R179, R180, R189, Table 39) -/
def Obligations.DroppedFramesAreCounted : Prop :=
  ∀ (s : State) (p : Plant), s.linkWorks = true → LinkSound s → (s.phase = .running → Settled s) →
    (∀ g, s.link.gap = .running g → s.link.assembly ≠ [] →
      exec .receiveGapExpiry s = .next { s with link := { s.link with
        gap := .idle, assembly := [], framingErrors := min 65535 (s.link.framingErrors + 1) } }) ∧
    (∀ g, s.link.gap = .running g → s.link.assembly = [] →
      exec .receiveGapExpiry s = .next { s with link := { s.link with gap := .idle } }) ∧
    (∀ b, s.link.assembly ≠ [] →
      exec (.supervisoryByteReceived b false p) s = .next { s with plant := p, link := { s.link with
        gap := .idle, assembly := [], framingErrors := min 65535 (s.link.framingErrors + 1) } }) ∧
    (∀ b, s.link.assembly = [] → exec (.supervisoryByteReceived b false p) s = .next { s with plant := p }) ∧
    (∀ k n : Byte, s.link.assembly = [0x5A, k] → 58 < n.toNat →
      exec (.supervisoryByteReceived n true p) s = .next { s with plant := p, link := { s.link with
        gap := .preset Config.gapTime, framingErrors := min 65535 (s.link.framingErrors + 1),
        assembly := if k = 0x5A then [0x5A, n] else if n = 0x5A then [0x5A] else [] } }) ∧
    (∀ (k h l : Byte) (q : List Byte),
      s.link.assembly = 0x5A :: k :: BitVec.ofNat 8 q.length :: q ++ [h] → q.length ≤ Config.framePayload →
      halfOf h l ≠ crc16 (k :: BitVec.ofNat 8 q.length :: q) →
      let stored := k :: BitVec.ofNat 8 q.length :: q ++ [h, l]
      let dropped := fun a : List Byte => { s with link := { s.link with
        gap := .preset Config.gapTime, assembly := a, crcErrors := min 65535 (s.link.crcErrors + 1) } }
      (0x5A#8 ∉ stored → exec (.supervisoryByteReceived l true p) s = .next { dropped [] with plant := p }) ∧
      (∀ before behind, stored = before ++ 0x5A :: behind → 0x5A#8 ∉ before →
        (∀ n, behind[1]? = some n → n.toNat ≤ 58 ∧ behind.length < n.toNat + 4) →
        exec (.supervisoryByteReceived l true p) s = .next { dropped (0x5A :: behind) with plant := p }) ∧
      (∀ before k' q', stored = before ++ frame k' q' → 0x5A#8 ∉ before → q'.length ≤ Config.framePayload →
        exec (.supervisoryByteReceived l true p) s = .next (requestedAt p (decodeRequest k' q') (dropped []))) ∧
      (∀ first behind u, stored = first ++ behind → feedBytes p first (dropped []) = .next u →
        u.link.reply = s.link.reply → u.link.buffer = s.link.buffer → u.link.overflows = s.link.overflows →
        (behind = [] → exec (.supervisoryByteReceived l true p) s = .next u) ∧
        (∀ k' q' rest, u.link.assembly = [] → behind = frame k' q' ++ rest → q'.length ≤ Config.framePayload →
          0x5A#8 ∉ rest → exec (.supervisoryByteReceived l true p) s =
            .next (requestedAt p (decodeRequest k' q') u))))

/-- While the link works, the reply slot is occupied and nothing is left to follow, each request command whose buffer
has a place enters the buffer at the tail, marked when its frame completed during start-up, and with two waiting it is
discarded and the overflow counter rises by one, staying at 65535. Nothing else changes but the sensor readings that
the command carries. In the profile read and in the settling stage, with the reply slot and the buffer empty, each
request command is answered STARTING with the result byte alone. While the part is held in reset or has no supply, a
request command does nothing but note the sensor readings it carries. (R181, R182, R174, R176, R183) -/
def Obligations.RequestsWaitOrAreTurnedAway : Prop :=
  (∀ (c : Instr) (r : Request) (s : State), requestOf c = some r → s.linkWorks = true → s.link.reply ≠ none →
    LinkSound s → (s.phase = .running → Settled s) →
    (s.link.buffer.length < Config.requestPlaces →
      exec c s = .next { withReadings c s with link := { s.link with
        buffer := s.link.buffer ++ [⟨r, s.phase != .running⟩] } }) ∧
    (s.link.buffer.length = Config.requestPlaces →
      exec c s = .next { withReadings c s with link := { s.link with overflows := min 65535 (s.link.overflows + 1) } })) ∧
  (∀ (c : Instr) (r : Request) (s : State), requestOf c = some r → LinkSound s →
    (s.phase = .profileRead ∨ s.phase = .settling → s.link.reply = none →
      exec c s = .next (onlyAnswered r.kindByte .starting .empty (withReadings c s))) ∧
    (s.phase = .held ∨ s.phase = .noSupply → exec c s = .next (withReadings c s)))

/-- For every request command in a state that listens and has nothing left to follow: when the block that owns the
request refuses it with any result other than OK and CLAMPED, the next state is the state before with the sensor
readings noted, the reply in the slot and the idle transmitter sending it. In such a state with the receive assembly
in HUNTING, the bytes of a sound frame of a kind absent from Table 41 are answered UNKNOWN, and those of a frame whose
payload length is not the one of its kind BADLEN, for LOAD_STACK 2 plus 3 times its second byte; the reply is the
result alone and nothing else changes but the readings and the gap timer. A reply's kind is its request's plus 0x80,
and 0xFF for a frame of kind 0x80 and above. (R183, Table 40, Table 41) -/
def Obligations.RefusedRequestsChangeNothing : Prop :=
  (∀ (c : Instr) (r : Request) (s : State), requestOf c = some r → Listening s → Settled s →
    (executeRequest r (withReadings c s)).2.1 ≠ .ok → (executeRequest r (withReadings c s)).2.1 ≠ .clamped →
    exec c s = .next (onlyAnswered r.kindByte (executeRequest r (withReadings c s)).2.1
      (executeRequest r (withReadings c s)).2.2 (withReadings c s))) ∧
  (∀ (k : Byte) (q : List Byte) (p : Plant) (s : State), Listening s → Settled s → LinkSound s → s.link.assembly = [] →
    q.length ≤ Config.framePayload →
    let sizes : List (Nat × Nat) := [(0x01, 0), (0x02, 0), (0x03, 2), (0x04, 1), (0x08, 0), (0x09, 0), (0x0A, 0),
      (0x0B, 0), (0x0C, 0), (0x0D, 0), (0x10, 8), (0x11, 1), (0x12, 5), (0x13, 0), (0x14, 43), (0x15, 0), (0x16, 0),
      (0x18, 1), (0x19, 3), (0x1A, 2 + 3 * (q.getD 1 0).toNat), (0x1B, 1), (0x1C, 0), (0x1D, 2), (0x20, 0), (0x21, 1),
      (0x28, 2), (0x29, 8), (0x2A, 2), (0x2B, 0), (0x30, 0), (0x31, 0)]
    let answer := fun r : Result => (.next (onlyAnswered k r .empty { s with
      plant := p, link := { s.link with gap := .running 2 } }) : Answer)
    ((∀ n, (k.toNat, n) ∉ sizes) → feedBytes p (frame k q) s = answer .unknown) ∧
    (∀ n, (k.toNat, n) ∈ sizes → q.length ≠ n → feedBytes p (frame k q) s = answer .badLen)) ∧
  (∀ k : Byte, replyKind k = if k.toNat < 0x80 then k + 0x80 else 0xFF)

/-- While the link works and nothing is left to follow: at the end of a notice the transmitter is idle and chooses; at
the end of a reply that asks for no reset the slot is empty too, and with an empty buffer nothing else happens; with a
request waiting, the oldest leaves the buffer and is performed in the same action, with all its effect; its reply
fills the slot and is the next message. One whose frame completed during start-up is answered STARTING and changes
nothing, though start-up may have ended since. The choice is the reply if there is one, otherwise the first notice,
which leaves the queue. (R175, R176, R182, R183, R185) -/
def Obligations.SentMessagesLeaveTheLink : Prop :=
  ∀ (s : State) (p : Plant), s.linkWorks = true → LinkSound s → (s.phase = .running → Settled s) →
    (∀ n, s.link.transmitter = .notice n → s.link.reply = none → s.link.notices = [] →
      exec (.transmitComplete p) s = .next { s with plant := p, link := { s.link with transmitter := .idle } }) ∧
    (∀ n m rest, s.link.transmitter = .notice n → s.link.reply = none → s.link.notices = m :: rest →
      exec (.transmitComplete p) s =
        .next { s with plant := p, link := { s.link with transmitter := .notice m, notices := rest } }) ∧
    (∀ n r, s.link.transmitter = .notice n → s.link.reply = some r →
      exec (.transmitComplete p) s = .next { s with plant := p, link := { s.link with transmitter := .reply } }) ∧
    (∀ r, s.link.transmitter = .reply → s.link.reply = some r → r.restartKind = none → s.link.buffer = [] →
      s.link.notices = [] →
      exec (.transmitComplete p) s =
        .next { s with plant := p, link := { s.link with transmitter := .idle, reply := none } }) ∧
    (∀ r m rest, s.link.transmitter = .reply → s.link.reply = some r → r.restartKind = none → s.link.buffer = [] →
      s.link.notices = m :: rest →
      exec (.transmitComplete p) s = .next { s with plant := p, link := { s.link with
        transmitter := .notice m, reply := none, notices := rest } }) ∧
    (∀ r q rest, s.link.transmitter = .reply → s.link.reply = some r → r.restartKind = none →
      s.link.buffer = q :: rest →
      (let x := perform q { s with plant := p, link := { s.link with
        transmitter := .idle, reply := none, buffer := rest } }
      exec (.transmitComplete p) s = .next (conclude s (answered q.request.kindByte x.2.1 x.2.2 x.1))) ∧
      ∃ t res body, exec (.transmitComplete p) s = .next t ∧ t.link.buffer = rest ∧ t.link.transmitter = .reply ∧
        t.link.reply = some ⟨replyKind q.request.kindByte, res, body⟩ ∧
        (res, body) = (perform q { s with plant := p, link := { s.link with
          transmitter := .idle, reply := none, buffer := rest } }).2) ∧
    (∀ r q rest, s.link.transmitter = .reply → s.link.reply = some r → r.restartKind = none →
      s.link.buffer = q :: rest → q.starting = true →
      exec (.transmitComplete p) s = .next { s with plant := p, link := { s.link with
        transmitter := .reply, reply := some ⟨replyKind q.request.kindByte, .starting, .empty⟩, buffer := rest } })

/-- For a queue in the order of the priorities with at most 16 notices: a masked notice is not queued and not counted.
With fewer than 16 queued, the notice is placed after all of the same or a smaller number and before all of a larger
one. With 16 queued and a larger number among them, the newest of those with the largest number is discarded and the
arriving notice is placed so; otherwise the arriving notice is discarded; in both cases the counter rises by one and
stays at 65535. Nothing else of the part changes. (R186) -/
def Obligations.NoticesTakeTheirPlace : Prop :=
  ∀ (n : Notice) (s : State), s.link.notices.length ≤ 16 →
    s.link.notices.Pairwise (fun a b => a.priority ≤ b.priority) →
    (n.enabled s.link.mask = false → enqueue n s = s) ∧
    (n.enabled s.link.mask = true → s.link.notices.length < 16 →
      ∃ before after, s.link.notices = before ++ after ∧ (∀ m ∈ before, m.priority ≤ n.priority) ∧
        (∀ m ∈ after, n.priority < m.priority) ∧
        enqueue n s = { s with link := { s.link with notices := before ++ n :: after } }) ∧
    (n.enabled s.link.mask = true → s.link.notices.length = 16 → (∃ m ∈ s.link.notices, n.priority < m.priority) →
      ∃ kept newest before after, s.link.notices = kept ++ [newest] ∧
        (∀ m ∈ s.link.notices, m.priority ≤ newest.priority) ∧ kept = before ++ after ∧
        (∀ m ∈ before, m.priority ≤ n.priority) ∧ (∀ m ∈ after, n.priority < m.priority) ∧
        enqueue n s = { s with link := { s.link with
          notices := before ++ n :: after, discarded := min 65535 (s.link.discarded + 1) } }) ∧
    (n.enabled s.link.mask = true → s.link.notices.length = 16 → (∀ m ∈ s.link.notices, m.priority ≤ n.priority) →
      enqueue n s = { s with link := { s.link with discarded := min 65535 (s.link.discarded + 1) } })

/-- In a state that listens and has nothing left to follow: IDENTIFY and LINK_STATUS are answered OK with the values
in force, the counters and the mask, and change nothing. SET_NOTIFY with any of bits 9 to 15 set is refused with
RANGE; otherwise bits 1 to 4 and 6 to 8 are stored, bits 0 and 5 stay set, and the reply carries the mask as stored.
RESTART is answered OK for the actions 0 (warm) and 1 (cold) and RANGE for the others; the reset itself waits for the
end of the reply. In a state that listens and has nothing left to follow, each of the nine requests that read a block
is answered OK with the fields of its rule as they stand at the execution, written out here field by field, and
nothing else changes but the sensor readings noted. GET_MERGE shows a head as eligible when it is profiled, resolves
and is not refused, or would be re-tested at the first opportunity after a warm start-up (log entry 21), and a rewash
grant with its record's kind beside the id (the model's choice, log entry 42). GET_PROGRAMME of a number within the
table limit reports the descriptor as stored, or as absent, as number 0 always is (R54), with its other fields 0
(R57); GET_STATION of a fitted station reports the station; a number out of range is refused with RANGE, by the
model's choice with the result byte alone (log entry 45). (R175, R188, R189, R190, R29, R50, R59, R65, R84, R107,
R149, R159) -/
def Obligations.LinkAndReadRequestsAnswer : Prop :=
  (∀ s : State, Listening s → Settled s →
    exec .identify s = .next (onlyAnswered 0x01 .ok (.identity
      { stations := s.profile.values.stations, sensors := s.profile.values.sensors,
        tableLimit := s.profile.values.tableLimit, status := s.profile.status, kind := s.resetKind }) s) ∧
    exec .linkStatus s = .next (onlyAnswered 0x02 .ok (.linkStatus
      { crcErrors := s.link.crcErrors, framingErrors := s.link.framingErrors, overflows := s.link.overflows,
        discarded := s.link.discarded, queued := s.link.notices.length, mask := s.link.mask,
        status := s.profile.status }) s) ∧
    (∀ m : Half, m &&& 0xFE00#16 ≠ 0 → exec (.setNotify m) s = .next (onlyAnswered 0x03 .range .empty s)) ∧
    (∀ m : Half, m &&& 0xFE00#16 = 0 → exec (.setNotify m) s =
      .next (onlyAnswered 0x03 .ok (.notify ((m &&& 0x01DE#16) ||| 0x0021#16))
        { s with link := { s.link with mask := (m &&& 0x01DE#16) ||| 0x0021#16 } })) ∧
    exec (.restart 0) s = .next (onlyAnswered 0x04 .ok (.restart .warm) s) ∧
    exec (.restart 1) s = .next (onlyAnswered 0x04 .ok (.restart .cold) s) ∧
    (∀ a : Byte, 1 < a.toNat → exec (.restart a) s = .next (onlyAnswered 0x04 .range .empty s))) ∧
  (∀ (s : State) (p : Plant), Listening s → Settled s →
    let left : Timer → Nat := fun x => match x with
      | .running n => n
      | _ => 0
    let number := fun r : TrackRecord => match r.programme with
      | some q => q.number
      | none => 0
    let reserved := (s.track.positions[16]).bind (·.destination)
    exec .getTrack s = .next (onlyAnswered 0x0C .ok (.track
      { state := s.track.state, runEnable := s.track.runEnable, holds := s.track.holds, fault := s.track.fault,
        stepDue := s.track.stepDue, interrupted := s.track.motion == .interrupted,
        recoveryPending := s.track.recoveryPending, period := s.track.period, stepLeft := left s.track.stepTimer,
        extension := s.track.extension, reserved := reserved, motionLeft := left s.track.motionTimer,
        purgeCount := s.track.purgeCount, positions := s.track.positions }) s) ∧
    exec .getRinse s = .next (onlyAnswered 0x16 .ok (.rinse
      { sensors := s.profile.values.sensors, converter := s.dose.converter, last := s.dose.last, count := s.dose.count,
        disagreeRun := s.dose.disagreeRun, invalidRun := s.dose.invalidRun, recoveryRun := s.dose.recoveryRun,
        f1 := s.track.positions[11].map fun r => ⟨r.id, r.dose, r.required, r.leaving⟩,
        f2 := s.track.positions[12].map fun r => ⟨r.id, r.dose, r.required, r.leaving⟩ }) s) ∧
    exec .getKindMap s =
      .next (onlyAnswered 0x13 .ok (.kindMapRead s.programmes.kindMap s.profile.values.tableLimit) s) ∧
    exec .getSanitation s = .next (onlyAnswered 0x15 .ok (.sanitationRead s.programmes.sanitation s.programmes.source
      s.programmes.lock s.programmes.required) s) ∧
    exec (.getMerge p) s = .next (onlyAnswered 0x1C .ok (.merge
      { state := s.merge.state, rotation := s.merge.rotation,
        grant := s.merge.grant.map fun g => match g with
          | .spur n e k q => ⟨.spur n, e, k, some q.number, if s.merge.state = .transferring then left s.merge.timer else 0⟩
          | .rewash r => ⟨.rewash, r.id, r.kind, r.programme.map (·.number),
              if s.merge.state = .transferring then left s.merge.timer else 0⟩,
        tags := s.merge.tags, overrun := s.merge.overrun, position0 := p.position0,
        heads := (quads.filter fun n => decide (n.val + 1 ≤ s.profile.values.stations)).map fun n =>
          ⟨n, (s.stations.get n).spur.head?, match (s.stations.get n).spur.head? with
            | some e => e.profiled && (resolveHead s e).isSome && (!e.refused || s.merge.retest)
            | none => false⟩,
        laneHead := s.ret.lane.head?.map (·.id) }) (s.sense p)) ∧
    exec .getReturn s = .next (onlyAnswered 0x20 .ok (.returns
      { cleanEnd := s.ret.cleanEnd.map fun e => ⟨e.record.id, e.record.kind, number e.record, e.record.verdict,
          e.record.dose, e.record.rewashCount, e.record.source, e.quarantined⟩,
        cleanEntries := s.ret.cleanEnd.length,
        cleanReserved := reserved == some .clean || reserved == some .quarantine, confirm := s.ret.confirm,
        quarantineLamp := (s.ret.cleanEnd.head?.map (·.quarantined)).getD false, returnFullLamp := s.ret.confirm,
        lane := s.ret.lane.map fun r => ⟨r.id, r.kind, number r, r.dose, r.rewashCount, r.source⟩,
        laneReserved := reserved == some .rewash,
        transit := s.ret.transit.mapIdx fun i x => ⟨x.record.id, x.record.kind, number x.record, x.record.verdict,
          x.record.dose, x.record.rewashCount,
          if i = 0 ∧ s.ret.held = true then .held else if x.travel = .expired then .due else .travelling, left x.travel⟩,
        spacingLeft := left s.ret.spacing, arrival := s.inputs.arrival, surplus := s.ret.surplus,
        deliveries := ⟨s.stations.one.deliveries.length, s.stations.two.deliveries.length,
          s.stations.three.deliveries.length, s.stations.four.deliveries.length⟩,
        surplusDeliveries := (quads.map fun n => (s.stations.get n).deliveries.countP fun d => d.origin == .surplus).sum,
        inspections := s.ret.inspections, diverter := s.ret.diverter, conveyor := s.ret.conveyor,
        paused := s.interlock.live.estop }) s) ∧
    exec .getInterlocks s = .next (onlyAnswered 0x30 .ok (.interlocks
      { snapshot := s.interlock.snapshot, live := s.interlock.live, latched := s.interlock.latched,
        count := s.interlock.count, cause := s.interlock.cause, idleLeft := left s.interlock.idle,
        mode := s.profile.values.recoveryMode, recoveryLeft := max (left s.interlock.recovery) (left s.interlock.limit),
        recoveryRun := s.dose.recoveryRun, heat := s.interlock.heat }) s) ∧
    (∀ n : Byte, n = 0 ∨ s.profile.values.tableLimit < n.toNat →
      exec (.getProgramme n) s = .next (onlyAnswered 0x11 .range .empty s)) ∧
    (∀ n : Byte, n ≠ 0 → n.toNat ≤ s.profile.values.tableLimit → exec (.getProgramme n) s =
      .next (onlyAnswered 0x11 .ok (.programmeRead (match (if programmeOf n = 0 then none else s.programmes.table[programmeOf n]) with
        | some d => ⟨true, d.divisor, d.required, d.limit, d.allowed, d.rewash⟩
        | none => ⟨false, 0, 0, 0, false, 0⟩) s.profile.values.tableLimit) s)) ∧
    (∀ n : Byte, n = 0 ∨ s.profile.values.stations < n.toNat ∨ 4 < n.toNat →
      exec (.getStation n p) s = .next (onlyAnswered 0x18 .range .empty (s.sense p))) ∧
    (∀ (n : Byte) (q : Quad), n.toNat = q.val + 1 → n.toNat ≤ s.profile.values.stations → exec (.getStation n p) s =
      let u := s.stations.get q
      .next (onlyAnswered 0x18 .ok (.station
        { mode := u.mode, mask := u.mask, committed := u.stack.length + u.deliveries.length, stack := u.stack,
          deliveries := u.deliveries.map fun d => ⟨d.id, d.kind, d.origin, left d.timer⟩, bay := u.bay,
          baySensor := p.bay.get q, spur := u.spur, spurHeadSensor := p.spurHead.get q,
          inTransfer := match s.merge.grant with
            | some (.spur m _ _ _) => m == q
            | _ => false,
          noRack := u.stack.length + u.deliveries.length == 0, spurFull := u.spurFull.isRunning,
          refused := (u.spur.head?.map (·.refused)).getD false, spurFullLeft := left u.spurFull }) (s.sense p))))

/-- The notice queue holds at most 16 notices in the order of their priorities, at most one of them an INTERLOCK
notice; the buffer holds at most two requests and none while the slot is empty, each marked as received during start-
up outside a working part; an idle transmitter leaves no reply and no notice waiting; the notify mask keeps bits 0 and
5 set and bits 9 to 15 clear; the four counters stay in range. Every step keeps this. (R157, R176, R181, R182, R185,
R186, R188, R189) -/
def Obligations.LinkSoundIsKept : Prop :=
  ∀ s t : State, LinkSound s → step s = .next t → LinkSound t

/-- In a state that listens and has nothing left to follow, with a chain open, or in FAULT, or in PURGING, or with the
settings-required mark set, RUN is answered STATE and changes nothing but the readings noted; so it does not set the
sanitation lock (R64). In a state that listens, with the chains closed, no settings awaited and no interrupted
transfer, RUN is answered OK; then follows what R7, R92 and R161 say (conclude). Base: readings noted, run enable and
sanitation lock set. READY, HOLD, STEPPING, RECOVERY: the base alone. OFF or STOPPED without interrupted mark (and in
STOPPED without recovery-pending mark): READY, with its STATE notice. With the interrupted mark: by the index sensor
the motion is completed and the track is READY, or the drive runs again, the gate open for a REWASH reservation, the
motion timer at the full limit, the track STEPPING. STOPPED with the recovery-pending mark: RECOVERY begins afresh;
STANDBY: the heat-economy line is released and RECOVERY begins. (R3, R63, R22, R28, R64, R163, R164) -/
def Obligations.RunIsRefusedOrMovesTheTrack : Prop :=
  (∀ (s : State) (p : Plant), Listening s → Settled s →
    s.interlock.live.estop = true ∨ s.interlock.live.door = true ∨ s.track.state = .fault ∨ s.track.state = .purging ∨
      s.programmes.required = true →
    exec (.run p) s = .next (onlyAnswered 0x08 .state .empty (s.sense p))) ∧
  (∀ (s : State) (p : Plant), Listening s → s.interlock.live.estop = false → s.interlock.live.door = false →
    s.programmes.required = false → s.merge.state ≠ .interrupted →
    let base : State := { s with plant := p, track := { s.track with runEnable := true },
                                 programmes := { s.programmes with lock := true } }
    let ok := fun t : State => (.next (conclude s (answered 0x08 .ok .empty t)) : Answer)
    let recovery := fun t : State => withStateNotice { t with
      track := { t.track with state := .recovery, recoveryPending := false }, dose := { t.dose with recoveryRun := 0 },
      interlock := { t.interlock with
        recovery := if t.profile.values.recoveryMode = .fixed then .running (1000 * t.profile.values.recoveryTime)
          else .idle,
        limit := if t.profile.values.recoveryMode = .fixed then .idle
          else .running (1000 * t.profile.values.recoveryLimit) } }
    (s.track.state = .ready ∨ s.track.state = .hold ∨ s.track.state = .stepping ∨ s.track.state = .recovery →
      exec (.run p) s = ok base) ∧
    (s.track.motion ≠ .interrupted →
      s.track.state = .off ∨ (s.track.state = .stopped ∧ s.track.recoveryPending = false) →
      exec (.run p) s = ok (withStateNotice { base with track := { base.track with state := .ready } })) ∧
    (s.track.motion = .interrupted → s.track.state = .off ∨ s.track.state = .stopped → p.index = false →
      exec (.run p) s = ok (withStateNotice { base with track := { base.track with
        state := .stepping, motion := .inFlight, chainDrive := true,
        rewashGate := s.track.rewashGate || s.reservation == some .rewash,
        motionTimer := .running (100 * s.profile.values.motionLimit) } })) ∧
    (s.track.motion = .interrupted → s.track.state = .off ∨ s.track.state = .stopped → p.index = true →
      exec (.run p) s = ok (withStateNotice { completeMotion base with
        track := { (completeMotion base).track with state := .ready } })) ∧
    (s.track.motion ≠ .interrupted → s.track.state = .stopped → s.track.recoveryPending = true →
      exec (.run p) s = ok (recovery base)) ∧
    (s.track.state = .standby →
      exec (.run p) s = ok (recovery { base with interlock := { base.interlock with heat := false } })))

/-- In a state that listens, HALT is answered OK in every track state but FAULT, where it is refused with STATE. OFF
and STEPPING: run enable is cleared and nothing else. READY and HOLD: OFF with the hold reasons emptied. STOPPED: OFF
with the recovery-pending mark cleared. STANDBY and RECOVERY: OFF, the recovery timers stopped and the heat-economy
line released. PURGING: the purge count becomes 0; without a motion the track is OFF at once with the hold reasons
emptied, and a step-due mark that PURGE set stays (the model's choice, log entry 11). Each entry to OFF queues its
STATE notice. What R7, R92 and R161 say then follows (conclude). In a state that listens: STANDBY in READY with no
record on the track, the lane and every spur empty and no transfer in flight takes the track to STANDBY with the heat-
economy line asserted. PURGE in OFF with no motion, no transfer in flight and both chains closed takes it to PURGING
with the count 18, the default period, and the step due at once (the mark stands for that, log entry 11). Each queues
its STATE notice. In every other state they are refused with STATE and change nothing. (R4, R27, R28, R162, R166, R6,
R24, R25) -/
def Obligations.HaltStandbyAndPurgeMoveTheTrack : Prop :=
  (∀ s : State, Listening s →
    let ok := fun t : State => (.next (conclude s (answered 0x09 .ok .empty t)) : Answer)
    (s.track.state = .fault → Settled s → exec .halt s = .next (onlyAnswered 0x09 .state .empty s)) ∧
    (s.track.state = .off ∨ s.track.state = .stepping →
      exec .halt s = ok { s with track := { s.track with runEnable := false } }) ∧
    (s.track.state = .ready ∨ s.track.state = .hold → exec .halt s =
      ok (withStateNotice { s with track := { s.track with state := .off, runEnable := false, holds := .empty } })) ∧
    (s.track.state = .stopped → exec .halt s =
      ok (withStateNotice { s with track := { s.track with
        state := .off, runEnable := false, recoveryPending := false } })) ∧
    (s.track.state = .standby ∨ s.track.state = .recovery → exec .halt s =
      ok (withStateNotice { s with
        track := { s.track with state := .off, runEnable := false },
        interlock := { s.interlock with recovery := .idle, limit := .idle, heat := false } })) ∧
    (s.track.state = .purging → s.track.motion = .none → exec .halt s =
      ok (withStateNotice { s with track := { s.track with
        state := .off, runEnable := false, purgeCount := 0, holds := .empty } })) ∧
    (s.track.state = .purging → s.track.motion ≠ .none → exec .halt s =
      ok { s with track := { s.track with runEnable := false, purgeCount := 0 } })) ∧
  (∀ s : State, Listening s →
    let idle := s.track.state = .ready ∧ s.track.records = 0 ∧ s.ret.lane = [] ∧
      (∀ n, (s.stations.get n).spur = []) ∧ s.merge.state = .idle
    let still := s.track.state = .off ∧ s.track.motion = .none ∧ s.merge.state = .idle ∧
      s.interlock.live.estop = false ∧ s.interlock.live.door = false
    let divisor := match s.programmes.table[1] with
      | some d => d.divisor
      | none => 179
    (idle → exec .standby s = .next (conclude s (answered 0x0A .ok .empty (withStateNotice { s with
      track := { s.track with state := .standby }, interlock := { s.interlock with heat := true } })))) ∧
    (¬ idle → Settled s → exec .standby s = .next (onlyAnswered 0x0A .state .empty s)) ∧
    (still → exec .purge s = .next (conclude s (answered 0x0D .ok .empty (withStateNotice { s with
      track := { s.track with state := .purging, purgeCount := 18, period := divisor + 1, stepDue := true } })))) ∧
    (¬ still → Settled s → exec .purge s = .next (onlyAnswered 0x0D .state .empty s)))

/-- Once start-up has ended: when a command leaves the track in READY with a record and the step-due mark, or in HOLD,
with no transfer in flight, the chains closed, the tank OK, a destination for any X record and the F2 dose met, or in
PURGING with the step due, no motion, the chains closed and a destination, the step starts: the X record takes its
destination, the F2 record its verdict and the leaving mark, the other records stay, the hold reasons and the mark are
cleared, the extension timer is IDLE, the drive runs with its timer at the motion limit, the gate opens for REWASH,
and the track is STEPPING, or stays in PURGING. A TRACKED F2 record sends its pass to the directory, and a SHORT
verdict queues a SHORT_DOSE notice with the record's id, programme, dose, required dose and rewash count. The idle
timer is stopped. Nothing else changes. That a due step starts before an open grant opportunity of the same action is
taken is the model's choice (log entry 8). (R7, R8, R10, R13, R14, R22, R26, R120) -/
def Obligations.DueStepsStart : Prop :=
  ∀ b s : State, s.phase = .running → s.interlock.live.estop = false → s.interlock.live.door = false →
    routeFound s = true →
    (((s.track.state = .ready ∧ s.track.stepDue = true ∧ s.track.records ≠ 0) ∨ s.track.state = .hold) ∧
        s.merge.state = .idle ∧ s.interlock.live.tank = false ∧
        (∀ r, s.track.positions[12] = some r → r.required ≤ r.dose ∨ s.track.extension = .expired ∨
          (s.track.extension = .idle ∧ (r.programme.map (·.limit)).getD 0 = 0))) ∨
      (s.track.state = .purging ∧ s.track.stepDue = true ∧ s.track.motion = .none) →
    let t := conclude b s
    t.track.positions[16] = s.track.positions[16].map (fun r => { r with destination := exitRoute s r }) ∧
    t.track.positions[12] = s.track.positions[12].map (fun r =>
      { r with verdict := if r.required ≤ r.dose then .sanitised else .short, leaving := true }) ∧
    (∀ i : Fin 17, i ≠ 12 → i ≠ 16 → t.track.positions[i] = s.track.positions[i]) ∧
    t.track.state = (if s.track.state = .purging then .purging else .stepping) ∧
    t.track.holds = .empty ∧ t.track.stepDue = false ∧ t.track.extension = .idle ∧ t.track.motion = .inFlight ∧
    t.track.chainDrive = true ∧ t.track.motionTimer = .running (100 * s.profile.values.motionLimit) ∧
    t.track.rewashGate = (s.track.rewashGate || ((s.track.positions[16]).bind (exitRoute s) == some .rewash)) ∧
    t.track.runEnable = s.track.runEnable ∧ t.track.period = s.track.period ∧
    t.track.stepTimer = s.track.stepTimer ∧ t.track.purgeCount = s.track.purgeCount ∧
    t.track.fault = s.track.fault ∧ t.track.recoveryPending = s.track.recoveryPending ∧
    t.phase = s.phase ∧ t.resetKind = s.resetKind ∧ t.resetCause = s.resetCause ∧ t.settle = s.settle ∧
    t.coldLine = s.coldLine ∧ t.warmLine = s.warmLine ∧ t.inputs = s.inputs ∧ t.plant = s.plant ∧
    t.pending = s.pending ∧ t.choices = s.choices ∧
    t.merge = s.merge ∧ t.stations = s.stations ∧ t.ret = s.ret ∧ t.dose = s.dose ∧ t.programmes = s.programmes ∧
    t.profile = s.profile ∧ t.interlock = { s.interlock with idle := .idle } ∧
    t.directory = (match s.track.positions[12] with
      | some r => if r.tracked then (sendPass r.id (if r.required ≤ r.dose then .sanitised else .short) r.dose s).directory
          else s.directory
      | none => s.directory) ∧
    t.link = (chooseMessage (match s.track.positions[12] with
      | some r => if r.dose < r.required then enqueue (.shortDose r.id (match r.programme with
            | some q => q.number
            | none => 0) r.dose r.required r.rewashCount) s else s
      | none => s)).link

/-- Once start-up has ended, with the chains closed and no grant opportunity to open in HOLD: when a command leaves
the track in READY with a record and the step-due mark, or in HOLD, and some condition is unmet, the track is in HOLD
with exactly the reasons TRANSFER, TANK, EXIT and DOSE whose conditions are unmet; the extension timer is started if
the F2 record is below its dose and the timer was IDLE. A due purge step with no destination for the X record records
EXIT and stays in PURGING. No record moves and no other block changes. (R7, R8, R9, R10, R11, R26) -/
def Obligations.UnmetStepsAreHeld : Prop :=
  ∀ b s : State, s.phase = .running → s.interlock.live.estop = false → s.interlock.live.door = false →
    let extension := if f2Below s = true ∧ s.track.extension = .idle then
        extensionPreset (((s.track.positions[12].bind (·.programme)).map (·.limit)).getD 0)
      else s.track.extension
    let holds : Holds := { transfer := s.merge.state != .idle, tank := s.interlock.live.tank, exit := !routeFound s,
                           dose := f2Below s && extension != .expired }
    ((s.track.state = .ready ∧ s.track.stepDue = true ∧ s.track.records ≠ 0) ∨ s.track.state = .hold → holds ≠ .empty →
      grantOpen { s with track := { s.track with state := .hold } } = false →
      conclude b s = chooseMessage { s with
        track := { s.track with state := .hold, holds := holds, extension := extension },
        interlock := { s.interlock with idle := .idle } }) ∧
    (s.track.state = .purging → s.track.stepDue = true → s.track.motion = .none → routeFound s = false →
      conclude b s = chooseMessage { s with
        track := { s.track with holds := { Holds.empty with exit := true } },
        interlock := { s.interlock with idle := .idle } })

/-- SANITISED: CLEAN when entries plus reservations of the clean end are fewer than 4. SHORT with a snapshot: REWASH
when the snapshot allows rewash, the count is below its limit and the lane's records plus reservations are fewer than
2; otherwise QUARANTINE when the clean end has a place. SHORT without a snapshot: QUARANTINE when the clean end has a
place. In every other case there is no destination, and the reason EXIT is among the hold reasons exactly when the X
record has none; with no record at X there is no such reason. (R12) -/
def Obligations.ExitRoutingFollowsTheVerdict : Prop :=
  ∀ (s : State) (r : TrackRecord),
    let clean := s.ret.cleanEnd.length + (if s.reservation = some .clean ∨ s.reservation = some .quarantine then 1 else 0)
    let lane := s.ret.lane.length + (if s.reservation = some .rewash then 1 else 0)
    let again := ∃ p, r.programme = some p ∧ p.allowed = true ∧ r.rewashCount < p.rewash ∧ lane < 2
    (r.verdict = .sanitised → clean < 4 → exitRoute s r = some .clean) ∧
    (r.verdict = .sanitised → 4 ≤ clean → exitRoute s r = none) ∧
    (r.verdict = .short → again → exitRoute s r = some .rewash) ∧
    (r.verdict = .short → ¬ again → clean < 4 → exitRoute s r = some .quarantine) ∧
    (r.verdict = .short → ¬ again → 4 ≤ clean → exitRoute s r = none) ∧
    (s.track.positions[16] = some r → ((holdsNow s).exit = true ↔ exitRoute s r = none)) ∧
    (s.track.positions[16] = none → (holdsNow s).exit = false)

/-- Once start-up has ended, with a motion in flight: the records of positions 0 to 15 stand at 1 to 16, the one at D1
without its leaving mark, position 0 is empty; a record come to X with the eye clear is gone, a TRACKED one located
UNKNOWN and unpinned, with a FAULT notice MISSING_RACK of its id and source, and an eye blocked with none makes a
phantom. The X record joins the queue its destination names, destination cleared, quarantined for QUARANTINE, and a
TRACKED one is located at REWASH or CLEAN. The drive, gate and timer are off, no motion and no due mark is left, the
period is the one fixed from positions 2 to 12 and the step timer is preset with it. The track is READY or OFF by run
enable; in PURGING the count falls by one and at 0 the track is OFF with no hold reason. (R6, R13, R15, R16, R17, R18,
R19, R26, R27) -/
def Obligations.StepCompletionMovesTheRecords : Prop :=
  ∀ (s : State) (p : Plant), s.phase = .running → s.track.motion = .inFlight →
    let handed := match s.track.positions[16] with
      | some r => match r.destination with
        | some d => if r.tracked then sendLocation r.id (if d = .rewash then .rewash else .clean) s else s
        | none => s
      | none => s
    ∃ t, exec (.stepCompletion p) s = .next t ∧
      t.track.positions[0] = none ∧
      (∀ (i : Nat) (h : i < 15), i ≠ 12 → t.track.positions[i + 1] = s.track.positions[i]) ∧
      t.track.positions[13] = s.track.positions[12].map (fun r => { r with leaving := false }) ∧
      t.track.positions[16] = (match s.track.positions[15], p.exitEye with
        | some r, true => some r
        | none, true => some phantom
        | _, false => none) ∧
      t.ret = { s.ret with
        cleanEnd := s.ret.cleanEnd ++ (match s.track.positions[16] with
          | some r => if r.destination = some .clean then [⟨{ r with destination := none }, false⟩]
                      else if r.destination = some .quarantine then [⟨{ r with destination := none }, true⟩] else []
          | none => []),
        lane := s.ret.lane ++ (match s.track.positions[16] with
          | some r => if r.destination = some .rewash then [{ r with destination := none }] else []
          | none => []) } ∧
      t.track.chainDrive = false ∧ t.track.rewashGate = false ∧ t.track.motionTimer = .idle ∧
      t.track.motion = .none ∧ t.track.stepDue = false ∧ t.track.period = periodOf t ∧
      t.track.stepTimer = .running (10 * periodOf t) ∧
      t.track.state = (if s.track.state = .purging then (if s.track.purgeCount ≤ 1 then .off else .purging)
        else if s.track.runEnable = true then .ready else .off) ∧
      (s.track.state = .purging → t.track.purgeCount = s.track.purgeCount - 1) ∧
      (s.track.state = .purging → s.track.purgeCount ≤ 1 → t.track.holds = .empty) ∧
      t.track.runEnable = s.track.runEnable ∧ t.track.extension = s.track.extension ∧ t.dose = s.dose ∧
      t.programmes = s.programmes ∧ t.profile = s.profile ∧ t.plant = { p with index := true } ∧
      t.directory = (match s.track.positions[15], p.exitEye with
        | some r, false => if r.tracked then (sendUnpin r.id .unknown handed).directory else handed.directory
        | _, _ => handed.directory) ∧
      (∀ r, s.track.positions[15] = some r → p.exitEye = false → s.link.mask.getLsbD 2 = true →
        s.link.notices.length < 16 → Notice.fault (.missingRack r.id r.source) ∈ t.link.notices ∨
          t.link.transmitter = .notice (.fault (.missingRack r.id r.source)))

/-- The period that a completion fixes, in units of 100 ms, is at least the divisor plus one of every record with a
snapshot in positions 2 to 12 and equals that of one of them; with none there it is the step divisor of programme 1
plus one, or 180 with programme 1 absent. (R6) -/
def Obligations.PeriodIsFixedByTheSlowest : Prop :=
  ∀ s : State,
    (∀ (i : Fin 17) (r : TrackRecord) (p : Snapshot), 2 ≤ i.val → i.val ≤ 12 → s.track.positions[i] = some r →
      r.programme = some p → p.divisor + 1 ≤ periodOf s) ∧
    ((∃ (i : Fin 17) (r : TrackRecord) (p : Snapshot), 2 ≤ i.val ∧ i.val ≤ 12 ∧ s.track.positions[i] = some r ∧
        r.programme = some p) →
      ∃ (i : Fin 17) (r : TrackRecord) (p : Snapshot), 2 ≤ i.val ∧ i.val ≤ 12 ∧ s.track.positions[i] = some r ∧
        r.programme = some p ∧ periodOf s = p.divisor + 1) ∧
    ((∀ (i : Fin 17) (r : TrackRecord), 2 ≤ i.val → i.val ≤ 12 → s.track.positions[i] = some r → r.programme = none) →
      periodOf s = match s.programmes.table[1] with
        | some d => d.divisor + 1
        | none => 180)

/-- Once start-up has ended: the step timer's expiry leaves it expired with the step-due mark set; the extension
timer's leaves it EXPIRED; what R7 and R92 say then follows (conclude). The motion timer's expiry with a motion in
flight stops the drive, keeps the gate, interrupts the motion, clears run enable, hold reasons and purge count, takes
the track to FAULT with cause JAM_MOTION, sets the JAM member and queues the FAULT notice. An expiry of a timer that
does not run does nothing in a state with nothing left to follow (log entry 7). (R5, R10, R11, R20, R155) -/
def Obligations.TrackTimersExpire : Prop :=
  ∀ s : State, s.phase = .running →
    (∀ g, s.track.stepTimer = .running g → exec .stepTimerExpiry s =
      .next (conclude s { s with track := { s.track with stepTimer := .expired, stepDue := true } })) ∧
    (∀ g, s.track.extension = .running g → exec .extensionExpiry s =
      .next (conclude s { s with track := { s.track with extension := .expired } })) ∧
    (∀ g, s.track.motionTimer = .running g → s.track.motion = .inFlight → exec .motionTimeout s =
      .next (conclude s (enqueue (.fault .jamMotion) (setJam true { s with track := { s.track with
        state := .fault, fault := some .jamMotion, runEnable := false, holds := .empty, purgeCount := 0,
        chainDrive := false, motion := .interrupted, motionTimer := .idle } })))) ∧
    (Settled s → LinkSound s →
      (s.track.stepTimer.isRunning = false → exec .stepTimerExpiry s = .next s) ∧
      (s.track.extension.isRunning = false → exec .extensionExpiry s = .next s) ∧
      (s.track.motionTimer.isRunning = false → exec .motionTimeout s = .next s))

/-- Once start-up has ended, when the emergency-stop or the door chain opens: READY, HOLD, STEPPING, PURGING and
RECOVERY become STOPPED and the other states stay; a motion in flight is interrupted, its drive and timer stop, its
reservation, verdicts and marks stand (for the step-due mark of a purge the model's choice, log entry 11), as does the
rewash gate (the model's reading, log entry 14); hold reasons and purge count are emptied, RECOVERY sets the recovery-
pending mark and stops the recovery timers; TRANSFERRING becomes INTERRUPTED with the grant kept and the pusher and
timer stopped; the emergency stop stops the conveyor, whether the door chain is open already or not (log entry 25).
The member is set; with the flag clear the group latches with cause CHANGE, with it set the snapshot and count stay.
No record moves. (R21, R97, R148, R152, R153, R156, R157, R166) -/
def Obligations.ChainOpeningsStopTheParts : Prop :=
  ∀ (s : State) (c : Instr), s.phase = .running →
    (c = .estopChainChange true ∧ s.interlock.live.estop = false) ∨
      (c = .doorChainChange true ∧ s.interlock.live.door = false) →
    ∃ t, exec c s = .next t ∧
      t.track = { s.track with
        state := if s.track.state.active then .stopped else s.track.state,
        motion := if s.track.state.active ∧ s.track.state ≠ .recovery ∧ s.track.motion = .inFlight then .interrupted
          else s.track.motion,
        chainDrive := if s.track.state.active ∧ s.track.state ≠ .recovery ∧ s.track.motion = .inFlight then false
          else s.track.chainDrive,
        motionTimer := if s.track.state.active ∧ s.track.state ≠ .recovery ∧ s.track.motion = .inFlight then .idle
          else s.track.motionTimer,
        holds := if s.track.state.active ∧ s.track.state ≠ .recovery then .empty else s.track.holds,
        purgeCount := if s.track.state = .purging then 0 else s.track.purgeCount,
        recoveryPending := s.track.recoveryPending || s.track.state == .recovery } ∧
      t.merge = (if s.merge.state = .transferring then
        { s.merge with state := .interrupted, pusher := none, timer := .idle } else s.merge) ∧
      t.ret = (if c = .estopChainChange true then { s.ret with conveyor := false } else s.ret) ∧
      t.interlock.live = (if c = .estopChainChange true then { s.interlock.live with estop := true }
        else { s.interlock.live with door := true }) ∧
      t.interlock.latched = true ∧
      t.interlock.snapshot = (if s.interlock.latched then s.interlock.snapshot else t.interlock.live) ∧
      t.interlock.count = (if s.interlock.latched then s.interlock.count else s.interlock.count + 1) ∧
      t.interlock.cause = (if s.interlock.latched then s.interlock.cause else .change) ∧
      (s.track.state = .recovery → t.interlock.recovery = .idle ∧ t.interlock.limit = .idle) ∧
      t.interlock.heat = s.interlock.heat ∧ t.stations = s.stations ∧ t.dose = s.dose ∧
      t.programmes = s.programmes ∧ t.directory = s.directory ∧ t.profile = s.profile

/-- Once start-up has ended, with the moving parts consistent: the closing of either chain leaves the track and the
merge as they are, clears the member and reports the change. The closing of the emergency-stop chain runs the conveyor
again, prompts the router, and then a head that is due arrives. The closing of the door chain does nothing to the
return. (R21, R145, R148, R153) -/
def Obligations.ChainClosingsReleaseTheReturn : Prop :=
  ∀ s : State, s.phase = .running → Moving s →
    (s.interlock.live.estop = true →
      ∃ t, exec (.estopChainChange false) s = .next t ∧ t.track = s.track ∧ t.merge = s.merge ∧
        t.interlock.live = { s.interlock.live with estop := false } ∧ t.interlock.latched = true ∧
        t.ret = (tryArrival (prompt { s with
          inputs := { s.inputs with estopOpen := false }, ret := { s.ret with conveyor := true },
          interlock := { s.interlock with live := { s.interlock.live with estop := false } } })).ret) ∧
    (s.interlock.live.door = true →
      ∃ t, exec (.doorChainChange false) s = .next t ∧ t.track = s.track ∧ t.merge = s.merge ∧ t.ret = s.ret ∧
        t.stations = s.stations ∧ t.directory = s.directory ∧
        t.interlock.live = { s.interlock.live with door := false } ∧ t.interlock.latched = true)

/-- Once start-up has ended: a change of the rinse flow or the tank level changes its live member; with the latched
flag clear the snapshot takes the live values, the flag is set, the count rises by one, the cause is CHANGE and the
INTERLOCK notice is queued; with the flag set nothing more happens. A level reported again changes nothing of the
group. A fall or rise of the tank level lets the track re-test a held step before the change is reported. What R7 and
R92 say then follows (conclude). In a state that listens and has nothing left to follow, RELEASE_INTERLOCKS is
answered OK with the group as it then stands. With the flag clear nothing changes. With it set and live equal to the
snapshot the flag is cleared. With it set and live different, the snapshot takes the live values, the flag stays set,
the count rises by one, the cause is RELEASE and an INTERLOCK notice is queued. An INTERLOCK notice that finds one
waiting takes its place in the queue with the new contents; with none waiting it is queued like any other, and while
masked it is dropped. (R9, R152, R154, R156, R157, R158, R187) -/
def Obligations.MembersAreLatchedAndReleased : Prop :=
  (∀ s : State, s.phase = .running →
    let reported := fun t : State => if t.interlock.latched then t else
      enqueueInterlock (.interlock t.interlock.live t.interlock.live (t.interlock.count + 1) .change)
        { t with interlock := { t.interlock with snapshot := t.interlock.live, latched := true,
                                                 count := t.interlock.count + 1, cause := .change } }
    (∀ flow : Bool, s.interlock.live.rinse ≠ !flow → exec (.rinseFlowChange flow) s =
      .next (conclude s (reported { s with
        inputs := { s.inputs with noFlow := !flow },
        interlock := { s.interlock with live := { s.interlock.live with rinse := !flow } } }))) ∧
    (∀ flow : Bool, s.interlock.live.rinse = !flow → exec (.rinseFlowChange flow) s =
      .next (conclude s { s with inputs := { s.inputs with noFlow := !flow } })) ∧
    (∀ low : Bool, s.interlock.live.tank ≠ low → exec (.tankLevelChange low) s =
      .next (conclude s (reported (dueEvaluation { s with
        inputs := { s.inputs with tankLow := low },
        interlock := { s.interlock with live := { s.interlock.live with tank := low } } })))) ∧
    (∀ low : Bool, s.interlock.live.tank = low → exec (.tankLevelChange low) s =
      .next (conclude s { s with inputs := { s.inputs with tankLow := low } }))) ∧
  (∀ s : State, Listening s → Settled s →
    let told := fun i : Interlock => ReplyBody.interlocksReleased i.snapshot i.live i.latched i.count i.cause
    let again : Interlock := { s.interlock with
      snapshot := s.interlock.live, latched := true, count := s.interlock.count + 1, cause := .release }
    (s.interlock.latched = false → exec .releaseInterlocks s = .next (onlyAnswered 0x31 .ok (told s.interlock) s)) ∧
    (s.interlock.latched = true → s.interlock.live = s.interlock.snapshot → exec .releaseInterlocks s =
      .next (onlyAnswered 0x31 .ok (told { s.interlock with latched := false })
        { s with interlock := { s.interlock with latched := false } })) ∧
    (s.interlock.latched = true → s.interlock.live ≠ s.interlock.snapshot → exec .releaseInterlocks s =
      .next (onlyAnswered 0x31 .ok (told again)
        (enqueueInterlock (.interlock again.live again.live again.count .release) { s with interlock := again })))) ∧
  (∀ (n : Notice) (s : State),
    (n.enabled s.link.mask = false → enqueueInterlock n s = s) ∧
    (∀ before m after, n.enabled s.link.mask = true → s.link.notices = before ++ m :: after → m.isInterlock = true →
      (∀ x ∈ before ++ after, x.isInterlock = false) →
      enqueueInterlock n s = { s with link := { s.link with notices := before ++ n :: after } }) ∧
    (n.enabled s.link.mask = true → (∀ x ∈ s.link.notices, x.isInterlock = false) → enqueueInterlock n s = enqueue n s))

/-- Once start-up has ended: the idle timer's expiry in READY with the part idle takes the track to STANDBY with the
heat-economy line asserted. The recovery timer's expiry in RECOVERY takes it to READY with both recovery timers
stopped, and the due evaluation is made. The recovery limit's expiry in RECOVERY takes it to FAULT with cause
RECOVERY_FAILED and run enable cleared, stops the timers and queues a FAULT notice with the recovery sample run and
the last agreed temperature, which is absent when no sample has been formed (log entry 33). Outside READY and RECOVERY
an expiry only stops its timer, and an expiry of an idle timer that does not run does nothing (log entry 7). A command
that brings the part to stand in READY, idle, when it did not before presets the idle timer with the idle limit times
10 s, or leaves it stopped with a limit of 0; while the part stays so the timer is left alone, and in any other state
it is stopped. (R24, R28, R48, R161, R162, R164, R165) -/
def Obligations.IdleAndRecoveryTimersExpire : Prop :=
  (∀ s : State, s.phase = .running →
    (∀ g, s.interlock.idle = .running g → idleInReady s = true → exec .idleTimerExpiry s =
      .next (conclude s (withStateNotice { s with
        track := { s.track with state := .standby }, interlock := { s.interlock with idle := .idle, heat := true } }))) ∧
    (∀ g, s.interlock.idle = .running g → idleInReady s = false → exec .idleTimerExpiry s =
      .next (conclude s { s with interlock := { s.interlock with idle := .idle } })) ∧
    (∀ g, s.interlock.recovery = .running g → s.track.state = .recovery → exec .recoveryTimerExpiry s =
      .next (conclude s (dueEvaluation (withStateNotice { s with
        track := { s.track with state := .ready },
        interlock := { s.interlock with recovery := .idle, limit := .idle } })))) ∧
    (∀ g, s.interlock.recovery = .running g → s.track.state ≠ .recovery → exec .recoveryTimerExpiry s =
      .next (conclude s { s with interlock := { s.interlock with recovery := .idle } })) ∧
    (∀ g, s.interlock.limit = .running g → s.track.state = .recovery → exec .recoveryLimitExpiry s =
      .next (conclude s (enqueue (.fault (.recoveryFailed s.dose.recoveryRun (s.dose.last.map (·.t)))) { s with
        track := { s.track with state := .fault, fault := some .recoveryFailed, runEnable := false },
        interlock := { s.interlock with recovery := .idle, limit := .idle } }))) ∧
    (∀ g, s.interlock.limit = .running g → s.track.state ≠ .recovery → exec .recoveryLimitExpiry s =
      .next (conclude s { s with interlock := { s.interlock with limit := .idle } })) ∧
    (Settled s → LinkSound s → s.interlock.idle.isRunning = false → exec .idleTimerExpiry s = .next s)) ∧
  (∀ s : State, idleInReady s = true ↔ s.track.state = .ready ∧ (∀ i : Fin 17, s.track.positions[i] = none) ∧
    s.ret.lane = [] ∧ (∀ n, (s.stations.get n).spur = []) ∧ s.merge.state = .idle) ∧
  (∀ b s : State, s.phase = .running → NothingDue s → grantOpen s = false →
    let preset : Timer :=
      if s.profile.values.idleLimit = 0 then .idle else .running (1000 * s.profile.values.idleLimit)
    let after : Timer := if idleInReady s = false then .idle else if idleInReady b = true then s.interlock.idle else preset
    conclude b s = chooseMessage { s with interlock := { s.interlock with idle := after } })

/-- In a state that listens: outside FAULT, and for a jam with a chain open, CLEAR_FAULT is refused with STATE.
RECOVERY_FAILED: OFF, cause cleared. JAM_MOTION with the index clear: OFF with the interrupted mark kept, JAM cleared;
with it made, completion is applied before. JAM_TRANSFER: the tag queue is emptied; position 0 made completes the
transfer (COMPLETED); a rewash grant, or a spur grant whose head sensor is made, is dropped and the head kept (KEPT):
the merge is IDLE with no grant, the pusher and its timer stop, and the spur-head sensor is read, so that an
unprofiled head takes the kind read and an empty spur an anonymous entry; otherwise the spur's head entry is removed,
its id located UNKNOWN and unpinned, the tag queue is emptied, the grant ends and the merge is IDLE, the pusher and
its timer being left as the jam left them, at rest (LOST); then OFF and JAM cleared. What R7, R92 and R161 say then
follows (conclude). (R23, R78, R98, R99, R155, R167) -/
def Obligations.FaultsAreCleared : Prop :=
  ∀ (s : State) (p : Plant), Listening s → (s.track.fault.isSome ↔ s.track.state = .fault) →
    let closed := s.interlock.live.estop = false ∧ s.interlock.live.door = false
    let done := fun (c : FaultCause) (o : ClearOutcome) (t : State) =>
      (.next (conclude s (answered 0x0B .ok (.faultCleared c o) t)) : Answer)
    let off := fun t : State => withStateNotice { t with track := { t.track with state := .off } }
    let base : State := { s with plant := p, track := { s.track with fault := none } }
    let read := fun (n : Quad) (t : State) =>
      if n.val + 1 ≤ s.profile.values.stations ∧ p.spurHead.get n = true then match (t.stations.get n).spur with
        | [] => { t with stations := t.stations.set n { t.stations.get n with
            spur := [⟨0, p.profile.get n, true, false, none⟩] } }
        | h :: rest => if h.profiled then t else sendKind h.expected (p.profile.get n) { t with
            stations := t.stations.set n { t.stations.get n with
              spur := { h with kind := p.profile.get n, profiled := true } :: rest } }
      else t
    let dropped := fun t : State => { t with
      merge := { t.merge with state := .idle, grant := none, pusher := none, timer := .idle } }
    let untagged : State := { base with merge := { base.merge with tags := [], overrun := false } }
    (s.track.state ≠ .fault → Settled s → exec (.clearFault p) s = .next (onlyAnswered 0x0B .state .empty (s.sense p))) ∧
    (s.track.fault = some .jamMotion ∨ s.track.fault = some .jamTransfer → ¬ closed → Settled s →
      exec (.clearFault p) s = .next (onlyAnswered 0x0B .state .empty (s.sense p))) ∧
    (s.track.fault = some .recoveryFailed → exec (.clearFault p) s = done .recoveryFailed .none (off base)) ∧
    (s.track.fault = some .jamMotion → closed → p.index = false →
      exec (.clearFault p) s = done .jamMotion .pending (setJam false (off base))) ∧
    (s.track.fault = some .jamMotion → closed → p.index = true →
      exec (.clearFault p) s = done .jamMotion .completed (setJam false (off (completeMotion base)))) ∧
    (∀ g, s.track.fault = some .jamTransfer → closed → s.merge.grant = some g → p.position0 = true →
      exec (.clearFault p) s = done .jamTransfer (.settled ⟨.completed, g.requester, g.expected⟩)
        (setJam false (off (completeTransfer untagged)))) ∧
    (∀ r, s.track.fault = some .jamTransfer → closed → s.merge.grant = some (.rewash r) → p.position0 = false →
      exec (.clearFault p) s = done .jamTransfer (.settled ⟨.kept, .rewash, none⟩)
        (setJam false (off (dropped untagged)))) ∧
    (∀ n e k q, s.track.fault = some .jamTransfer → closed → s.merge.grant = some (.spur n e k q) →
      p.position0 = false → p.spurHead.get n = true →
      exec (.clearFault p) s = done .jamTransfer (.settled ⟨.kept, .spur n, some e⟩)
        (setJam false (off (read n (dropped untagged))))) ∧
    (∀ n e k q, s.track.fault = some .jamTransfer → closed → s.merge.grant = some (.spur n e k q) →
      p.position0 = false → p.spurHead.get n = false →
      let lost := sendUnpin e .unknown { untagged with stations := s.stations.set n { s.stations.get n with
        spur := (s.stations.get n).spur.tail } }
      exec (.clearFault p) s = done .jamTransfer (.settled ⟨.lost, .spur n, some e⟩)
        (setJam false (off { lost with merge := { lost.merge with state := .idle, grant := none } })) ∧
      ∃ t, exec (.clearFault p) s = .next t ∧ t.track.state = .off ∧ t.track.fault = none ∧
        t.merge = { s.merge with state := .idle, grant := none, tags := [], overrun := false } ∧
        t.merge.state = .idle ∧ t.merge.grant = none ∧ t.interlock.live.jam = false ∧
        (t.stations.get n).spur = (s.stations.get n).spur.tail ∧ t.track.positions = s.track.positions ∧
        t.directory = (sendUnpin e .unknown s).directory ∧ t.ret = s.ret ∧ t.dose = s.dose ∧
        (∀ m, m ≠ n → t.stations.get m = s.stations.get m) ∧
        t.link.reply = some ⟨0x8B, .ok, .faultCleared .jamTransfer (.settled ⟨.lost, .spur n, some e⟩)⟩)

/-- Once start-up has ended: the sample cycle's expiry presets the cycle with 250 ms again and starts the conversion
of channel A. With two sensors fitted the end of that conversion keeps its code and converts channel B. The end of a
conversion that is not under way, and an expiry of a stopped cycle, change nothing in a state with nothing left to
follow (log entries 7 and 18). Once start-up has ended, the end of channel A's conversion with one sensor, or of
channel B's with A's code pending, forms the sample from the settings and the live RINSE member of that moment
(without B, its validity reads invalid, the model's choice, log entry 35). Its credit is added to the doses at F1 and
F2 unless the record is leaving, up to 65535; every other record but the one at X keeps what it has. The sample
becomes the last one, the count rises by one, each run rises by one up to 8 or returns to 0, the converter is IDLE.
The eighth sample of a recovery run ends a TEMPERATURE recovery: the track is READY with both recovery timers stopped
and its STATE notice queued, and the due evaluation is made; and no other sample ends a recovery. Outside READY, HOLD,
PURGING and RECOVERY the track state stays. (R32, R33, R34, R38, R40, R41, R43, R45, R46, R48, R49, R164) -/
def Obligations.SamplesAreFormedAndCredited : Prop :=
  (∀ s : State, s.phase = .running →
    (∀ g, s.dose.cycle = .running g → exec .sampleCycleExpiry s = .next (conclude s { s with dose := { s.dose with
      cycle := .running 25, converter := .convertingA, pendingA := none } })) ∧
    (∀ c : Code, s.dose.converter = .convertingA → s.profile.values.sensors ≠ 1 → exec (.conversionAComplete c) s =
      .next (conclude s { s with dose := { s.dose with converter := .convertingB, pendingA := some c } })) ∧
    (Settled s → LinkSound s →
      (s.dose.cycle.isRunning = false → exec .sampleCycleExpiry s = .next s) ∧
      (∀ c : Code, s.dose.converter ≠ .convertingA → exec (.conversionAComplete c) s = .next s) ∧
      (∀ c : Code, s.dose.converter ≠ .convertingB → exec (.conversionBComplete c) s = .next s))) ∧
  (∀ (s : State) (c : Instr) (a : Code) (b : Option Code), s.phase = .running →
    (c = .conversionAComplete a ∧ b = none ∧ s.dose.converter = .convertingA ∧ s.profile.values.sensors = 1) ∨
      (∃ x, c = .conversionBComplete x ∧ b = some x ∧ s.dose.converter = .convertingB ∧ s.dose.pendingA = some a) →
    let v := s.programmes.sanitation
    let m := sampleOf v (!s.interlock.live.rinse) a b
    let hot := m.status ≠ .invalid ∧ v.floor + s.profile.values.recoveryMargin ≤ m.t
    let credited := fun r : TrackRecord => if r.leaving then r else { r with dose := min 65535 (r.dose + m.credit) }
    ∃ t, exec c s = .next t ∧
      t.dose = { s.dose with
        converter := .idle, pendingA := none, last := some m, count := s.dose.count + 1,
        disagreeRun := if m.status = .disagree then min 8 (s.dose.disagreeRun + 1) else 0,
        invalidRun := if m.status = .invalid then min 8 (s.dose.invalidRun + 1) else 0,
        recoveryRun := if hot then min 8 (s.dose.recoveryRun + 1) else 0 } ∧
      t.track.positions[11] = s.track.positions[11].map credited ∧
      t.track.positions[12].map (fun r => { r with verdict := .none, leaving := false }) =
        s.track.positions[12].map (fun r => { credited r with verdict := .none, leaving := false }) ∧
      (∀ i : Fin 17, i ≠ 11 → i ≠ 12 → i ≠ 16 → t.track.positions[i] = s.track.positions[i]) ∧
      (s.track.state = .recovery → s.profile.values.recoveryMode = .temperature → hot → s.dose.recoveryRun = 7 →
        t.track.state ≠ .recovery ∧ t.interlock.recovery = .idle ∧ t.interlock.limit = .idle ∧
        let f : State := { s with dose := t.dose, track := { s.track with positions :=
          (s.track.positions.set 11 (s.track.positions[11].map credited)).set 12 (s.track.positions[12].map credited) } }
        let g := if m.status = .disagree ∧ s.dose.disagreeRun = 7 then enqueue (.fault (.sensorDisagree
          ⟨m.codeA, m.codeB, m.tA, m.tB, m.t, m.status⟩)) f else f
        exec c s = .next (conclude s (dueEvaluation (withStateNotice { g with
          track := { g.track with state := .ready },
          interlock := { g.interlock with recovery := .idle, limit := .idle } })))) ∧
      (s.track.state = .recovery → ¬ (s.profile.values.recoveryMode = .temperature ∧ hot ∧ s.dose.recoveryRun = 7) →
        t.track.state = .recovery) ∧
      (s.track.state = .off ∨ s.track.state = .stepping ∨ s.track.state = .stopped ∨ s.track.state = .fault ∨
        s.track.state = .standby → t.track = { s.track with positions := t.track.positions }) ∧
      t.ret = s.ret ∧ t.programmes = s.programmes ∧ t.profile = s.profile)

/-- At a formation the disagreement run and the invalid run rise by one with a sample of their status, up to 8, and
return to 0 with any other, so they stay in 0 to 8. The formation that takes a run from 7 to 8 queues one FAULT
notice, SENSOR_DISAGREE or SENSOR_LOST; no other formation queues one. With one sensor a sample is INVALID exactly
when A's code is 0 or 1023; with two, exactly when both codes are. (R45, R46) -/
def Obligations.RunsOfBadSamplesAreReported : Prop :=
  ∀ (a : Code) (b : Option Code) (s : State), s.dose.disagreeRun ≤ 8 → s.dose.invalidRun ≤ 8 →
    let m := sampleOf s.programmes.sanitation (!s.interlock.live.rinse) a b
    let t := formed a b s
    (m.status = .disagree → t.dose.disagreeRun = min 8 (s.dose.disagreeRun + 1)) ∧
    (m.status ≠ .disagree → t.dose.disagreeRun = 0) ∧
    (m.status = .invalid → t.dose.invalidRun = min 8 (s.dose.invalidRun + 1)) ∧
    (m.status ≠ .invalid → t.dose.invalidRun = 0) ∧
    (m.status = .disagree → s.dose.disagreeRun = 7 →
      t.link = (enqueue (.fault (.sensorDisagree (sensorReport m))) s).link) ∧
    (m.status = .invalid → s.dose.invalidRun = 7 →
      t.link = (enqueue (.fault (.sensorLost (sensorReport m))) s).link) ∧
    (¬ (m.status = .disagree ∧ s.dose.disagreeRun = 7) → ¬ (m.status = .invalid ∧ s.dose.invalidRun = 7) →
      t.link = s.link) ∧
    (b = none → (m.status = .invalid ↔ a = 0 ∨ a = 1023)) ∧
    (∀ x, b = some x → (m.status = .invalid ↔ (a = 0 ∨ a = 1023) ∧ (x = 0 ∨ x = 1023)))

/-- A converted channel, A or B, is valid exactly with a code of 1 to 1022; the temperature reported for it is then
base + floor((code × span + 512) / 1024) with that channel's base and span, whatever the other channel reads, and 0
when it is invalid. For a channel B that is not converted 0 is reported. Two valid channels within the agree limit
give the mean rounded down and GOOD, otherwise the smaller and DISAGREE; one valid channel of two gives its own
temperature and SINGLE; with one sensor its own temperature and GOOD; none gives INVALID and no temperature. With a
channel's base at most 999 and its span at most 2000, the temperature reported for it is at most 2995. (R34, R35, R36,
R37, R49, Table 12) -/
def Obligations.TemperaturesAgreeByTheTable : Prop :=
  ∀ (v : Sanitation) (flow : Bool) (a : Code) (b : Option Code),
    let m := sampleOf v flow a b
    let valid := fun c : Code => 1 ≤ c.toNat ∧ c.toNat ≤ 1022
    let tA := v.aBase + (a.toNat * v.aSpan + 512) / 1024
    (m.validA = true ↔ valid a) ∧
    (valid a → m.tA = tA) ∧ (¬ valid a → m.tA = 0) ∧
    (v.aBase ≤ 999 → v.aSpan ≤ 2000 → m.tA ≤ 2995) ∧
    (v.bBase ≤ 999 → v.bSpan ≤ 2000 → m.tB ≤ 2995) ∧
    (b = none → m.tB = 0) ∧
    (b = none → valid a → m.status = .good ∧ m.t = tA) ∧
    (b = none → ¬ valid a → m.status = .invalid ∧ m.t = 0) ∧
    (∀ x, b = some x →
      let tB := v.bBase + (x.toNat * v.bSpan + 512) / 1024
      (m.validB = true ↔ valid x) ∧
      (valid x → m.tB = tB) ∧ (¬ valid x → m.tB = 0) ∧
      (valid a → valid x → max tA tB - min tA tB ≤ v.agree → m.status = .good ∧ m.t = (tA + tB) / 2) ∧
      (valid a → valid x → v.agree < max tA tB - min tA tB → m.status = .disagree ∧ m.t = min tA tB) ∧
      (valid a → ¬ valid x → m.status = .single ∧ m.t = tA) ∧
      (¬ valid a → valid x → m.status = .single ∧ m.t = tB) ∧
      (¬ valid a → ¬ valid x → m.status = .invalid ∧ m.t = 0))

/-- A sample that is INVALID, below the rinse floor or formed without flow has credit 0 and no band. Any other has the
band floor((t − Tf) / 10), at most 15, and the credit that the table in force holds for that band, entry by entry. By
default the floor is 820 and the table the one of Table 13. (R39) -/
def Obligations.CreditFollowsTheBand : Prop :=
  (∀ (v : Sanitation) (flow : Bool) (a : Code) (b : Option Code),
    let m := sampleOf v flow a b
    (m.status = .invalid ∨ m.t < v.floor ∨ flow = false → m.credit = 0 ∧ m.band = none) ∧
    (m.status ≠ .invalid → v.floor ≤ m.t → flow = true →
      m.band = some (min 15 ((m.t - v.floor) / 10)) ∧ m.credit = v.credit[min 15 ((m.t - v.floor) / 10)])) ∧
  Sanitation.builtIn.floor = 820 ∧
  Sanitation.builtIn.credit = #v[10, 13, 16, 20, 25, 32, 40, 50, 63, 79, 100, 126, 158, 200, 251, 316]

/-- In a state that listens: a programme number of 0 or above the table limit is refused with RANGE. Otherwise,
present, the descriptor is stored whole with the extension limit clamped to 60 and the rewash limit to 3, answered
CLAMPED when either acted and OK otherwise with the descriptor as stored; not present, it is removed and reported as
not present with its five other fields 0. A kind map with a number above the limit is refused with RANGE, any other is
stored whole. After each that is taken, exactly the refused heads of fitted stations that now resolve are no longer
refused, and no other entry changes. What R7 and R92 say then follows (conclude). In a state that listens and has
nothing left to follow: while the sanitation lock is set, SET_SANITATION is refused with LOCKED. With the lock clear
and any setting outside its range of Table 18 it is refused with RANGE. Otherwise the whole set is stored, the source
becomes HOST, the settings-required mark is cleared, and the reply carries the settings. Nothing else changes. (R54,
R55, R56, R58, R59, R61, R89, R90, R63, R64, Table 18) -/
def Obligations.SettingsAreStored : Prop :=
  ((∀ (s : State) (n q d : Byte) (c : Half) (x a w : Byte), Listening s →
    let stored : Descriptor := ⟨d.toNat, c.toNat, min 60 x.toNat, a != 0, min 3 w.toNat⟩
    let told : DescriptorReport := ⟨true, d.toNat, c.toNat, min 60 x.toNat, a != 0, min 3 w.toNat⟩
    let table := fun e : Option Descriptor =>
      { s with programmes := { s.programmes with table := s.programmes.table.set (programmeOf n) e } }
    (n = 0 ∨ s.profile.values.tableLimit < n.toNat → Settled s →
      exec (.setProgramme n q d c x a w) s = .next (onlyAnswered 0x10 .range .empty s)) ∧
    (n ≠ 0 → n.toNat ≤ s.profile.values.tableLimit → q ≠ 0 → exec (.setProgramme n q d c x a w) s =
      .next (conclude s (answered 0x10 (if 60 < x.toNat ∨ 3 < w.toNat then .clamped else .ok) (.programme told)
        (retestHeads (table (some stored)))))) ∧
    (n ≠ 0 → n.toNat ≤ s.profile.values.tableLimit → exec (.setProgramme n 0 d c x a w) s =
      .next (conclude s (answered 0x10 .ok (.programme ⟨false, 0, 0, 0, false, 0⟩) (retestHeads (table none)))))) ∧
  (∀ (s : State) (u p c k t : Byte), Listening s →
    let limit := s.profile.values.tableLimit
    let stored : KindMap := ⟨programmeOf u, programmeOf p, programmeOf c, programmeOf k, programmeOf t⟩
    let above := limit < u.toNat ∨ limit < p.toNat ∨ limit < c.toNat ∨ limit < k.toNat ∨ limit < t.toNat
    (above → Settled s → exec (.setKindMap u p c k t) s = .next (onlyAnswered 0x12 .range .empty s)) ∧
    (¬ above → exec (.setKindMap u p c k t) s = .next (conclude s (answered 0x12 .ok (.kindMap stored)
      (retestHeads { s with programmes := { s.programmes with kindMap := stored } }))))) ∧
  (∀ s : State, { retestHeads s with stations := s.stations } = s ∧
    ∀ n, (retestHeads s).stations.get n = { s.stations.get n with spur := match (s.stations.get n).spur with
      | e :: rest => (if fitted s n ∧ e.refused ∧ (resolveHead s e).isSome then { e with refused := false } else e) :: rest
      | [] => [] })) ∧
  (∀ (s : State) (ab as bb bs f : Half) (g : Byte) (cr : Vector Half 16), Listening s → Settled s →
    let v : Sanitation := ⟨ab.toNat, as.toNat, bb.toNat, bs.toNat, f.toNat, g.toNat, cr.map (·.toNat)⟩
    let fits := ab.toNat ≤ 999 ∧ 100 ≤ as.toNat ∧ as.toNat ≤ 2000 ∧ bb.toNat ≤ 999 ∧ 100 ≤ bs.toNat ∧ bs.toNat ≤ 2000 ∧
      600 ≤ f.toNat ∧ f.toNat ≤ 950 ∧ g.toNat ≤ 100 ∧ ∀ i : Fin 16, cr[i].toNat ≤ 4095
    (s.programmes.lock = true →
      exec (.setSanitation ab as bb bs f g cr) s = .next (onlyAnswered 0x14 .locked .empty s)) ∧
    (s.programmes.lock = false → ¬ fits →
      exec (.setSanitation ab as bb bs f g cr) s = .next (onlyAnswered 0x14 .range .empty s)) ∧
    (s.programmes.lock = false → fits → exec (.setSanitation ab as bb bs f g cr) s =
      .next (onlyAnswered 0x14 .ok (.sanitation v)
        { s with programmes := { s.programmes with sanitation := v, source := .host, required := false } })))

/-- In a state that listens: a station number that is not fitted, a mode other than 0 (CLOSED) and 1 (OPEN), and an
empty kind mask are refused with RANGE. Otherwise SET_STATION stores the mode and the four mask bits, answers OK with
them and prompts the router. CLEAR_STACK of a fitted station removes every stack entry, sends LOOSE for each from the
top down (the order is the model's choice, log entry 36), and answers OK with their number; bay, spur and deliveries
stay. What R7 and R92 say then follows (conclude). In a state that listens and has nothing left to follow, with as
many entries as the count says: a station that is not fitted, a count of 0 or above 6, or a kind outside the five is
refused with RANGE. Then, when the committed count and the entries pass 6, FULL. Then, when a non-zero id occurs twice
in the request or is held anywhere in the part, DUPLICATE. Otherwise the entries are pushed in order, the last on top,
the directory is told that stack for each non-zero id in the order listed (the model's choice, log entry 36), and the
reply is OK; nothing else changes. (R68, R79, R82, R145, Table 45, R69, R81, R103) -/
def Obligations.StationsAreSetClearedAndLoaded : Prop :=
  (∀ (s : State) (n m k : Byte), Listening s →
    let absent := n = 0 ∨ 4 < n.toNat ∨ s.profile.values.stations < n.toNat
    let mask : KindMask := ⟨k.getLsbD 0, k.getLsbD 1, k.getLsbD 2, k.getLsbD 3⟩
    (Settled s → absent ∨ 1 < m.toNat ∨ k &&& 0x0F = 0 →
      exec (.setStation n m k) s = .next (onlyAnswered 0x19 .range .empty s)) ∧
    (∀ (q : Quad) (mode : Mode), n.toNat = q.val + 1 → n.toNat ≤ s.profile.values.stations →
      (m = 0 ∧ mode = .closed) ∨ (m = 1 ∧ mode = .openMode) → k &&& 0x0F ≠ 0 → exec (.setStation n m k) s =
        .next (conclude s (answered 0x19 .ok (.stationMode mode mask) (prompt { s with
          stations := s.stations.set q { s.stations.get q with mode := mode, mask := mask } })))) ∧
    (Settled s → absent → exec (.clearStack n) s = .next (onlyAnswered 0x1B .range .empty s)) ∧
    (∀ q : Quad, n.toNat = q.val + 1 → n.toNat ≤ s.profile.values.stations → exec (.clearStack n) s =
      .next (conclude s (answered 0x1B .ok (.removed (s.stations.get q).stack.length)
        (((s.stations.get q).stack.map (·.id)).foldl (fun u id => sendLocation id .loose u) { s with
          stations := s.stations.set q { s.stations.get q with stack := [] } }))))) ∧
  (∀ (s : State) (n c : Byte) (es : List LoadEntry), Listening s → Settled s → es.length = c.toNat →
    let refused := fun r : Result => (.next (onlyAnswered 0x1A r .empty s) : Answer)
    let ids := (es.map (·.id)).filter (· != 0)
    (n = 0 ∨ 4 < n.toNat ∨ s.profile.values.stations < n.toNat ∨ c = 0 ∨ 6 < c.toNat ∨ (∃ e ∈ es, 4 < e.kind.toNat) →
      exec (.loadStack n c es) s = refused .range) ∧
    (∀ q : Quad, n.toNat = q.val + 1 → n.toNat ≤ s.profile.values.stations → c ≠ 0 → c.toNat ≤ 6 →
      (∀ e ∈ es, e.kind.toNat ≤ 4) →
      let u := s.stations.get q
      (6 < u.stack.length + u.deliveries.length + es.length → exec (.loadStack n c es) s = refused .full) ∧
      (u.stack.length + u.deliveries.length + es.length ≤ 6 →
        (¬ ids.Nodup ∨ (∃ i ∈ ids, i ∈ heldIds s)) → exec (.loadStack n c es) s = refused .duplicate) ∧
      (u.stack.length + u.deliveries.length + es.length ≤ 6 → ids.Nodup → (∀ i ∈ ids, i ∉ heldIds s) →
        ∃ kinds : List Kind, kinds.map kindCode = es.map (·.kind.toNat) ∧ exec (.loadStack n c es) s =
          .next (onlyAnswered 0x1A .ok .empty (ids.foldl (fun t i => sendLocation i (.stack q) t) { s with
            stations := s.stations.set q { u with
              stack := (List.zipWith RackEntry.mk (es.map (·.id)) kinds).reverse ++ u.stack } })))))

/-- Once start-up has ended, at a fitted station: a stack-lift discards the bay's entry as LOOSE and puts the top of
the stack, or an anonymous entry, in the bay, located there, and then prompts the router. A send with the station
OPEN, its bay sensor made and fewer than 3 in the spur adds the bay's id, or 0, to the spur's tail, unprofiled,
empties the bay and wakes a track in STANDBY: the heat-economy line is released, and with the chains closed RECOVERY
begins with the timer of its mode, with a chain open the track is STOPPED with the recovery-pending mark; with 3 in
the spur it only presets the SPUR FULL lamp with 2 s; CLOSED or with the bay sensor clear it does nothing. What R7 and
R92 say then follows (conclude). Once start-up has ended and with nothing left to follow, a stack-lift, a send and a
change of the spur-head sensor at a station beyond the profile's number of stations change nothing but the readings
noted. (R68, R71, R72, R73, R74, R145, R163, R164) -/
def Obligations.RacksAreLiftedAndSent : Prop :=
  (∀ (s : State) (n : Quad) (p : Plant), s.phase = .running → n.val + 1 ≤ s.profile.values.stations →
    let u := s.stations.get n
    let at' := fun w : StationUnit => { s with stations := s.stations.set n w }
    let loose := fun t : State => match u.bay with
      | some e => sendLocation e.id .loose t
      | none => t
    let id := match u.bay with
      | some e => e.id
      | none => 0
    let sent := sendLocation id (.spur n) { at' { u with
      bay := none, spur := u.spur ++ [⟨id, .unknown, false, false, none⟩] } with plant := p }
    let woken := fun t : State =>
      if s.interlock.live.estop = false ∧ s.interlock.live.door = false then withStateNotice { t with
        track := { t.track with state := .recovery, recoveryPending := false }, dose := { t.dose with recoveryRun := 0 },
        interlock := { t.interlock with
          heat := false,
          recovery := if s.profile.values.recoveryMode = .fixed then .running (1000 * s.profile.values.recoveryTime)
            else .idle,
          limit := if s.profile.values.recoveryMode = .fixed then .idle
            else .running (1000 * s.profile.values.recoveryLimit) } }
      else withStateNotice { t with
        track := { t.track with state := .stopped, recoveryPending := true },
        interlock := { t.interlock with heat := false } }
    (∀ e rest, u.stack = e :: rest → ∃ t, exec (.stackLift n) s = .next (conclude s (prompt t)) ∧
      { t with directory := s.directory } = at' { u with stack := rest, bay := some e } ∧
      t.directory = (sendLocation e.id (.bay n) (loose s)).directory) ∧
    (u.stack = [] → ∃ t, exec (.stackLift n) s = .next (conclude s (prompt t)) ∧
      { t with directory := s.directory } = at' { u with bay := some ⟨0, .unknown⟩ } ∧
      t.directory = (loose s).directory) ∧
    (u.mode = .openMode → p.bay.get n = true → u.spur.length < 3 → exec (.sendButton n p) s =
      .next (conclude s (if s.track.state = .standby then woken sent else sent))) ∧
    (u.mode = .openMode → p.bay.get n = true → 3 ≤ u.spur.length → exec (.sendButton n p) s =
      .next (conclude s { at' { u with spurFull := .running 200 } with plant := p })) ∧
    (u.mode = .closed ∨ p.bay.get n = false → exec (.sendButton n p) s = .next (conclude s { s with plant := p }))) ∧
  (∀ (s : State) (n : Quad) (p : Plant), s.phase = .running → Settled s → LinkSound s →
    s.profile.values.stations < n.val + 1 →
    exec (.stackLift n) s = .next s ∧
    exec (.sendButton n p) s = .next { s with plant := p } ∧
    exec (.spurHeadMade n p) s = .next { s with plant := { p with spurHead := p.spurHead.set n true } } ∧
    exec (.spurHeadClear n) s = .next { s with plant := { s.plant with spurHead := s.plant.spurHead.set n false } })

/-- Once start-up has ended, at a fitted station with no transfer from its spur in flight: its sensor becoming made
profiles an unprofiled head with the kind read, told to the directory, makes an anonymous profiled entry in an empty
spur, and leaves a profiled head; becoming clear removes a profiled head as LOOSE and leaves any other. During a
transfer from the spur neither does anything. A delivery whose timer runs out while the return is not paused leaves
the list and stands on top of the stack, located there. The lamp timer's expiry puts the lamp out. What R7 and R92 say
then follows (conclude). (R69, R70, R74, R75, R76, R77, R78, R144, R148) -/
def Obligations.StationEventsChangeTheirQueue : Prop :=
  ∀ (s : State) (n : Quad) (p : Plant), s.phase = .running → n.val + 1 ≤ s.profile.values.stations →
    let u := s.stations.get n
    let at' := fun w : StationUnit => { s with stations := s.stations.set n w }
    let k := p.profile.get n
    let up : Plant := { p with spurHead := p.spurHead.set n true }
    let down : Plant := { s.plant with spurHead := s.plant.spurHead.set n false }
    (transferFrom s n = false →
      (∀ e rest, u.spur = e :: rest → e.profiled = false → exec (.spurHeadMade n p) s = .next (conclude s
        (sendKind e.expected k { at' { u with spur := { e with kind := k, profiled := true } :: rest } with
          plant := up }))) ∧
      (∀ e rest, u.spur = e :: rest → e.profiled = true →
        exec (.spurHeadMade n p) s = .next (conclude s { s with plant := up })) ∧
      (u.spur = [] → exec (.spurHeadMade n p) s =
        .next (conclude s { at' { u with spur := [⟨0, k, true, false, none⟩] } with plant := up })) ∧
      (∀ e rest, u.spur = e :: rest → e.profiled = true → exec (.spurHeadClear n) s =
        .next (conclude s (sendLocation e.expected .loose { at' { u with spur := rest } with plant := down }))) ∧
      ((∀ e rest, u.spur = e :: rest → e.profiled = false) → exec (.spurHeadClear n) s =
        .next (conclude s { s with plant := down }))) ∧
    (transferFrom s n = true →
      exec (.spurHeadMade n p) s = .next (conclude s { s with plant := up }) ∧
      exec (.spurHeadClear n) s = .next (conclude s { s with plant := down })) ∧
    (∀ i d g, u.deliveries[i]? = some d → d.timer = .running g → s.interlock.live.estop = false →
      exec (.deliveryCompletion n i) s = .next (conclude s (sendLocation d.id (.stack n)
        (at' { u with deliveries := u.deliveries.eraseIdx i, stack := ⟨d.id, d.kind⟩ :: u.stack })))) ∧
    (∀ i, s.interlock.live.estop = true → exec (.deliveryCompletion n i) s = .next (conclude s s)) ∧
    (∀ g, u.spurFull = .running g →
      exec (.spurFullTimerExpiry n) s = .next (conclude s (at' { u with spurFull := .idle })))

/-- In a state that listens and has nothing left to follow: an unfitted station or a number above the table limit is
refused with RANGE, an empty spur or a transfer from it with STATE, a non-zero number of an absent descriptor with
NOTFOUND. Otherwise the head takes the number as its forced programme, or with 0 none, and its refused field is
cleared; a profiled head that does not resolve is refused again at once, with its ADMISSION notice REFUSED of the
programme the kind map gives. The reply is OK with the head as it then stands, and the spur's other entries stay. That
the refused field is cleared for 0 as well is the model's reading (log entry 32). (R68, R89, R91, R106) -/
def Obligations.ProgrammesAreForced : Prop :=
  ∀ (s : State) (n m : Byte), Listening s → Settled s →
    let refused := fun r : Result => (.next (onlyAnswered 0x1D r .empty s) : Answer)
    (n = 0 ∨ 4 < n.toNat ∨ s.profile.values.stations < n.toNat → exec (.forceProgramme n m) s = refused .range) ∧
    (∀ q : Quad, n.toNat = q.val + 1 → n.toNat ≤ s.profile.values.stations →
      (s.profile.values.tableLimit < m.toNat → exec (.forceProgramme n m) s = refused .range) ∧
      (m.toNat ≤ s.profile.values.tableLimit → (s.stations.get q).spur = [] ∨ transferFrom s q = true →
        exec (.forceProgramme n m) s = refused .state) ∧
      (∀ e rest, m.toNat ≤ s.profile.values.tableLimit → (s.stations.get q).spur = e :: rest → transferFrom s q = false →
        let e' : SpurEntry := { e with forced := if m = 0 then none else some (programmeOf m), refused := false }
        let e'' : SpurEntry := { e' with refused := e.profiled && (resolveHead s e').isNone }
        (m ≠ 0 → descriptor s (programmeOf m) = none → exec (.forceProgramme n m) s = refused .notFound) ∧
        (m = 0 ∨ descriptor s (programmeOf m) ≠ none →
          (let mapped := match e.kind with
            | .unknown => s.programmes.kindMap.unknown
            | .plate => s.programmes.kindMap.plate
            | .cup => s.programmes.kindMap.cup
            | .cutlery => s.programmes.kindMap.cutlery
            | .tray => s.programmes.kindMap.tray
          let u : State := { s with stations := s.stations.set q { s.stations.get q with spur := e'' :: rest } }
          exec (.forceProgramme n m) s = .next (conclude s (answered 0x1D .ok (.head q e'') (if e''.refused then
            enqueue (.admission (.refused q e.expected e.kind mapped false)) u else u)))) ∧
          ∃ t, exec (.forceProgramme n m) s = .next t ∧ t.link.reply = some ⟨0x9D, .ok, .head q e''⟩ ∧
            t.stations.get q = { s.stations.get q with spur := e'' :: rest } ∧ t.track.positions = s.track.positions ∧
            t.ret = s.ret ∧ t.dose = s.dose ∧ t.programmes = s.programmes ∧ t.directory = s.directory)))

/-- Once start-up has ended, when a command leaves no step to evaluate and a grant opportunity open with no re-test
owed: every waiting head that does not resolve is refused, and an ADMISSION notice REFUSED is queued for it with the
station, the expected id, the kind, the programme tried and whether it was forced, those of several heads in the order
of the stations (the model's choice, log entry 37). A record at the head of the lane is granted. With the lane empty,
the granted spur is the first eligible one after the rotation pointer among those with 3 entries, or with none full
the first eligible one; its grant holds the head's id and kind and the snapshot of its programme, and the pointer
names it. The tag queue is emptied, the pusher runs with its timer at the transfer limit, and HOLD gains TRANSFER.
With nobody eligible the merge stays as it is. At the first opportunity after a warm start-up each refused head of a
fitted station that now resolves has its refused field cleared, and then the same follows; that this re-test comes
before the opportunity is the model's reading (log entry 21). (R7, R88, R89, R90, R92, R93, R94) -/
def Obligations.GrantsFollowTheOrder : Prop :=
  (∀ b s : State, s.phase = .running → NothingDue s → grantOpen s = true → s.merge.retest = false →
    let t := conclude b s
    let rank := fun m : Quad => (m - s.merge.rotation - 1).val
    let mapped := fun e : SpurEntry => match e.kind with
      | .unknown => s.programmes.kindMap.unknown
      | .plate => s.programmes.kindMap.plate
      | .cup => s.programmes.kindMap.cup
      | .cutlery => s.programmes.kindMap.cutlery
      | .tray => s.programmes.kindMap.tray
    let refusal := fun (n : Quad) (e : SpurEntry) => (.admission (.refused n e.expected e.kind
      (match e.forced with
      | some q => q
      | none => mapped e) e.forced.isSome) : Notice)
    let full := fun m : Quad => (s.stations.get m).spur.length = 3
    let granted := fun (g : Grant) (r : Requester) (pointer : Quad) =>
      t.merge = { s.merge with
        state := .transferring, grant := some g, pusher := some r, tags := [], overrun := false, rotation := pointer,
        timer := .running (100 * s.profile.values.transferLimit) } ∧
      t.track = { s.track with
        holds := if s.track.state = .hold then { s.track.holds with transfer := true } else s.track.holds }
    (∀ r rest, s.ret.lane = r :: rest → granted (.rewash r) .rewash s.merge.rotation) ∧
    (∀ n, s.ret.lane = [] → eligible s n = true →
      (full n ∧ ∀ m, eligible s m = true → full m → rank n ≤ rank m) ∨
        ((∀ m, eligible s m = true → ¬ full m) ∧ ∀ m, eligible s m = true → rank n ≤ rank m) →
      ∃ e q, (s.stations.get n).spur.head? = some e ∧ resolveHead s e = some q ∧
        granted (.spur n e.expected e.kind q) (.spur n) n) ∧
    (s.ret.lane = [] → (∀ m, eligible s m = false) → t.merge = s.merge ∧ t.track = s.track) ∧
    (∀ n e rest, (s.stations.get n).spur = e :: rest →
      (t.stations.get n).spur = { e with refused := e.refused || (headWaiting s n && !eligible s n) } :: rest) ∧
    t.link = (chooseMessage (enqueueAll ((quads.filter fun n => headWaiting s n && !eligible s n).filterMap fun n =>
      (s.stations.get n).spur.head?.map (refusal n)) s)).link ∧
    t.ret = s.ret ∧ t.dose = s.dose ∧ t.programmes = s.programmes ∧ t.directory = s.directory) ∧
  (∀ b s : State, s.phase = .running → NothingDue s → grantOpen s = true → s.merge.retest = true →
    ∃ heads : Four StationUnit, (∀ n, heads.get n = { s.stations.get n with spur := match (s.stations.get n).spur with
        | e :: rest => (if n.val + 1 ≤ s.profile.values.stations ∧ e.refused = true ∧ (resolveHead s e).isSome = true then
            { e with refused := false } else e) :: rest
        | [] => [] }) ∧
      conclude b s = conclude b { s with stations := heads, merge := { s.merge with retest := false } })

/-- With every GOOD read of one id x, the id is x from the tag, with a MISMATCH notice when another id was expected.
With no GOOD read, it is the expected id, or 0 with no source. With GOOD reads that differ, it is the expected id when
one of them carries it, otherwise 0 with no source and a CONFLICT notice. MISREAD entries play no part. (R102, Table
25) -/
def Obligations.IdentityFollowsTheTags : Prop :=
  ∀ (n : Quad) (e : RackId) (tags : List TagRead) (overrun : Bool),
    let good := fun i : RackId => ∃ r ∈ tags, r.good = true ∧ r.id = i
    (∀ x, good x → (∀ y, good y → y = x) → e = x ∨ e = 0 → resolveIdentity n e tags overrun = (x, .tag, [])) ∧
    (∀ x, good x → (∀ y, good y → y = x) → e ≠ x → e ≠ 0 →
      resolveIdentity n e tags overrun = (x, .tag, [.mismatch n e x overrun])) ∧
    ((∀ y, ¬ good y) → e ≠ 0 → resolveIdentity n e tags overrun = (e, .expected, [])) ∧
    ((∀ y, ¬ good y) → e = 0 → resolveIdentity n e tags overrun = (0, .none, [])) ∧
    (∀ x y, good x → good y → x ≠ y → e ≠ 0 → good e → resolveIdentity n e tags overrun = (e, .expected, [])) ∧
    (∀ x y, good x → good y → x ≠ y → e = 0 ∨ ¬ good e →
      resolveIdentity n e tags overrun = (0, .none, [.conflict n e tags overrun]))

/-- Once start-up has ended, with the merge TRANSFERRING: the merge is IDLE with no grant, pusher and timer stopped. A
spur grant puts a fresh record of the granted kind and snapshot at position 0, dose 0, source that station, with the
resolved id and source, or 0 and none when a holder that does not rest already holds the id; it is TRACKED exactly
when the directory's admission answers an entry, which is then pinned. An id held by a resting holder, the first in
the order of log entry 22, stands and is set to 0 there (MOVED). Each notice of the identity and of the presence check
(MOVED or DUPLICATE) is queued or being sent, if enabled and with room. The directory is sent the admission request
for the final id, then LOOSE for an expected id that differs from it, the pass of a step that starts, and the kind of
a new head read at the sensor. With no other holder and the head sensor clear, the spur has lost its head. A rewash
grant moves the lane's head there, located TRACK when TRACKED, with dose 0, no verdict and its rewash count one
higher, up to 3. No record of positions 1 to 11 and 13 to 15 changes. Once start-up has ended: the transfer timer's
expiry while TRANSFERRING makes the merge JAMMED with the pusher and timer stopped and the grant kept, and takes the
track to FAULT with cause JAM_TRANSFER, run enable and hold reasons cleared, JAM set and the FAULT notice queued. In a
state that listens, with the chains closed and no settings awaited, a RUN from OFF or STOPPED with an interrupted
transfer and no motion or recovery pending completes the transfer when position 0 is made; otherwise it drops it, the
merge IDLE with no grant and the head sensor of the spur read; and then takes the track to READY. What R7 and R92 say
then follows (conclude). (R78, R95, R98, R102, R103, R104, R105, R118, R119, R3, R96, R155) -/
def Obligations.TransfersCompleteFailAndResume : Prop :=
  (∀ (s : State) (p : Plant), s.phase = .running → s.merge.state = .transferring →
    let stepped := fun t x : State => if t.track.motion = .none then x else match s.track.positions[12] with
      | some r => if r.tracked then sendPass r.id (if r.required ≤ r.dose then .sanitised else .short) r.dose x else x
      | none => x
    (∀ n e k q, s.merge.grant = some (.spur n e k q) →
      let i := resolveIdentity n e s.merge.tags s.merge.overrun
      let clash := i.1 ≠ 0 ∧ ∃ h, holderOf n i.1 s = some h ∧ h.resting = false
      let asked := if i.1 = 0 ∨ clash then s else (admissionRequest i.1 k n s).1
      let told := if e ≠ 0 ∧ (clash ∨ e ≠ i.1) then sendLocation e .loose asked else asked
      let shown := fun x : State => match (s.stations.get n).spur.tail with
        | h :: _ => if n.val + 1 ≤ s.profile.values.stations ∧ p.spurHead.get n = true ∧ h.profiled = false ∧
            ¬ (h.expected = i.1 ∧ holderOf n i.1 s = some (Holder.spur n)) then sendKind h.expected (p.profile.get n) x else x
        | [] => x
      ∃ t tracked, exec (.transferCompletion p) s = .next t ∧
        t.track.positions[0] = some
          { id := if clash then 0 else i.1, kind := k, programme := some q, dose := 0, verdict := .none, rewashCount := 0,
            source := .station n, identity := if clash then .none else i.2.1, tracked := tracked, leaving := false,
            destination := none } ∧
        (tracked = true → ¬ clash ∧ i.1 ≠ 0 ∧ PinnedEntry t i.1) ∧
        tracked = (if i.1 = 0 ∨ clash then false else (admissionRequest i.1 k n s).2) ∧
        (∀ h, i.1 ≠ 0 → holderOf n i.1 s = some h →
          let gone := fun e : RackEntry => if e.id = i.1 then { e with id := 0 } else e
          (∀ m, h = .stack m → (t.stations.get m).stack = (s.stations.get m).stack.map gone) ∧
          (∀ m, h = .bay m → (t.stations.get m).bay = (s.stations.get m).bay.map gone) ∧
          (∀ m, h = .spur m → p.spurHead.get n = false → (t.stations.get m).spur =
            (if m = n then (s.stations.get m).spur.tail else (s.stations.get m).spur).map fun e =>
              if e.expected = i.1 then { e with expected := 0 } else e) ∧
          (h = .surplus → t.ret.surplus = s.ret.surplus.map gone)) ∧
        (∀ x, s.link.mask.getLsbD 4 = true → s.link.notices.length ≤ 12 →
          (x ∈ i.2.2 ∨ (i.1 ≠ 0 ∧ ∃ h, holderOf n i.1 s = some h ∧
            x = if h.resting then .moved n i.1 h else .duplicate n i.1 h s.merge.overrun)) →
          Notice.admission x ∈ t.link.notices ∨ t.link.transmitter = .notice (.admission x)) ∧
        (i.1 = 0 ∨ holderOf n i.1 s = none → p.spurHead.get n = false →
          (t.stations.get n).spur = (s.stations.get n).spur.tail) ∧
        t.merge = { s.merge with state := .idle, grant := none, pusher := none, timer := .idle } ∧
        (∀ j : Fin 17, j ≠ 0 → j ≠ 12 → j ≠ 16 → t.track.positions[j] = s.track.positions[j]) ∧
        (s.track.motion = .none → t.directory = (shown (stepped t told)).directory) ∧
        t.ret.lane = s.ret.lane ∧ t.dose = s.dose ∧ t.programmes = s.programmes) ∧
    (∀ g r rest, s.merge.grant = some (.rewash g) → s.ret.lane = r :: rest →
      ∃ t, exec (.transferCompletion p) s = .next t ∧
        t.track.positions[0] = some { r with
          dose := 0, verdict := .none, rewashCount := min 3 (r.rewashCount + 1), source := .rewash, leaving := false,
          destination := none } ∧
        t.ret = { s.ret with lane := rest } ∧
        t.merge = { s.merge with state := .idle, grant := none, pusher := none, timer := .idle } ∧
        (∀ j : Fin 17, j ≠ 0 → j ≠ 12 → j ≠ 16 → t.track.positions[j] = s.track.positions[j]) ∧
        (s.track.motion = .none →
          t.directory = (stepped t (if r.tracked then sendLocation r.id .track s else s)).directory) ∧
        t.stations = s.stations ∧ t.dose = s.dose ∧ t.programmes = s.programmes)) ∧
  (∀ s : State,
    (∀ g x, s.phase = .running → s.merge.timer = .running x → s.merge.state = .transferring → s.merge.grant = some g →
      exec .transferTimeout s = .next (conclude s (enqueue (.fault (.jamTransfer g.requester g.expected)) (setJam true
        { s with
          merge := { s.merge with state := .jammed, pusher := none, timer := .idle },
          track := { s.track with
            state := .fault, fault := some .jamTransfer, runEnable := false, holds := .empty, purgeCount := 0 } })))) ∧
    (∀ p : Plant, Listening s → s.interlock.live.estop = false → s.interlock.live.door = false →
      s.programmes.required = false → s.merge.state = .interrupted → s.track.motion = .none →
      s.track.recoveryPending = false → s.track.state = .off ∨ s.track.state = .stopped →
      let base : State := { s with plant := p, programmes := { s.programmes with lock := true } }
      let read := fun (n : Quad) (t : State) =>
        if n.val + 1 ≤ s.profile.values.stations ∧ p.spurHead.get n = true then match (t.stations.get n).spur with
          | [] => { t with stations := t.stations.set n { t.stations.get n with
              spur := [⟨0, p.profile.get n, true, false, none⟩] } }
          | h :: rest => if h.profiled then t else sendKind h.expected (p.profile.get n) { t with
              stations := t.stations.set n { t.stations.get n with
                spur := { h with kind := p.profile.get n, profiled := true } :: rest } }
        else t
      let dropped : State := { base with
        merge := { s.merge with state := .idle, grant := none, pusher := none, timer := .idle } }
      let u := if p.position0 then completeTransfer base else match s.merge.grant with
        | some (.spur n _ _ _) => read n dropped
        | _ => dropped
      exec (.run p) s = .next (conclude s (answered 0x08 .ok .empty
        (withStateNotice { u with track := { u.track with state := .ready, runEnable := true } })))))

/-- Once start-up has ended and with nothing left to follow: in HUNTING a byte other than 0xC3 is discarded and 0xC3
starts a report with the gap timer preset; a byte of the id is kept and presets it again; the check byte ends the
report with a read of the id, GOOD exactly when it equals the exclusive-or of the lead and both id bytes and the id is
not 0. The read joins the queue, or with three held replaces the newest and sets the overrun mark. A gap abandons a
report. Nothing else changes. (R100, R101) -/
def Obligations.TagReportsAreQueued : Prop :=
  ∀ (s : State) (b : Byte), s.phase = .running → Settled s → LinkSound s →
    let read : Byte → Byte → TagRead := fun h l =>
      { id := halfOf h l, good := b == (0xC3#8 ^^^ h ^^^ l) && halfOf h l != 0 }
    (s.merge.receiver = .hunting → b ≠ 0xC3 → exec (.tagByteReceived b) s = .next s) ∧
    (s.merge.receiver = .hunting → exec (.tagByteReceived 0xC3) s =
      .next { s with merge := { s.merge with receiver := .assembling [], tagGap := .running 2 } }) ∧
    (∀ bytes, s.merge.receiver = .assembling bytes → bytes.length < 2 → exec (.tagByteReceived b) s =
      .next { s with merge := { s.merge with receiver := .assembling (bytes ++ [b]), tagGap := .running 2 } }) ∧
    (∀ h l, s.merge.receiver = .assembling [h, l] → s.merge.tags.length < 3 → exec (.tagByteReceived b) s =
      .next { s with merge := { s.merge with
        receiver := .hunting, tagGap := .idle, tags := s.merge.tags ++ [read h l] } }) ∧
    (∀ h l, s.merge.receiver = .assembling [h, l] → s.merge.tags.length = 3 → exec (.tagByteReceived b) s =
      .next { s with merge := { s.merge with
        receiver := .hunting, tagGap := .idle, tags := s.merge.tags.dropLast ++ [read h l], overrun := true } }) ∧
    (∀ g, s.merge.tagGap = .running g → exec .tagGapExpiry s =
      .next { s with merge := { s.merge with receiver := .hunting, tagGap := .idle } })

/-- In a state that listens and has nothing left to follow: id 0 is refused with RANGE, as is a kind outside the five.
On a miss GET and DROP answer NOTFOUND; PUT allocates a way for an entry with the host's history, location UNKNOWN and
no field set, or answers FULL. On a hit GET accesses the entry and reports it with the bits; PUT replaces the history
of an unpinned entry, adds it to a pinned partial one, each accessed with the entry before and after, and answers
STATE for a pinned complete one, with the result byte alone (the model's choice, log entry 45); DROP makes an unpinned
entry invalid, keeping the bits, and answers STATE for a pinned one. (R110, R112, R113, R124, R125, R126, R127, Table
30, Table 32) -/
def Obligations.RecordsAreReadAndWritten : Prop :=
  ∀ (s : State) (id : RackId), Listening s → Settled s →
    let i := setOf id
    let set := s.directory[i]
    let answer := fun (k : Byte) (r : Result) (b : ReplyBody) (d : DirSet) =>
      (.next (onlyAnswered k r b { s with directory := s.directory.set i d }) : Answer)
    let refused := fun (k : Byte) (r : Result) => (.next (onlyAnswered k r .empty s) : Answer)
    (id = 0 → exec (.getRecord id) s = refused 0x28 .range ∧ exec (.dropRecord id) s = refused 0x2A .range ∧
      ∀ k w sh d, exec (.putRecord id k w sh d) s = refused 0x29 .range) ∧
    (∀ k w sh d, 4 < k.toNat → exec (.putRecord id k w sh d) s = refused 0x29 .range) ∧
    (id ≠ 0 → lookup s id = none →
      exec (.getRecord id) s = refused 0x28 .notFound ∧ exec (.dropRecord id) s = refused 0x2A .notFound ∧
      ∀ (kind : Kind) (k : Byte) (w : Half) (sh : Byte) (d : Half), kindCode kind = k.toNat →
        let e : DirEntry := ⟨id, kind, w.toNat, sh.toNat, d.toNat, .unknown, false, false, false⟩
        (∀ way t v, allocate id e s = .taken way t v →
          exec (.putRecord id k w sh d) s = .next (onlyAnswered 0x29 .ok (.entryPut none ⟨e, i.val, way⟩ v) t)) ∧
        ((∀ way t v, allocate id e s ≠ .taken way t v) → exec (.putRecord id k w sh d) s = refused 0x29 .full)) ∧
    (∀ way e, lookup s id = some (way, e) →
      exec (.getRecord id) s = answer 0x28 .ok (.entry ⟨e, i.val, way⟩ (set.access way).b0 (set.access way).b1
        (set.access way).b2) (set.access way) ∧
      (e.pinned = true → exec (.dropRecord id) s = refused 0x2A .state) ∧
      (e.pinned = false → exec (.dropRecord id) s =
        answer 0x2A .ok (.entryDropped ⟨e, i.val, way⟩) { set with ways := set.ways.set way none }) ∧
      (∀ (kind : Kind) (k : Byte) (w : Half) (sh : Byte) (d : Half), kindCode kind = k.toNat →
        let fresh : DirEntry := { e with
          kind := kind, washes := w.toNat, short := sh.toNat, last := d.toNat, partialHistory := false, dirty := false }
        let added : DirEntry := { e with
          washes := min 65535 (e.washes + w.toNat), short := min 255 (e.short + sh.toNat),
          last := if e.washes = 0 then d.toNat else e.last, partialHistory := false, dirty := true }
        (e.pinned = false → exec (.putRecord id k w sh d) s =
          answer 0x29 .ok (.entryPut (some ⟨e, i.val, way⟩) ⟨fresh, i.val, way⟩ none) (set.put way fresh)) ∧
        (e.pinned = true → e.partialHistory = true → exec (.putRecord id k w sh d) s =
          answer 0x29 .ok (.entryPut (some ⟨e, i.val, way⟩) ⟨added, i.val, way⟩ none) (set.put way added)) ∧
        (e.pinned = true → e.partialHistory = false → exec (.putRecord id k w sh d) s = refused 0x29 .state)))

/-- In a state that listens and has nothing left to follow, with at most 16 notices queued: the dirty entries are
taken in order of set and within a set in order of way, the first of set 0 way 0, as many as the notice queue has free
places. For each of them in that order a SPILL notice with the entry's contents, set and way and reason FLUSHED is
queued; it becomes clean, and if partial its washes and short doses become 0. Every other field of it, every entry not
taken, the bits of every set and the rest of the part stay. The reply carries the number taken and the number still
dirty. That an idle transmitter takes none of the notices out before the flush has ended is the model's choice (log
entry 9). (R123, R128) -/
def Obligations.FlushesCarryDirtyEntriesOut : Prop :=
  ∀ s : State, Listening s → Settled s → s.link.notices.length ≤ 16 →
    let places : List (Fin 64 × Quad) := (List.finRange 64).flatMap fun i => [(i, 0), (i, 1), (i, 2), (i, 3)]
    let dirty : List EntryBlock := places.filterMap fun a => match (s.directory[a.1]).ways.get a.2 with
      | some e => if e.dirty then some ⟨e, a.1.val, a.2⟩ else none
      | none => none
    let taken := dirty.take (16 - s.link.notices.length)
    ∃ d : Vector DirSet 64,
      (∀ i : Fin 64, (d[i]).b0 = (s.directory[i]).b0 ∧ (d[i]).b1 = (s.directory[i]).b1 ∧
        (d[i]).b2 = (s.directory[i]).b2) ∧
      (∀ (i : Fin 64) (w : Quad), (d[i]).ways.get w = match (s.directory[i]).ways.get w with
        | some e => if EntryBlock.mk e i.val w ∈ taken then some { e with
            dirty := false, washes := if e.partialHistory then 0 else e.washes,
            short := if e.partialHistory then 0 else e.short } else some e
        | none => none) ∧
      exec .flushDirectory s = .next (onlyAnswered 0x2B .ok (.flushed taken.length (dirty.length - taken.length))
        (enqueueAll (taken.map fun b => .spill b .flushed) { s with directory := d }))

/-- With all four ways valid: the pair that b0 points at is taken when it holds an unpinned way, otherwise the other;
within the pair the way that its bit points at is taken when it is unpinned, otherwise the other way. With all four
pinned there is no victim and the allocation answers SET_FULL. The walk depends on the bits and the pinned fields
alone, so dirty fields play no part and the same victim stands until one of them changes. (R115) -/
def Obligations.TheWalkFindsTheVictim : Prop :=
  (∀ d : DirSet, (∀ w, (d.ways.get w).isSome = true) →
    let free := fun w : Quad => ∃ e, d.ways.get w = some e ∧ e.pinned = false
    let pair := fun second : Bool => if second then free 2 ∨ free 3 else free 0 ∨ free 1
    let pointed := fun second : Bool => if second then (if d.b2 then (3 : Quad) else 2) else (if d.b1 then 1 else 0)
    let other := fun second : Bool => if second then (if d.b2 then (2 : Quad) else 3) else (if d.b1 then 0 else 1)
    (∀ p, (p = d.b0 ∧ pair p) ∨ (p = !d.b0 ∧ ¬ pair d.b0 ∧ pair p) →
      (free (pointed p) → d.walk = some (pointed p)) ∧ (¬ free (pointed p) → d.walk = some (other p))) ∧
    ((∀ w, ¬ free w) → d.walk = none)) ∧
  (∀ (id : RackId) (e : DirEntry) (s : State), let d := s.directory[setOf id]
    (∀ w, ∃ v, d.ways.get w = some v ∧ v.pinned = true) → allocate id e s = .setFull d.ids) ∧
  (∀ d d' : DirSet, d.b0 = d'.b0 → d.b1 = d'.b1 → d.b2 = d'.b2 →
    (∀ w, (d.ways.get w).map (·.pinned) = (d'.ways.get w).map (·.pinned)) → d.walk = d'.walk)

/-- With an invalid way the lowest takes the entry with no victim. Otherwise a clean victim of the walk is replaced; a
dirty one is replaced with its SPILL notice when fewer than 16 notices are queued, and with 16 the allocation answers
SPILL_BLOCKED. The way taken is accessed: the bits point away from it, the other pair's bit stays, and the other ways
stay. The merge's admission of an id that is held pins its entry, with location TRACK, the profiled kind and the dirty
field set, its counts kept. The admission of an id that misses gives the way taken a partial, pinned, dirty entry with
counts 0 at TRACK, or queues SET_FULL with the four pinned ids or SPILL_BLOCKED with the victim's and answers that
there is none. A location message stores the location, an unpinning one clears the pinned field too, a kind message
stores a kind that differs, and an F2 update counts the wash, a SHORT verdict and the dose; each sets the dirty field
and accesses the entry, a message with the same kind accesses it only, and one that misses changes nothing. (R112,
R113, R114, R116, R117, R118, R119, R120, R121, R123, Table 30, Table 31) -/
def Obligations.AllocationsTakeAWay : Prop :=
  (∀ (id : RackId) (e : DirEntry) (s : State),
    let i := setOf id
    let d := s.directory[i]
    let given := fun (w : Quad) (t : State) => { t with directory := t.directory.set i (d.put w e) }
    (∀ w, d.ways.get w = none → (∀ v, v < w → d.ways.get v ≠ none) → allocate id e s = .taken w (given w s) none) ∧
    (∀ w v, (∀ u, d.ways.get u ≠ none) → d.walk = some w → d.ways.get w = some v →
      (v.dirty = false → allocate id e s = .taken w (given w s) none) ∧
      (v.dirty = true → s.link.notices.length < 16 → allocate id e s =
        .taken w (given w (enqueue (.spill ⟨v, i.val, w⟩ .replaced) s)) (some ⟨v, i.val, w⟩)) ∧
      (v.dirty = true → 16 ≤ s.link.notices.length → allocate id e s = .spillBlocked v.id))) ∧
  (∀ (d : DirSet) (w : Quad) (e : DirEntry),
    (d.put w e).ways = d.ways.set w (some e) ∧
    (d.put w e).b0 = (if w = 0 ∨ w = 1 then true else false) ∧
    (d.put w e).b1 = (if w = 0 then true else if w = 1 then false else d.b1) ∧
    (d.put w e).b2 = (if w = 2 then true else if w = 3 then false else d.b2)) ∧
  (∀ (id : RackId) (k : Kind) (n : Quad) (s : State) (w : Quad) (e : DirEntry), lookup s id = some (w, e) →
    admissionRequest id k n s = ({ s with directory := s.directory.set (setOf id) ((s.directory[setOf id]).put w
      { e with pinned := true, location := .track, kind := k, dirty := true }) }, true)) ∧
  (∀ (id : RackId) (k : Kind) (n : Quad) (s : State), id ≠ 0 → lookup s id = none →
    let e : DirEntry := ⟨id, k, 0, 0, 0, .track, true, true, true⟩
    (∀ w t v, allocate id e s = .taken w t v → admissionRequest id k n s = (t, true)) ∧
    (∀ held, allocate id e s = .setFull held → admissionRequest id k n s =
      (enqueue (.admission (.setFull id (id.toNat % 64) n held)) s, false)) ∧
    (∀ v, allocate id e s = .spillBlocked v → admissionRequest id k n s =
      (enqueue (.admission (.spillBlocked id (id.toNat % 64) n v)) s, false))) ∧
  (∀ (id : RackId) (l : Location) (k : Kind) (v : Verdict) (d : Nat) (s : State),
    (lookup s id = none → sendLocation id l s = s ∧ sendUnpin id l s = s ∧ sendKind id k s = s ∧ sendPass id v d s = s) ∧
    (∀ w e, lookup s id = some (w, e) →
      let stored := fun e' : DirEntry =>
        { s with directory := s.directory.set (setOf id) ((s.directory[setOf id]).put w e') }
      sendLocation id l s = stored { e with location := l, dirty := true } ∧
      sendUnpin id l s = stored { e with location := l, dirty := true, pinned := false } ∧
      sendKind id k s = stored (if e.kind = k then e else { e with kind := k, dirty := true }) ∧
      sendPass id v d s = stored { e with
        washes := min 65535 (e.washes + 1), short := if v = .short then min 255 (e.short + 1) else e.short, last := d,
        dirty := true }))

/-- Once start-up has ended: an unload press is ignored with the clean end empty, a confirm pending or the head
quarantined; with fewer than 12 in transit the head joins transit with its travel timer preset and its entry is
unpinned at RETURN, and the track re-tests; with 12 the confirm is pending. In a state that listens, a release with
another action is refused with RANGE, without a quarantined head with STATE. RETURN clears the flag and goes on as a
press, answering MOVED or HELD. REWASH is refused with STATE for a phantom and with FULL for want of a lane place;
otherwise the record joins the lane as it stands, located there. (R12, R131, R132, R133, R134, R135, R136, Table 45)
-/
def Obligations.CleanRacksAreUnloaded : Prop :=
  ∀ s : State, s.phase = .running →
    let moved := fun (e : CleanEntry) (rest : List CleanEntry) => dueEvaluation (sendUnpin e.record.id .onReturn { s with
      ret := { s.ret with
        cleanEnd := rest, confirm := false,
        transit := s.ret.transit ++ [⟨e.record, .running (100 * s.profile.values.travelTime)⟩] } })
    (s.ret.cleanEnd = [] → exec .unloadButton s = .next (conclude s s)) ∧
    (∀ e rest, s.ret.cleanEnd = e :: rest →
      (s.ret.confirm = true ∨ e.quarantined = true → exec .unloadButton s = .next (conclude s s)) ∧
      (s.ret.confirm = false → e.quarantined = false → s.ret.transit.length < 12 →
        exec .unloadButton s = .next (conclude s (moved e rest))) ∧
      (s.ret.confirm = false → e.quarantined = false → 12 ≤ s.ret.transit.length →
        exec .unloadButton s = .next (conclude s { s with ret := { s.ret with confirm := true } }))) ∧
    (Listening s →
      let answer := fun (r : Result) (b : ReplyBody) (t : State) => (.next (conclude s (answered 0x21 r b t)) : Answer)
      let refused := fun r : Result => (.next (onlyAnswered 0x21 r .empty s) : Answer)
      (∀ a : Byte, 1 < a.toNat → Settled s → exec (.releaseQuarantine a) s = refused .range) ∧
      (∀ a : Byte, a.toNat ≤ 1 → (∀ e ∈ s.ret.cleanEnd.head?, e.quarantined = false) → Settled s →
        exec (.releaseQuarantine a) s = refused .state) ∧
      (∀ e rest, s.ret.cleanEnd = e :: rest → e.quarantined = true →
        (s.ret.transit.length < 12 → exec (.releaseQuarantine 0) s = answer .ok (.released true) (moved e rest)) ∧
        (12 ≤ s.ret.transit.length → exec (.releaseQuarantine 0) s = answer .ok (.released false)
          { s with ret := { s.ret with cleanEnd := { e with quarantined := false } :: rest, confirm := true } }) ∧
        (e.record.programme = none → Settled s → exec (.releaseQuarantine 1) s = refused .state) ∧
        (e.record.programme ≠ none → 2 ≤ laneCount s → Settled s → exec (.releaseQuarantine 1) s = refused .full) ∧
        (e.record.programme ≠ none → laneCount s < 2 → exec (.releaseQuarantine 1) s = answer .ok .empty
          (dueEvaluation (sendLocation e.record.id .rewash
            { s with ret := { s.ret with cleanEnd := rest, lane := s.ret.lane ++ [e.record] } })))))

/-- Once start-up has ended: the expiry of a travel timer, and of the spacing timer, while the emergency-stop chain is
closed leaves it expired and lets the head arrive if it may; while the chain is open nothing happens. The arrival
sensor, clear before, becoming made lets the head arrive if it may, and with transit empty queues a STRAY_RACK notice
with the inspection and surplus counts, whether the chain is open or not; a sensor that is made already does not
become made, so that a second stray needs it clear first (log entry 30); its clearing is only noted. What R7 and R92
say then follows (conclude). (R137, R138, R139, R148) -/
def Obligations.ReturnEventsLetTheHeadArrive : Prop :=
  ∀ s : State, s.phase = .running →
    (∀ i t g, s.ret.transit[i]? = some t → t.travel = .running g → s.interlock.live.estop = false →
      exec (.travelTimerExpiry i) s = .next (conclude s (tryArrival { s with
        ret := { s.ret with transit := s.ret.transit.set i { t with travel := .expired } } }))) ∧
    (∀ g, s.ret.spacing = .running g → s.interlock.live.estop = false →
      exec .spacingTimerExpiry s = .next (conclude s (tryArrival { s with ret := { s.ret with spacing := .expired } }))) ∧
    (∀ i, s.interlock.live.estop = true → exec (.travelTimerExpiry i) s = .next (conclude s s) ∧
      exec .spacingTimerExpiry s = .next (conclude s s)) ∧
    (s.inputs.arrival = false → s.ret.transit ≠ [] → exec (.routerArrivalSensor true) s =
      .next (conclude s (tryArrival { s with inputs := { s.inputs with arrival := true } }))) ∧
    (s.inputs.arrival = false → s.ret.transit = [] → exec (.routerArrivalSensor true) s = .next (conclude s
      (enqueue (.fault (.strayRack s.ret.inspections s.ret.surplus.length))
        { s with inputs := { s.inputs with arrival := true } }))) ∧
    (s.inputs.arrival = true → exec (.routerArrivalSensor true) s = .next (conclude s s)) ∧
    exec (.routerArrivalSensor false) s = .next (conclude s { s with inputs := { s.inputs with arrival := false } })

/-- A head arrives only with both timers expired, the sensor made, the chain closed and no head held. A rack whose
counts reach a limit that is not 0 goes to inspection, located INSPECT, counted, with a RACK_RETIRED notice of its
counts, the record's kind (the model's reading, log entry 34) and the test. Otherwise it goes, as a delivery with the
station's delivery time, to the station with the lowest committed count, then the lowest number, among the fitted OPEN
ones below 6 whose mask accepts its kind, every mask accepting UNKNOWN. Otherwise it joins a surplus of fewer than 8,
and one feed is offered, after a pending confirm by the model's choice (log entry 43). Otherwise it is held, its entry
accessed, and a RETURN_HOLD notice is queued. A routing frees the head's place, presets the spacing with 3 s, sets the
diverter and tells the directory the rack's location. With a confirm pending it then completes it in the place freed:
the oldest clean-end entry joins transit with the travel time, its entry unpinned at RETURN, and the track makes a due
evaluation. Nothing else changes. (R122, R133, R138, R140, R141, R142, R143, R144, R145, R146, R148) -/
def Obligations.ArrivalsAreRouted : Prop :=
  ∀ (s : State) (r : TrackRecord) (rest : List Transit) (x : Timer), s.ret.transit = ⟨r, x⟩ :: rest →
    let mayArrive := x = .expired ∧ s.ret.spacing = .expired ∧ s.inputs.arrival = true ∧
      s.interlock.live.estop = false ∧ s.ret.held = false
    let v := s.profile.values
    let washed := fun e : DirEntry => v.retireLimit ≠ 0 ∧ v.retireLimit ≤ e.washes
    let shorted := fun e : DirEntry => v.inspectLimit ≠ 0 ∧ v.inspectLimit ≤ e.short
    let due := ∃ w e, lookup s r.id = some (w, e) ∧ (washed e ∨ shorted e)
    let count := fun n : Quad => (s.stations.get n).stack.length + (s.stations.get n).deliveries.length
    let opened := fun n : Quad => n.val + 1 ≤ v.stations ∧ (s.stations.get n).mode = .openMode ∧ count n < 6
    let accepts := fun n : Quad => match r.kind with
      | .unknown => true
      | .plate => (s.stations.get n).mask.plate
      | .cup => (s.stations.get n).mask.cup
      | .cutlery => (s.stations.get n).mask.cutlery
      | .tray => (s.stations.get n).mask.tray
    let takes := fun n : Quad => opened n ∧ accepts n = true
    let u := tryArrival s
    let left : Return := { s.ret with transit := rest, spacing := .running 300, held := false }
    let confirmed := fun t : State => match s.ret.confirm, s.ret.cleanEnd with
      | true, c :: more => dueEvaluation (sendUnpin c.record.id .onReturn { t with ret := { t.ret with
          cleanEnd := more, confirm := false,
          transit := t.ret.transit ++ [⟨c.record, .running (100 * v.travelTime)⟩] } })
      | _, _ => t
    let toSurplus := confirmed (sendLocation r.id .surplus { s with
      ret := { left with diverter := .surplus, surplus := s.ret.surplus ++ [⟨r.id, r.kind⟩] } })
    (¬ mayArrive → u = s) ∧
    (mayArrive → (s.ret.confirm = true → rest.length < 12) →
      (∀ w e, lookup s r.id = some (w, e) → washed e ∨ shorted e → ∀ test,
        (washed e ∧ shorted e ∧ test = .both) ∨ (washed e ∧ ¬ shorted e ∧ test = .retire) ∨
          (¬ washed e ∧ shorted e ∧ test = .inspect) →
        u = confirmed (enqueue (.rackRetired r.id r.kind e.washes e.short test) (sendLocation r.id .inspect { s with
          ret := { left with diverter := .inspect, inspections := min 65535 (s.ret.inspections + 1) } }))) ∧
      (∀ n, ¬ due → takes n → (∀ m, takes m → count n < count m ∨ (count n = count m ∧ n ≤ m)) →
        u = confirmed (sendLocation r.id (.delivery n) { s with
          ret := { left with diverter := .station n },
          stations := s.stations.set n { s.stations.get n with deliveries := (s.stations.get n).deliveries ++
            [⟨r.id, r.kind, .router, .running (100 * v.deliveryTime.get n)⟩] } })) ∧
      (¬ due → (∀ n, ¬ takes n) → s.ret.surplus.length < 8 → (∀ n, ¬ opened n) → u = toSurplus) ∧
      (∀ n, ¬ due → (∀ n, ¬ takes n) → s.ret.surplus.length < 8 → opened n →
        (∀ m, opened m → count n < count m ∨ (count n = count m ∧ n ≤ m)) →
        ∃ e q, s.ret.surplus ++ [⟨r.id, r.kind⟩] = e :: q ∧ u = sendLocation e.id (.delivery n) { toSurplus with
          ret := { toSurplus.ret with surplus := q },
          stations := s.stations.set n { s.stations.get n with deliveries := (s.stations.get n).deliveries ++
            [⟨e.id, e.kind, .surplus, .running (100 * v.feedTime)⟩] } }) ∧
      (¬ due → (∀ n, ¬ takes n) → 8 ≤ s.ret.surplus.length →
        { u with directory := s.directory } = enqueue (.returnHold r.id r.kind s.ret.surplus.length rest.length) { s with
          ret := { s.ret with held := true } } ∧
        (lookup s r.id = none → u.directory = s.directory) ∧
        (∀ w e, lookup s r.id = some (w, e) →
          u.directory = s.directory.set (setOf r.id) ((s.directory[setOf r.id]).access w)))) ∧
    (s.ret.confirm = false → u.track = s.track)

/-- While the emergency-stop chain is open a prompt does nothing. With no head held it starts at most one feed: the
head of surplus to the fitted OPEN station with the lowest committed count below 6, then the lowest number, whatever
its mask, with the feed time; with surplus empty or no such station nothing happens. A held head is first retried: a
station that takes its kind takes it as at an arrival, or it joins a surplus that is not full; the hold ends, a
pending confirm is completed in the place freed before the directory is told the head's new location, as R142 lists
them (log entry 43), and the prompt goes on as one with no head held. A held head that no station takes, with surplus
full: a feed to an open station makes room, and the second retry sends the head to surplus; with no station open it
stays held and nothing changes. (R133, R140, R141, R142, R143, R144, R145, R146, R148) -/
def Obligations.PromptsFeedAndRetry : Prop :=
  ∀ s : State,
    let count := fun n : Quad => (s.stations.get n).stack.length + (s.stations.get n).deliveries.length
    let opened := fun n : Quad => n.val + 1 ≤ s.profile.values.stations ∧ (s.stations.get n).mode = .openMode ∧ count n < 6
    let confirmed := fun t : State => match t.ret.confirm, t.ret.cleanEnd with
      | true, c :: more => dueEvaluation (sendUnpin c.record.id .onReturn { t with ret := { t.ret with
          cleanEnd := more, confirm := false,
          transit := t.ret.transit ++ [⟨c.record, .running (100 * s.profile.values.travelTime)⟩] } })
      | _, _ => t
    (s.interlock.live.estop = true → prompt s = s) ∧
    (∀ r x rest, s.interlock.live.estop = false → s.ret.held = true → s.ret.transit = ⟨r, x⟩ :: rest →
      (s.ret.confirm = true → rest.length < 12) →
      let accepts := fun n : Quad => match r.kind with
        | .unknown => true
        | .plate => (s.stations.get n).mask.plate
        | .cup => (s.stations.get n).mask.cup
        | .cutlery => (s.stations.get n).mask.cutlery
        | .tray => (s.stations.get n).mask.tray
      let takes := fun n : Quad => opened n ∧ accepts n = true
      let left := fun t : State => { t.ret with transit := rest, spacing := .running 300, held := false }
      let freed : State → State := fun t => confirmed { t with ret := left t }
      let toSurplus : State → State := fun t => sendLocation r.id .surplus { freed t with ret := { (freed t).ret with
        diverter := .surplus, surplus := t.ret.surplus ++ [⟨r.id, r.kind⟩] } }
      (∀ n, takes n → (∀ m, takes m → count n < count m ∨ (count n = count m ∧ n ≤ m)) →
        ∃ t, prompt s = prompt t ∧ t.ret.held = false ∧ t = sendLocation r.id (.delivery n) { freed s with
          ret := { (freed s).ret with diverter := .station n },
          stations := s.stations.set n { s.stations.get n with deliveries := (s.stations.get n).deliveries ++
            [⟨r.id, r.kind, .router, .running (100 * s.profile.values.deliveryTime.get n)⟩] } }) ∧
      ((∀ n, ¬ takes n) → s.ret.surplus.length < 8 → ∃ t, prompt s = prompt t ∧ t.ret.held = false ∧ t = toSurplus s) ∧
      (∀ n e q, (∀ n, ¬ takes n) → s.ret.surplus = e :: q → q.length = 7 → opened n →
        (∀ m, opened m → count n < count m ∨ (count n = count m ∧ n ≤ m)) →
        prompt s = toSurplus (sendLocation e.id (.delivery n) { s with
          ret := { s.ret with surplus := q },
          stations := s.stations.set n { s.stations.get n with deliveries := (s.stations.get n).deliveries ++
            [⟨e.id, e.kind, .surplus, .running (100 * s.profile.values.feedTime)⟩] } }))) ∧
    (s.interlock.live.estop = false → s.ret.held = false →
      (s.ret.surplus = [] ∨ (∀ n, ¬ opened n) → prompt s = s) ∧
      (∀ e q n, s.ret.surplus = e :: q → opened n →
        (∀ m, opened m → count n < count m ∨ (count n = count m ∧ n ≤ m)) →
        prompt s = sendLocation e.id (.delivery n) { s with
          ret := { s.ret with surplus := q },
          stations := s.stations.set n { s.stations.get n with deliveries := (s.stations.get n).deliveries ++
            [⟨e.id, e.kind, .surplus, .running (100 * s.profile.values.feedTime)⟩] } })) ∧
    (∀ r x rest, s.interlock.live.estop = false → s.ret.held = true → s.ret.transit = ⟨r, x⟩ :: rest →
      (∀ n, ¬ opened n) →
      (8 ≤ s.ret.surplus.length → prompt s = s) ∧
      (s.ret.surplus.length < 8 → s.ret.confirm = false → prompt s = sendLocation r.id .surplus { s with
        ret := { s.ret with
          transit := rest, spacing := .running 300, held := false, diverter := .surplus,
          surplus := s.ret.surplus ++ [⟨r.id, r.kind⟩] } }))

/-- The state after reset, at the moment log entry 2 names: no command waits and the profile is being read from its
first bit. The track is empty and OFF with run enable clear, no hold reason, fault, motion or reservation, the step-
due mark set, the step timer expired, the period 18.0 s and every output released. The dose unit is IDLE with no
sample and all counts 0. Programme 1 is the default, the others absent, the kind map sends all but UNKNOWN to 1, lock
and mark are clear. Every station is empty, OPEN, with all kinds; the merge IDLE with the pointer at spur 4; the
directory invalid with all bits 0; the return empty with the spacing timer expired; JAM clear, all timers stopped; the
link empty with counters 0 and the mask 0x01FF. That the gap timers of the supervisory and of the tag receiver are
stopped is the model's choice, which Tables 27 and 53 do not give (log entry 47). (R30, R52, R54, R58, R66, R85, R108,
R129, R150, R168, R174, R191) -/
def Obligations.PowerOnValuesAreTheTables : Prop :=
  let s := State.reset
  s.pending = [] ∧ s.phase = .profileRead ∧ s.resetKind = .powerOn ∧ s.resetCause = .supply ∧
  s.profile.reading = true ∧ s.profile.bits = 0 ∧
  (∀ i : Fin 17, s.track.positions[i] = none) ∧
  s.track.state = .off ∧ s.track.runEnable = false ∧ s.track.holds = .empty ∧ s.track.fault = none ∧
  s.track.stepDue = true ∧ s.track.stepTimer = .expired ∧ s.track.period = 180 ∧ s.track.extension = .idle ∧
  s.track.motion = .none ∧ s.track.motionTimer = .idle ∧ s.track.recoveryPending = false ∧ s.track.purgeCount = 0 ∧
  s.track.chainDrive = false ∧ s.track.rewashGate = false ∧
  s.dose = ⟨.idle, .idle, none, none, 0, 0, 0, 0⟩ ∧
  s.programmes.table = #v[none, some ⟨179, 2400, 20, true, 1⟩, none, none, none, none, none, none] ∧
  s.programmes.kindMap = ⟨0, 1, 1, 1, 1⟩ ∧ s.programmes.lock = false ∧ s.programmes.required = false ∧
  (∀ n, s.stations.get n = ⟨[], [], none, [], .openMode, ⟨true, true, true, true⟩, .idle⟩) ∧
  s.merge = ⟨.idle, none, .idle, none, 3, [], false, .hunting, .idle, false⟩ ∧
  (∀ i : Fin 64, s.directory[i] = ⟨⟨none, none, none, none⟩, false, false, false⟩) ∧
  s.ret = ⟨[], false, [], [], .expired, false, [], 0, .surplus, false⟩ ∧
  s.interlock.live.jam = false ∧ s.interlock.idle = .idle ∧ s.interlock.recovery = .idle ∧ s.interlock.limit = .idle ∧
  s.interlock.heat = false ∧ s.link = ⟨[], .idle, [], none, .idle, [], 0, 0, 0, 0, 0x01FF⟩

/-- A power-on reset, and the end of the reply to a RESTART cold, with no restart line asserted begin the profile read
with every block at its values right after power-on, those the manual does not give as the model chooses them (log
entries 2 and 47); the queue of commands, the input levels (log entry 3) and the lines stay. The cold line's assertion
holds the part with the same values; asserted already, or without supply, it is only noted. A power-on with a line
asserted is held too (log entry 12). The loss of supply takes the same values with nothing working (log entry 13). The
release of a restart line while the part is held and the other line is released begins the start-up: after a warm
reset the settling stage of 50 ms, otherwise the profile read from its first bit. While the other line is asserted, or
while the part is not held, the release is only noted. (R30, R52, R66, R85, R108, R129, R150, R168, R174, R176, R191,
R169) -/
def Obligations.ColdResetsStartAfresh : Prop :=
  (∀ s : State,
    let fresh := fun (k : ResetKind) (c : ResetCause) => { State.reset with
      pending := s.pending, choices := s.choices, coldLine := s.coldLine, warmLine := s.warmLine, inputs := s.inputs,
      plant := s.plant, resetKind := k, resetCause := c }
    let held := fun t : State => { t with phase := .held, profile := { t.profile with reading := false } }
    (s.coldLine = false → s.warmLine = false → exec .powerOnReset s = .next (fresh .powerOn .supply)) ∧
    (s.coldLine = true ∨ s.warmLine = true → exec .powerOnReset s = .next (held (fresh .powerOn .supply))) ∧
    (s.coldLine = false → s.phase ≠ .noSupply →
      exec .coldRestartLine s = .next { held (fresh .cold .line) with coldLine := true }) ∧
    (s.coldLine = true ∨ s.phase = .noSupply → exec .coldRestartLine s = .next { s with coldLine := true }) ∧
    (∀ p r, s.linkWorks = true → s.coldLine = false → s.warmLine = false → s.link.transmitter = .reply →
      s.link.reply = some r → r.body = .restart .cold →
      exec (.transmitComplete p) s = .next { fresh .cold .request with plant := p }) ∧
    exec .supplyBelowOperatingLevel s = .next { held (fresh .powerOn .supply) with phase := .noSupply }) ∧
  (∀ (s : State) (l : RestartLine),
    let t : State := { s with coldLine := if l = .cold then false else s.coldLine,
                              warmLine := if l = .warm then false else s.warmLine }
    let last := if l = .cold then s.warmLine = false else s.coldLine = false
    (s.phase = .held → last → s.resetKind = .warm →
      exec (.restartLineReleased l) s = .next { t with phase := .settling, settle := .running 5 }) ∧
    (s.phase = .held → last → s.resetKind ≠ .warm → exec (.restartLineReleased l) s = .next { t with
      phase := .profileRead, settle := .idle, profile := { s.profile with reading := true, bits := 0 } }) ∧
    (s.phase ≠ .held ∨ ¬ last → exec (.restartLineReleased l) s = .next t))

/-- A warm reset of a working part, by the line or at the end of a RESTART warm reply: the track keeps records,
motion, mark, period, step and extension timers and is OFF at rest with the drive and gate released; the dose unit is
fresh; the lamp timers stop; the merge keeps grant and state with pusher, timer, tags and receiver at rest and the
pointer at spur 4; the conveyor stops; JAM, idle and recovery timers and heat line clear; the link loses its traffic,
with its gap timer stopped (the model's choice, log entry 47), and keeps counters and mask; all else stays, among it
the rest of the interlock group until start-up ends (log entry 39). A warm start-up begun again keeps its cause; a
power-on or cold start-up begins again whole, with the values the model chooses (log entry 2), but for the link's
counters and mask, which are kept (Table 53, log entry 40); a part held has the bit count of the profile reader at 0,
one that begins a warm start-up at once keeps it (the model's choice, log entry 46); under the cold line or without
supply the line is only noted. (R31, R53, R86, R109, R151, R155, R168, R173, R174, R175, R191) -/
def Obligations.WarmResetsKeepTheRecords : Prop :=
  ∀ s : State,
    let rest := fun u : StationUnit => { u with spurFull := .idle }
    let warm : State := { s with
      track := { s.track with
        state := .off, runEnable := false, holds := .empty, fault := none, recoveryPending := false, purgeCount := 0,
        motionTimer := .idle, chainDrive := false, rewashGate := false },
      dose := ⟨.idle, .idle, none, none, 0, 0, 0, 0⟩,
      stations := ⟨rest s.stations.one, rest s.stations.two, rest s.stations.three, rest s.stations.four⟩,
      merge := { s.merge with
        timer := .idle, pusher := none, rotation := 3, tags := [], overrun := false, receiver := .hunting,
        tagGap := .idle },
      ret := { s.ret with conveyor := false },
      interlock := { s.interlock with
        live := { s.interlock.live with jam := false }, idle := .idle, recovery := .idle, limit := .idle,
        heat := false },
      link := { s.link with
        assembly := [], gap := .idle, buffer := [], reply := none, transmitter := .idle, notices := [] },
      resetKind := .warm, settle := .idle }
    let held := fun t : State => { t with
      phase := .held, warmLine := true, profile := { t.profile with reading := false, bits := 0 } }
    (s.warmLine = false → s.coldLine = false → s.phase = .running →
      exec .warmRestartLine s = .next (held { warm with resetCause := .line })) ∧
    (s.warmLine = false → s.coldLine = false → s.phase ≠ .running → s.phase ≠ .noSupply → s.resetKind = .warm →
      exec .warmRestartLine s = .next (held warm)) ∧
    (s.warmLine = false → s.coldLine = false → s.phase ≠ .running → s.phase ≠ .noSupply → s.resetKind ≠ .warm →
      exec .warmRestartLine s = .next (held { State.reset with
        pending := s.pending, choices := s.choices, inputs := s.inputs, plant := s.plant, resetKind := s.resetKind,
        resetCause := s.resetCause, link := warm.link })) ∧
    (s.warmLine = true ∨ s.coldLine = true ∨ s.phase = .noSupply →
      exec .warmRestartLine s = .next { s with warmLine := true }) ∧
    (∀ p r, s.phase = .running → s.coldLine = false → s.warmLine = false → s.link.transmitter = .reply →
      s.link.reply = some r → r.body = .restart .warm → exec (.transmitComplete p) s =
        .next { warm with plant := p, phase := .settling, settle := .running 5, resetCause := .request })

/-- At the end of the profile read the settling stage begins with the reader at rest. When the sum of bytes 0 to 61
differs from bytes 62 and 63, or byte 0 is not 1, the status is FAULT, the built-in values of Table 37 and Table 18
are in force, and the settings-required mark is set. Otherwise each field outside its range takes the nearer end, a
recovery mode other than 1 is FIXED, and the status is OK exactly when no field was changed and the mode was 0 or 1;
the sanitation settings come from the profile. No other block changes, and in any other phase the command does
nothing. (R62, R169, R170, R171, R172, Table 37) -/
def Obligations.ProfilesAreCheckedAndClamped : Prop :=
  ∀ (s : State) (img : List Byte), img.length = 64 →
    let b := fun i : Nat => (img.getD i 0xFF#8).toNat
    let h := fun i : Nat => b i * 256 + b (i + 1)
    let within := fun lo hi x : Nat => max lo (min hi x)
    let sound := ((List.range 62).map b).sum = h 62 ∧ b 0 = 1
    let defaults : ProfileValues :=
      { stations := 4, sensors := 2, tableLimit := 7, motionLimit := 6, transferLimit := 8, idleLimit := 60,
        recoveryMode := .fixed, recoveryTime := 9, recoveryLimit := 90, recoveryMargin := 20, travelTime := 40,
        deliveryTime := ⟨12, 12, 12, 12⟩, feedTime := 8, inspectLimit := 3, retireLimit := 0 }
    let factory : Sanitation := ⟨200, 1000, 200, 1000, 820, 20,
      #v[10, 13, 16, 20, 25, 32, 40, 50, 63, 79, 100, 126, 158, 200, 251, 316]⟩
    let read : ProfileValues :=
      { stations := b 1 / 16, sensors := b 1 % 16, tableLimit := b 2, motionLimit := b 3, transferLimit := b 4,
        idleLimit := b 5, recoveryMode := if b 6 = 1 then .temperature else .fixed, recoveryTime := b 7,
        recoveryLimit := b 8, recoveryMargin := b 9, travelTime := b 10, deliveryTime := ⟨b 11, b 12, b 13, b 14⟩,
        feedTime := b 15, inspectLimit := b 16, retireLimit := h 17 }
    let forced : ProfileValues := { read with
      stations := within 1 4 read.stations, sensors := within 1 2 read.sensors, tableLimit := within 1 7 read.tableLimit,
      motionLimit := within 2 20 read.motionLimit, transferLimit := within 2 20 read.transferLimit,
      recoveryTime := within 1 60 read.recoveryTime, recoveryLimit := within 6 255 read.recoveryLimit,
      recoveryMargin := within 0 100 read.recoveryMargin, travelTime := within 5 250 read.travelTime,
      deliveryTime := ⟨within 2 120 (b 11), within 2 120 (b 12), within 2 120 (b 13), within 2 120 (b 14)⟩,
      feedTime := within 2 120 read.feedTime }
    let settings : Sanitation := ⟨within 0 999 (h 19), within 100 2000 (h 21), within 0 999 (h 23),
      within 100 2000 (h 25), within 600 950 (h 27), within 0 100 (b 29),
      Vector.ofFn fun i : Fin 16 => within 0 4095 (h (30 + 2 * i.val))⟩
    let exact := read = forced ∧ b 6 ≤ 1 ∧ 100 ≤ h 21 ∧ h 21 ≤ 2000 ∧ 100 ≤ h 25 ∧ h 25 ≤ 2000 ∧ h 19 ≤ 999 ∧
      h 23 ≤ 999 ∧ 600 ≤ h 27 ∧ h 27 ≤ 950 ∧ b 29 ≤ 100 ∧ ∀ i : Fin 16, h (30 + 2 * i.val) ≤ 4095
    let after := fun (st : ProfileStatus) (v : ProfileValues) (g : Sanitation) (o : SettingsSource) (m : Bool) =>
      (.next { s with
        phase := .settling, settle := .running 5,
        profile := { reading := false, bits := 512, values := v, status := st },
        programmes := { s.programmes with sanitation := g, source := o, required := m } } : Answer)
    (s.phase = .profileRead → ¬ sound →
      exec (.profileReadComplete img) s = after .fault defaults factory .builtIn true) ∧
    (s.phase = .profileRead → sound → exact → exec (.profileReadComplete img) s = after .ok forced settings .profile false) ∧
    (s.phase = .profileRead → sound → ¬ exact →
      exec (.profileReadComplete img) s = after .clamped forced settings .profile false) ∧
    (s.phase ≠ .profileRead → exec (.profileReadComplete img) s = .next s)

/-- With the settling stage ending: the part works, the START_UP notice with kind, cause and status goes first, the
group is read from its inputs with JAM clear and latched with count 1 and cause START, a sample is under way, and the
conveyor runs unless the emergency stop is open. After a power-on or cold reset the track stays as it is, an empty
spur of a fitted station takes an entry for a rack on its sensor, and with transit empty and the arrival sensor made a
stray rack is reported after the START_UP and INTERLOCK notices (log entry 30); their order is the model's choice (log
entry 15). After a warm reset a track with a motion whose index is not made is STOPPED with the interrupted mark, any
other is OFF with no motion; the merge is IDLE with no grant, a re-test of refused heads is owed (log entry 21) and
the spacing timer is at 3 s; WarmStartUpsResumeTheRecords says what becomes of the records. In another phase only the
readings are noted. (R31, R32, R78, R85, R109, R139, R147, R150, R151, R160, R176, R177) -/
def Obligations.StartUpEndsForEveryBlock : Prop :=
  ∀ (s : State) (p : Plant),
    (s.phase ≠ .settling → exec (.endOfStartUp p) s = .next { s with plant := p }) ∧
    (s.phase = .settling → s.track.state = .off → s.track.runEnable = false → s.link.notices = [] →
      let first : Notice := .startUp s.resetKind s.resetCause s.profile.status
      let sent := s.link.transmitter = .idle ∧ s.link.reply = none
      ∃ t, exec (.endOfStartUp p) s = .next t ∧ t.phase = .running ∧ t.settle = .idle ∧ t.plant = p ∧
        (sent → t.link.transmitter = .notice first) ∧ (¬ sent → t.link.notices.head? = some first) ∧
        t.interlock = { s.interlock with
          live := ⟨s.inputs.estopOpen, s.inputs.doorOpen, s.inputs.noFlow, s.inputs.tankLow, false⟩,
          snapshot := ⟨s.inputs.estopOpen, s.inputs.doorOpen, s.inputs.noFlow, s.inputs.tankLow, false⟩,
          latched := true, count := 1, cause := .start, idle := .idle } ∧
        t.dose = { s.dose with cycle := .running 25, converter := .convertingA, pendingA := none } ∧
        t.ret.conveyor = !s.inputs.estopOpen ∧ t.programmes = s.programmes ∧ t.profile = s.profile ∧
        (s.resetKind ≠ .warm →
          t.link.notices = (if sent then [] else [first]) ++
            (if s.link.mask.getLsbD 1 then [.interlock t.interlock.live t.interlock.live 1 .start] else []) ++
            (if s.inputs.arrival ∧ s.ret.transit = [] ∧ s.link.mask.getLsbD 2 then
              [.fault (.strayRack s.ret.inspections s.ret.surplus.length)] else [])) ∧
        (s.link.mask.getLsbD 1 = true → .interlock t.interlock.live t.interlock.live 1 .start ∈ t.link.notices) ∧
        (s.resetKind ≠ .warm → t.track = s.track ∧ t.ret = { s.ret with conveyor := !s.inputs.estopOpen } ∧
          t.merge = { s.merge with retest := false } ∧
          ∀ n, (s.stations.get n).spur = [] → t.stations.get n = { s.stations.get n with
            spur := if n.val + 1 ≤ s.profile.values.stations ∧ p.spurHead.get n then
              [⟨0, p.profile.get n, true, false, none⟩] else [] }) ∧
        (s.resetKind = .warm →
          t.track.state = (if s.track.motion ≠ .none ∧ p.index = false then .stopped else .off) ∧
          t.track.motion = (if s.track.motion ≠ .none ∧ p.index = false then .interrupted else .none) ∧
          t.merge.state = .idle ∧ (s.merge.state ≠ .idle → t.merge.grant = none) ∧ t.merge.retest = true ∧ t.ret.spacing = .running 300 ∧
          (s.track.extension = .idle → t.track.extension = .idle) ∧ t.track.runEnable = false))

/-- At the end of a warm start-up of a track at rest, with a motion or a transfer carried but not both: the period is
fixed and the step timer preset with it; an extension timer that was not IDLE is preset with the F2 record's limit, 0
expiring it. A carried motion whose index is made is completed as R15 says, hand-over, shift, leaving mark and exit
eye; otherwise every record stays. A carried grant with position 0 made is completed: the granted head, resolved
without tag reads, or the lane's head stands at position 0 and has left its queue. With it not made it is dropped and
the head stays, but a jammed spur grant whose head sensor is clear loses its head, located UNKNOWN and unpinned. Then
every fitted spur's sensor is read. Deliveries, travel and spacing have their full times; then comes the prompt, which
may start one feed or move a held head; a head still held queues RETURN_HOLD again. A STATE notice is queued for a
STOPPED track and for a settled jam. The order of all this is the model's (log entry 15), and a held head's travel
timer is preset too (log entry 16). (R15, R18, R28, R31, R78, R98, R99, R105, R109, R142, R151, R186) -/
def Obligations.WarmStartUpsResumeTheRecords : Prop :=
  ∀ (s : State) (p : Plant), s.phase = .settling → s.resetKind = .warm → s.track.state = .off →
    s.track.runEnable = false → s.link.notices = [] → s.track.motion = .none ∨ s.merge.state = .idle →
    let v := s.profile.values
    let made := s.track.motion ≠ .none ∧ p.index = true
    let carried := s.merge.state ≠ .idle
    let still := s.ret.held = false ∨ s.inputs.estopOpen = true
    let handed := match s.track.positions[16] with
      | some r => match r.destination with
        | some d => if r.tracked then sendLocation r.id (if d = .rewash then .rewash else .clean) s else s
        | none => s
      | none => s
    let read := fun (n : Quad) (q : List SpurEntry) => if n.val + 1 ≤ v.stations ∧ p.spurHead.get n = true then match q with
        | [] => [(⟨0, p.profile.get n, true, false, none⟩ : SpurEntry)]
        | h :: rest => (if h.profiled then h else { h with kind := p.profile.get n, profiled := true }) :: rest
      else q
    ∃ t, exec (.endOfStartUp p) s = .next t ∧
      t.track.period = periodOf t ∧ t.track.stepTimer = .running (10 * periodOf t) ∧
      (s.track.extension ≠ .idle → t.track.extension = match s.track.positions[12].bind (·.programme) with
        | some q => if q.limit = 0 then .expired else .running (100 * q.limit)
        | none => .expired) ∧
      (made → t.track.positions[0] = none ∧
        (∀ (i : Nat) (h : i < 15), i ≠ 12 → t.track.positions[i + 1] = s.track.positions[i]) ∧
        t.track.positions[13] = s.track.positions[12].map (fun r => { r with leaving := false }) ∧
        t.track.positions[16] = (match s.track.positions[15], p.exitEye with
          | some r, true => some r
          | none, true => some phantom
          | _, false => none) ∧ t.track.stepDue = false ∧
        t.ret.lane = s.ret.lane ++ (match s.track.positions[16] with
          | some r => if r.destination = some .rewash then [{ r with destination := none }] else []
          | none => []) ∧
        (still → t.ret.cleanEnd = s.ret.cleanEnd ++ (match s.track.positions[16] with
          | some r => if r.destination = some .clean then [⟨{ r with destination := none }, false⟩]
                      else if r.destination = some .quarantine then [⟨{ r with destination := none }, true⟩] else []
          | none => [])) ∧
        (∀ r, s.track.positions[15] = some r → p.exitEye = false → s.link.mask.getLsbD 2 = true →
          Notice.fault (.missingRack r.id r.source) ∈ t.link.notices) ∧
        (s.inputs.estopOpen = true → (∀ n, p.spurHead.get n = false) →
          t.directory = (match s.track.positions[15], p.exitEye with
            | some r, false => if r.tracked then (sendUnpin r.id .unknown handed).directory else handed.directory
            | _, _ => handed.directory))) ∧
      (¬ made → (∀ i : Fin 17, i ≠ 0 → t.track.positions[i] = s.track.positions[i]) ∧ t.track.stepDue = s.track.stepDue ∧
        (still → t.ret.cleanEnd = s.ret.cleanEnd)) ∧
      (¬ made → ¬ (carried ∧ p.position0 = true) → t.track.positions[0] = s.track.positions[0] ∧ t.ret.lane = s.ret.lane) ∧
      (¬ carried → ∀ n, (t.stations.get n).spur = read n (s.stations.get n).spur) ∧
      (∀ g r rest, carried → s.merge.grant = some (.rewash g) → s.ret.lane = r :: rest →
        (∀ n, (t.stations.get n).spur = read n (s.stations.get n).spur) ∧
        (p.position0 = true → t.ret.lane = rest ∧ t.track.positions[0] = some { r with
          dose := 0, verdict := .none, rewashCount := min 3 (r.rewashCount + 1), source := .rewash, leaving := false,
          destination := none })) ∧
      (∀ n e k q, carried → s.merge.grant = some (.spur n e k q) →
        let lost := s.merge.state = .jammed ∧ p.spurHead.get n = false
        (p.position0 = false → (∀ m, m ≠ n → (t.stations.get m).spur = read m (s.stations.get m).spur) ∧
          (lost → (t.stations.get n).spur = (s.stations.get n).spur.tail ∧
            (s.inputs.estopOpen = true → (∀ m, p.spurHead.get m = false) →
              t.directory = (sendUnpin e .unknown s).directory)) ∧
          (¬ lost → (t.stations.get n).spur = read n (s.stations.get n).spur)) ∧
        (p.position0 = true → s.merge.tags = [] → e = 0 ∨ holderOf n e s = none →
          (∀ m, (t.stations.get m).spur =
            read m (if m = n then (s.stations.get m).spur.tail else (s.stations.get m).spur)) ∧
          t.ret.lane = s.ret.lane ∧
          ∃ tracked, (tracked = true → e ≠ 0 ∧ PinnedEntry t e) ∧ t.track.positions[0] = some
            { id := e, kind := k, programme := some q, dose := 0, verdict := .none, rewashCount := 0,
              source := .station n, identity := if e = 0 then .none else .expected, tracked := tracked, leaving := false,
              destination := none })) ∧
      (s.link.mask.getLsbD 7 = true → t.track.state = .stopped → Notice.state (stateReport none t) ∈ t.link.notices) ∧
      (∀ g, s.link.mask.getLsbD 7 = true → s.merge.state = .jammed → s.merge.grant = some g →
        let o : SettleOutcome := if p.position0 then .completed else match g with
          | .spur n _ _ _ => if p.spurHead.get n then .kept else .lost
          | .rewash _ => .kept
        Notice.state (stateReport (some ⟨o, g.requester, g.expected⟩) t) ∈ t.link.notices) ∧
      (∀ n, ((s.stations.get n).deliveries.map fun d => { d with timer := .running (match d.origin with
          | .router => 100 * v.deliveryTime.get n
          | .surplus => 100 * v.feedTime) }) <+: (t.stations.get n).deliveries) ∧
      t.ret.spacing = .running 300 ∧
      (still → t.ret.held = s.ret.held ∧
        t.ret.transit = s.ret.transit.map fun y => { y with travel := .running (100 * v.travelTime) }) ∧
      (∀ x rest, t.ret.held = true → t.ret.transit = x :: rest → s.link.mask.getLsbD 8 = true →
        Notice.returnHold x.record.id x.record.kind t.ret.surplus.length rest.length ∈ t.link.notices)

/-- A motion and a transfer are never both unfinished; the drive and its timer run exactly with a motion in flight,
the pusher and its timer exactly with a transfer in flight, and neither while a chain is open; the active track states
are left when a chain opens; FAULT has a cause and JAM is set exactly for a jam; the heat-economy line is asserted
exactly in STANDBY, a recovery timer runs exactly in RECOVERY, and marks, counts and reasons stand only in their
states; in reset and start-up all of it is at rest. Every step keeps this. (R3, R7, R8, R20, R21, R26, R87, R96, R97,
R155, R162, R166) -/
def Obligations.MovingPartsStayConsistent : Prop :=
  ∀ s t : State, Moving s → step s = .next t → Moving t

/-- While the sanitation lock is clear, the track is in no state that a RUN leads to, no transfer is in flight, and
the track holds phantoms only; the settings-required mark is never set together with the lock; and the lock is clear
while a power-on or cold start-up has its profile read before it. With the moving parts consistent, every step keeps
this. So no rack is dosed under settings that change during its pass. (R62, R63, R64, R92, R174) -/
def Obligations.TheSanitationLockIsSound : Prop :=
  ∀ s t : State, Moving s → LockSound s → step s = .next t → LockSound t

/-- With the moving parts consistent: when no due evaluation is left to be made, no grant opportunity is open and the
idle timer runs only in an idle READY, then the same holds after every step that leaves start-up ended. So in HOLD the
reasons are always exactly the unmet conditions, and an open opportunity is taken in the action that opened it (log
entry 8 gives their order). (R7, R9, R26, R92, R161) -/
def Obligations.NothingIsLeftToFollow : Prop :=
  ∀ s t : State, Moving s → (s.phase = .running → Settled s) → step s = .next t → t.phase = .running → Settled t

/-- The clean end with its reservation holds at most 4, the lane with its reservation at most 2, transit at most 12,
surplus at most 8, each station's committed count at most 6, each spur at most 3, the tag queue at most 3; only the X
record has a destination, and only during its motion; doses stay within 65535, rewash counts within 3, the runs within
8 and the inspection count within 65535. Every step keeps this. (R13, R40, R45, R46, R48, R69, R75, R101, R131, R136,
R137, R143) -/
def Obligations.QueuesAndCountsStayInRange : Prop :=
  ∀ s t : State, Places s → CountsInRange s → step s = .next t → Places t ∧ CountsInRange t

/-- No non-zero rack id is held twice across the stacks, bays, spurs, track positions, the lane, the clean end,
transit, surplus and the deliveries in flight, and an outstanding grant names what stands at the head of its queue.
Every step keeps this. (R81, R103) -/
def Obligations.NoRackIdIsHeldTwice : Prop :=
  ∀ s t : State, IdsDistinct s → step s = .next t → IdsDistinct t

/-- With ids held once and each directory set sound (each entry's id is of its set and held in one way): every TRACKED
record on the track, in the lane or at the clean end has a pinned entry of its id. Every step keeps all of this, so no
entry of a rack in its pass is replaced, dropped or duplicated. (R103, R110, R111, R115, R118, R119, R127) -/
def Obligations.TrackedRecordsStayPinned : Prop :=
  ∀ s t : State, Tracked s → step s = .next t → Tracked t

/-- Right after a power-on reset the moving parts are at rest, the lock is sound, the queues and counts are in range,
no id is held, the directory is sound with nothing tracked, and the link is empty; so every run from reset keeps them.
(R30, R85, R108, R129, R150, R174, R191) -/
def Obligations.TheInvariantsHoldAtReset : Prop :=
  Moving State.reset ∧ LockSound State.reset ∧ (State.reset.phase = .running → Settled State.reset) ∧
    Places State.reset ∧ CountsInRange State.reset ∧ IdsDistinct State.reset ∧ Tracked State.reset ∧
    LinkSound State.reset
end

