-- ==== Sys2Proof/Laws/State.lean ====
section
/-! SUPPORT. One fact per field and update: the plain record updates leave every other field as it was; and the reading of
one of four after a write. -/

namespace Sys2Proof

@[simp] theorem Four.get_set_same {α : Type} (f : Four α) (i : Quad) (a : α) : (f.set i a).get i = a := by
  match i with
  | 0 => rfl
  | 1 => rfl
  | 2 => rfl
  | 3 => rfl

theorem Four.get_set_ne {α : Type} (f : Four α) {i j : Quad} (a : α) (h : j ≠ i) : (f.set i a).get j = f.get j := by
  match i, j with
  | 0, 0 | 1, 1 | 2, 2 | 3, 3 => exact absurd rfl h
  | 0, 1 | 0, 2 | 0, 3 | 1, 0 | 1, 2 | 1, 3 | 2, 0 | 2, 1 | 2, 3 | 3, 0 | 3, 1 | 3, 2 => rfl

/-- Reading one of four after a write. -/
theorem Four.get_set {α : Type} (f : Four α) (i j : Quad) (a : α) :
    (f.set i a).get j = if j = i then a else f.get j := by
  split
  · subst_vars; simp
  · exact f.get_set_ne a ‹_›

@[simp] theorem Four.get_all {α : Type} (a : α) (i : Quad) : (Four.all a).get i = a := by
  match i with
  | 0 => rfl
  | 1 => rfl
  | 2 => rfl
  | 3 => rfl

end Sys2Proof

namespace Sys2Proof.Machine
open Sys2Proof

@[simp] theorem State.sense_pending (p : Plant) (s : State) : (s.sense p).pending = s.pending := rfl
@[simp] theorem State.sense_choices (p : Plant) (s : State) : (s.sense p).choices = s.choices := rfl
@[simp] theorem State.sense_phase (p : Plant) (s : State) : (s.sense p).phase = s.phase := rfl
@[simp] theorem State.sense_coldLine (p : Plant) (s : State) : (s.sense p).coldLine = s.coldLine := rfl
@[simp] theorem State.sense_warmLine (p : Plant) (s : State) : (s.sense p).warmLine = s.warmLine := rfl
@[simp] theorem State.sense_resetKind (p : Plant) (s : State) : (s.sense p).resetKind = s.resetKind := rfl
@[simp] theorem State.sense_resetCause (p : Plant) (s : State) : (s.sense p).resetCause = s.resetCause := rfl
@[simp] theorem State.sense_settle (p : Plant) (s : State) : (s.sense p).settle = s.settle := rfl
@[simp] theorem State.sense_inputs (p : Plant) (s : State) : (s.sense p).inputs = s.inputs := rfl
@[simp] theorem State.sense_plant (p : Plant) (s : State) : (s.sense p).plant = p := rfl
@[simp] theorem State.sense_track (p : Plant) (s : State) : (s.sense p).track = s.track := rfl
@[simp] theorem State.sense_dose (p : Plant) (s : State) : (s.sense p).dose = s.dose := rfl
@[simp] theorem State.sense_programmes (p : Plant) (s : State) : (s.sense p).programmes = s.programmes := rfl
@[simp] theorem State.sense_stations (p : Plant) (s : State) : (s.sense p).stations = s.stations := rfl
@[simp] theorem State.sense_merge (p : Plant) (s : State) : (s.sense p).merge = s.merge := rfl
@[simp] theorem State.sense_directory (p : Plant) (s : State) : (s.sense p).directory = s.directory := rfl
@[simp] theorem State.sense_ret (p : Plant) (s : State) : (s.sense p).ret = s.ret := rfl
@[simp] theorem State.sense_interlock (p : Plant) (s : State) : (s.sense p).interlock = s.interlock := rfl
@[simp] theorem State.sense_profile (p : Plant) (s : State) : (s.sense p).profile = s.profile := rfl
@[simp] theorem State.sense_link (p : Plant) (s : State) : (s.sense p).link = s.link := rfl

@[simp] theorem State.setStation_pending (n : Quad) (u : StationUnit) (s : State) :
    (s.setStation n u).pending = s.pending := rfl
@[simp] theorem State.setStation_choices (n : Quad) (u : StationUnit) (s : State) :
    (s.setStation n u).choices = s.choices := rfl
@[simp] theorem State.setStation_phase (n : Quad) (u : StationUnit) (s : State) :
    (s.setStation n u).phase = s.phase := rfl
@[simp] theorem State.setStation_coldLine (n : Quad) (u : StationUnit) (s : State) :
    (s.setStation n u).coldLine = s.coldLine := rfl
@[simp] theorem State.setStation_warmLine (n : Quad) (u : StationUnit) (s : State) :
    (s.setStation n u).warmLine = s.warmLine := rfl
@[simp] theorem State.setStation_resetKind (n : Quad) (u : StationUnit) (s : State) :
    (s.setStation n u).resetKind = s.resetKind := rfl
@[simp] theorem State.setStation_resetCause (n : Quad) (u : StationUnit) (s : State) :
    (s.setStation n u).resetCause = s.resetCause := rfl
@[simp] theorem State.setStation_settle (n : Quad) (u : StationUnit) (s : State) :
    (s.setStation n u).settle = s.settle := rfl
@[simp] theorem State.setStation_inputs (n : Quad) (u : StationUnit) (s : State) :
    (s.setStation n u).inputs = s.inputs := rfl
@[simp] theorem State.setStation_plant (n : Quad) (u : StationUnit) (s : State) :
    (s.setStation n u).plant = s.plant := rfl
@[simp] theorem State.setStation_track (n : Quad) (u : StationUnit) (s : State) :
    (s.setStation n u).track = s.track := rfl
@[simp] theorem State.setStation_dose (n : Quad) (u : StationUnit) (s : State) :
    (s.setStation n u).dose = s.dose := rfl
@[simp] theorem State.setStation_programmes (n : Quad) (u : StationUnit) (s : State) :
    (s.setStation n u).programmes = s.programmes := rfl
@[simp] theorem State.setStation_stations (n : Quad) (u : StationUnit) (s : State) :
    (s.setStation n u).stations = s.stations.set n u := rfl
@[simp] theorem State.setStation_merge (n : Quad) (u : StationUnit) (s : State) :
    (s.setStation n u).merge = s.merge := rfl
@[simp] theorem State.setStation_directory (n : Quad) (u : StationUnit) (s : State) :
    (s.setStation n u).directory = s.directory := rfl
@[simp] theorem State.setStation_ret (n : Quad) (u : StationUnit) (s : State) : (s.setStation n u).ret = s.ret := rfl
@[simp] theorem State.setStation_interlock (n : Quad) (u : StationUnit) (s : State) :
    (s.setStation n u).interlock = s.interlock := rfl
@[simp] theorem State.setStation_profile (n : Quad) (u : StationUnit) (s : State) :
    (s.setStation n u).profile = s.profile := rfl
@[simp] theorem State.setStation_link (n : Quad) (u : StationUnit) (s : State) :
    (s.setStation n u).link = s.link := rfl

@[simp] theorem State.setPosition_pending (i : Fin 17) (r : Option TrackRecord) (s : State) :
    (s.setPosition i r).pending = s.pending := rfl
@[simp] theorem State.setPosition_choices (i : Fin 17) (r : Option TrackRecord) (s : State) :
    (s.setPosition i r).choices = s.choices := rfl
@[simp] theorem State.setPosition_phase (i : Fin 17) (r : Option TrackRecord) (s : State) :
    (s.setPosition i r).phase = s.phase := rfl
@[simp] theorem State.setPosition_coldLine (i : Fin 17) (r : Option TrackRecord) (s : State) :
    (s.setPosition i r).coldLine = s.coldLine := rfl
@[simp] theorem State.setPosition_warmLine (i : Fin 17) (r : Option TrackRecord) (s : State) :
    (s.setPosition i r).warmLine = s.warmLine := rfl
@[simp] theorem State.setPosition_resetKind (i : Fin 17) (r : Option TrackRecord) (s : State) :
    (s.setPosition i r).resetKind = s.resetKind := rfl
@[simp] theorem State.setPosition_resetCause (i : Fin 17) (r : Option TrackRecord) (s : State) :
    (s.setPosition i r).resetCause = s.resetCause := rfl
@[simp] theorem State.setPosition_settle (i : Fin 17) (r : Option TrackRecord) (s : State) :
    (s.setPosition i r).settle = s.settle := rfl
@[simp] theorem State.setPosition_inputs (i : Fin 17) (r : Option TrackRecord) (s : State) :
    (s.setPosition i r).inputs = s.inputs := rfl
@[simp] theorem State.setPosition_plant (i : Fin 17) (r : Option TrackRecord) (s : State) :
    (s.setPosition i r).plant = s.plant := rfl
@[simp] theorem State.setPosition_track (i : Fin 17) (r : Option TrackRecord) (s : State) :
    (s.setPosition i r).track = { s.track with positions := s.track.positions.set i r } :=
  rfl
@[simp] theorem State.setPosition_dose (i : Fin 17) (r : Option TrackRecord) (s : State) :
    (s.setPosition i r).dose = s.dose := rfl
@[simp] theorem State.setPosition_programmes (i : Fin 17) (r : Option TrackRecord) (s : State) :
    (s.setPosition i r).programmes = s.programmes := rfl
@[simp] theorem State.setPosition_stations (i : Fin 17) (r : Option TrackRecord) (s : State) :
    (s.setPosition i r).stations = s.stations := rfl
@[simp] theorem State.setPosition_merge (i : Fin 17) (r : Option TrackRecord) (s : State) :
    (s.setPosition i r).merge = s.merge := rfl
@[simp] theorem State.setPosition_directory (i : Fin 17) (r : Option TrackRecord) (s : State) :
    (s.setPosition i r).directory = s.directory := rfl
@[simp] theorem State.setPosition_ret (i : Fin 17) (r : Option TrackRecord) (s : State) :
    (s.setPosition i r).ret = s.ret := rfl
@[simp] theorem State.setPosition_interlock (i : Fin 17) (r : Option TrackRecord) (s : State) :
    (s.setPosition i r).interlock = s.interlock := rfl
@[simp] theorem State.setPosition_profile (i : Fin 17) (r : Option TrackRecord) (s : State) :
    (s.setPosition i r).profile = s.profile := rfl
@[simp] theorem State.setPosition_link (i : Fin 17) (r : Option TrackRecord) (s : State) :
    (s.setPosition i r).link = s.link := rfl

@[simp] theorem State.setDirSet_pending (i : Fin 64) (d : DirSet) (s : State) :
    (s.setDirSet i d).pending = s.pending := rfl
@[simp] theorem State.setDirSet_choices (i : Fin 64) (d : DirSet) (s : State) :
    (s.setDirSet i d).choices = s.choices := rfl
@[simp] theorem State.setDirSet_phase (i : Fin 64) (d : DirSet) (s : State) : (s.setDirSet i d).phase = s.phase := rfl
@[simp] theorem State.setDirSet_coldLine (i : Fin 64) (d : DirSet) (s : State) :
    (s.setDirSet i d).coldLine = s.coldLine := rfl
@[simp] theorem State.setDirSet_warmLine (i : Fin 64) (d : DirSet) (s : State) :
    (s.setDirSet i d).warmLine = s.warmLine := rfl
@[simp] theorem State.setDirSet_resetKind (i : Fin 64) (d : DirSet) (s : State) :
    (s.setDirSet i d).resetKind = s.resetKind := rfl
@[simp] theorem State.setDirSet_resetCause (i : Fin 64) (d : DirSet) (s : State) :
    (s.setDirSet i d).resetCause = s.resetCause := rfl
@[simp] theorem State.setDirSet_settle (i : Fin 64) (d : DirSet) (s : State) :
    (s.setDirSet i d).settle = s.settle := rfl
@[simp] theorem State.setDirSet_inputs (i : Fin 64) (d : DirSet) (s : State) :
    (s.setDirSet i d).inputs = s.inputs := rfl
@[simp] theorem State.setDirSet_plant (i : Fin 64) (d : DirSet) (s : State) : (s.setDirSet i d).plant = s.plant := rfl
@[simp] theorem State.setDirSet_track (i : Fin 64) (d : DirSet) (s : State) : (s.setDirSet i d).track = s.track := rfl
@[simp] theorem State.setDirSet_dose (i : Fin 64) (d : DirSet) (s : State) : (s.setDirSet i d).dose = s.dose := rfl
@[simp] theorem State.setDirSet_programmes (i : Fin 64) (d : DirSet) (s : State) :
    (s.setDirSet i d).programmes = s.programmes := rfl
@[simp] theorem State.setDirSet_stations (i : Fin 64) (d : DirSet) (s : State) :
    (s.setDirSet i d).stations = s.stations := rfl
@[simp] theorem State.setDirSet_merge (i : Fin 64) (d : DirSet) (s : State) : (s.setDirSet i d).merge = s.merge := rfl
@[simp] theorem State.setDirSet_directory (i : Fin 64) (d : DirSet) (s : State) :
    (s.setDirSet i d).directory = s.directory.set i d := rfl
@[simp] theorem State.setDirSet_ret (i : Fin 64) (d : DirSet) (s : State) : (s.setDirSet i d).ret = s.ret := rfl
@[simp] theorem State.setDirSet_interlock (i : Fin 64) (d : DirSet) (s : State) :
    (s.setDirSet i d).interlock = s.interlock := rfl
@[simp] theorem State.setDirSet_profile (i : Fin 64) (d : DirSet) (s : State) :
    (s.setDirSet i d).profile = s.profile := rfl
@[simp] theorem State.setDirSet_link (i : Fin 64) (d : DirSet) (s : State) : (s.setDirSet i d).link = s.link := rfl

@[simp] theorem setHead_pending (n : Quad) (e : SpurEntry) (s : State) : (setHead n e s).pending = s.pending := rfl
@[simp] theorem setHead_choices (n : Quad) (e : SpurEntry) (s : State) : (setHead n e s).choices = s.choices := rfl
@[simp] theorem setHead_phase (n : Quad) (e : SpurEntry) (s : State) : (setHead n e s).phase = s.phase := rfl
@[simp] theorem setHead_coldLine (n : Quad) (e : SpurEntry) (s : State) : (setHead n e s).coldLine = s.coldLine := rfl
@[simp] theorem setHead_warmLine (n : Quad) (e : SpurEntry) (s : State) : (setHead n e s).warmLine = s.warmLine := rfl
@[simp] theorem setHead_resetKind (n : Quad) (e : SpurEntry) (s : State) :
    (setHead n e s).resetKind = s.resetKind := rfl
@[simp] theorem setHead_resetCause (n : Quad) (e : SpurEntry) (s : State) :
    (setHead n e s).resetCause = s.resetCause := rfl
@[simp] theorem setHead_settle (n : Quad) (e : SpurEntry) (s : State) : (setHead n e s).settle = s.settle := rfl
@[simp] theorem setHead_inputs (n : Quad) (e : SpurEntry) (s : State) : (setHead n e s).inputs = s.inputs := rfl
@[simp] theorem setHead_plant (n : Quad) (e : SpurEntry) (s : State) : (setHead n e s).plant = s.plant := rfl
@[simp] theorem setHead_track (n : Quad) (e : SpurEntry) (s : State) : (setHead n e s).track = s.track := rfl
@[simp] theorem setHead_dose (n : Quad) (e : SpurEntry) (s : State) : (setHead n e s).dose = s.dose := rfl
@[simp] theorem setHead_programmes (n : Quad) (e : SpurEntry) (s : State) :
    (setHead n e s).programmes = s.programmes := rfl
@[simp] theorem setHead_stations (n : Quad) (e : SpurEntry) (s : State) :
    (setHead n e s).stations = s.stations.set n { s.stations.get n with spur := e :: (s.stations.get n).spur.tail } :=
  rfl
@[simp] theorem setHead_merge (n : Quad) (e : SpurEntry) (s : State) : (setHead n e s).merge = s.merge := rfl
@[simp] theorem setHead_directory (n : Quad) (e : SpurEntry) (s : State) :
    (setHead n e s).directory = s.directory := rfl
@[simp] theorem setHead_ret (n : Quad) (e : SpurEntry) (s : State) : (setHead n e s).ret = s.ret := rfl
@[simp] theorem setHead_interlock (n : Quad) (e : SpurEntry) (s : State) :
    (setHead n e s).interlock = s.interlock := rfl
@[simp] theorem setHead_profile (n : Quad) (e : SpurEntry) (s : State) : (setHead n e s).profile = s.profile := rfl
@[simp] theorem setHead_link (n : Quad) (e : SpurEntry) (s : State) : (setHead n e s).link = s.link := rfl

@[simp] theorem removeHead_pending (n : Quad) (s : State) : (removeHead n s).pending = s.pending := rfl
@[simp] theorem removeHead_choices (n : Quad) (s : State) : (removeHead n s).choices = s.choices := rfl
@[simp] theorem removeHead_phase (n : Quad) (s : State) : (removeHead n s).phase = s.phase := rfl
@[simp] theorem removeHead_coldLine (n : Quad) (s : State) : (removeHead n s).coldLine = s.coldLine := rfl
@[simp] theorem removeHead_warmLine (n : Quad) (s : State) : (removeHead n s).warmLine = s.warmLine := rfl
@[simp] theorem removeHead_resetKind (n : Quad) (s : State) : (removeHead n s).resetKind = s.resetKind := rfl
@[simp] theorem removeHead_resetCause (n : Quad) (s : State) : (removeHead n s).resetCause = s.resetCause := rfl
@[simp] theorem removeHead_settle (n : Quad) (s : State) : (removeHead n s).settle = s.settle := rfl
@[simp] theorem removeHead_inputs (n : Quad) (s : State) : (removeHead n s).inputs = s.inputs := rfl
@[simp] theorem removeHead_plant (n : Quad) (s : State) : (removeHead n s).plant = s.plant := rfl
@[simp] theorem removeHead_track (n : Quad) (s : State) : (removeHead n s).track = s.track := rfl
@[simp] theorem removeHead_dose (n : Quad) (s : State) : (removeHead n s).dose = s.dose := rfl
@[simp] theorem removeHead_programmes (n : Quad) (s : State) : (removeHead n s).programmes = s.programmes := rfl
@[simp] theorem removeHead_stations (n : Quad) (s : State) :
    (removeHead n s).stations = s.stations.set n { s.stations.get n with spur := (s.stations.get n).spur.tail } := rfl
@[simp] theorem removeHead_merge (n : Quad) (s : State) : (removeHead n s).merge = s.merge := rfl
@[simp] theorem removeHead_directory (n : Quad) (s : State) : (removeHead n s).directory = s.directory := rfl
@[simp] theorem removeHead_ret (n : Quad) (s : State) : (removeHead n s).ret = s.ret := rfl
@[simp] theorem removeHead_interlock (n : Quad) (s : State) : (removeHead n s).interlock = s.interlock := rfl
@[simp] theorem removeHead_profile (n : Quad) (s : State) : (removeHead n s).profile = s.profile := rfl
@[simp] theorem removeHead_link (n : Quad) (s : State) : (removeHead n s).link = s.link := rfl

@[simp] theorem setLive_pending (m : Members) (s : State) : (setLive m s).pending = s.pending := rfl
@[simp] theorem setLive_choices (m : Members) (s : State) : (setLive m s).choices = s.choices := rfl
@[simp] theorem setLive_phase (m : Members) (s : State) : (setLive m s).phase = s.phase := rfl
@[simp] theorem setLive_coldLine (m : Members) (s : State) : (setLive m s).coldLine = s.coldLine := rfl
@[simp] theorem setLive_warmLine (m : Members) (s : State) : (setLive m s).warmLine = s.warmLine := rfl
@[simp] theorem setLive_resetKind (m : Members) (s : State) : (setLive m s).resetKind = s.resetKind := rfl
@[simp] theorem setLive_resetCause (m : Members) (s : State) : (setLive m s).resetCause = s.resetCause := rfl
@[simp] theorem setLive_settle (m : Members) (s : State) : (setLive m s).settle = s.settle := rfl
@[simp] theorem setLive_inputs (m : Members) (s : State) : (setLive m s).inputs = s.inputs := rfl
@[simp] theorem setLive_plant (m : Members) (s : State) : (setLive m s).plant = s.plant := rfl
@[simp] theorem setLive_track (m : Members) (s : State) : (setLive m s).track = s.track := rfl
@[simp] theorem setLive_dose (m : Members) (s : State) : (setLive m s).dose = s.dose := rfl
@[simp] theorem setLive_programmes (m : Members) (s : State) : (setLive m s).programmes = s.programmes := rfl
@[simp] theorem setLive_stations (m : Members) (s : State) : (setLive m s).stations = s.stations := rfl
@[simp] theorem setLive_merge (m : Members) (s : State) : (setLive m s).merge = s.merge := rfl
@[simp] theorem setLive_directory (m : Members) (s : State) : (setLive m s).directory = s.directory := rfl
@[simp] theorem setLive_ret (m : Members) (s : State) : (setLive m s).ret = s.ret := rfl
@[simp] theorem setLive_interlock (m : Members) (s : State) :
    (setLive m s).interlock = { s.interlock with live := m } := rfl
@[simp] theorem setLive_profile (m : Members) (s : State) : (setLive m s).profile = s.profile := rfl
@[simp] theorem setLive_link (m : Members) (s : State) : (setLive m s).link = s.link := rfl

@[simp] theorem runDrive_pending (s : State) : (runDrive s).pending = s.pending := rfl
@[simp] theorem runDrive_choices (s : State) : (runDrive s).choices = s.choices := rfl
@[simp] theorem runDrive_phase (s : State) : (runDrive s).phase = s.phase := rfl
@[simp] theorem runDrive_coldLine (s : State) : (runDrive s).coldLine = s.coldLine := rfl
@[simp] theorem runDrive_warmLine (s : State) : (runDrive s).warmLine = s.warmLine := rfl
@[simp] theorem runDrive_resetKind (s : State) : (runDrive s).resetKind = s.resetKind := rfl
@[simp] theorem runDrive_resetCause (s : State) : (runDrive s).resetCause = s.resetCause := rfl
@[simp] theorem runDrive_settle (s : State) : (runDrive s).settle = s.settle := rfl
@[simp] theorem runDrive_inputs (s : State) : (runDrive s).inputs = s.inputs := rfl
@[simp] theorem runDrive_plant (s : State) : (runDrive s).plant = s.plant := rfl
@[simp] theorem runDrive_dose (s : State) : (runDrive s).dose = s.dose := rfl
@[simp] theorem runDrive_programmes (s : State) : (runDrive s).programmes = s.programmes := rfl
@[simp] theorem runDrive_stations (s : State) : (runDrive s).stations = s.stations := rfl
@[simp] theorem runDrive_merge (s : State) : (runDrive s).merge = s.merge := rfl
@[simp] theorem runDrive_directory (s : State) : (runDrive s).directory = s.directory := rfl
@[simp] theorem runDrive_ret (s : State) : (runDrive s).ret = s.ret := rfl
@[simp] theorem runDrive_interlock (s : State) : (runDrive s).interlock = s.interlock := rfl
@[simp] theorem runDrive_profile (s : State) : (runDrive s).profile = s.profile := rfl
@[simp] theorem runDrive_link (s : State) : (runDrive s).link = s.link := rfl

@[simp] theorem fixPeriod_pending (s : State) : (fixPeriod s).pending = s.pending := rfl
@[simp] theorem fixPeriod_choices (s : State) : (fixPeriod s).choices = s.choices := rfl
@[simp] theorem fixPeriod_phase (s : State) : (fixPeriod s).phase = s.phase := rfl
@[simp] theorem fixPeriod_coldLine (s : State) : (fixPeriod s).coldLine = s.coldLine := rfl
@[simp] theorem fixPeriod_warmLine (s : State) : (fixPeriod s).warmLine = s.warmLine := rfl
@[simp] theorem fixPeriod_resetKind (s : State) : (fixPeriod s).resetKind = s.resetKind := rfl
@[simp] theorem fixPeriod_resetCause (s : State) : (fixPeriod s).resetCause = s.resetCause := rfl
@[simp] theorem fixPeriod_settle (s : State) : (fixPeriod s).settle = s.settle := rfl
@[simp] theorem fixPeriod_inputs (s : State) : (fixPeriod s).inputs = s.inputs := rfl
@[simp] theorem fixPeriod_plant (s : State) : (fixPeriod s).plant = s.plant := rfl
@[simp] theorem fixPeriod_track (s : State) :
    (fixPeriod s).track = { s.track with period := periodOf s, stepTimer := .preset (periodOf s * 10) } := rfl
@[simp] theorem fixPeriod_dose (s : State) : (fixPeriod s).dose = s.dose := rfl
@[simp] theorem fixPeriod_programmes (s : State) : (fixPeriod s).programmes = s.programmes := rfl
@[simp] theorem fixPeriod_stations (s : State) : (fixPeriod s).stations = s.stations := rfl
@[simp] theorem fixPeriod_merge (s : State) : (fixPeriod s).merge = s.merge := rfl
@[simp] theorem fixPeriod_directory (s : State) : (fixPeriod s).directory = s.directory := rfl
@[simp] theorem fixPeriod_ret (s : State) : (fixPeriod s).ret = s.ret := rfl
@[simp] theorem fixPeriod_interlock (s : State) : (fixPeriod s).interlock = s.interlock := rfl
@[simp] theorem fixPeriod_profile (s : State) : (fixPeriod s).profile = s.profile := rfl
@[simp] theorem fixPeriod_link (s : State) : (fixPeriod s).link = s.link := rfl

@[simp] theorem endMotion_pending (s : State) : (endMotion s).pending = s.pending := rfl
@[simp] theorem endMotion_choices (s : State) : (endMotion s).choices = s.choices := rfl
@[simp] theorem endMotion_phase (s : State) : (endMotion s).phase = s.phase := rfl
@[simp] theorem endMotion_coldLine (s : State) : (endMotion s).coldLine = s.coldLine := rfl
@[simp] theorem endMotion_warmLine (s : State) : (endMotion s).warmLine = s.warmLine := rfl
@[simp] theorem endMotion_resetKind (s : State) : (endMotion s).resetKind = s.resetKind := rfl
@[simp] theorem endMotion_resetCause (s : State) : (endMotion s).resetCause = s.resetCause := rfl
@[simp] theorem endMotion_settle (s : State) : (endMotion s).settle = s.settle := rfl
@[simp] theorem endMotion_inputs (s : State) : (endMotion s).inputs = s.inputs := rfl
@[simp] theorem endMotion_plant (s : State) : (endMotion s).plant = s.plant := rfl
@[simp] theorem endMotion_track (s : State) :
    (endMotion s).track = { s.track with chainDrive := false, rewashGate := false, motionTimer := .idle, motion := .none } := rfl
@[simp] theorem endMotion_dose (s : State) : (endMotion s).dose = s.dose := rfl
@[simp] theorem endMotion_programmes (s : State) : (endMotion s).programmes = s.programmes := rfl
@[simp] theorem endMotion_stations (s : State) : (endMotion s).stations = s.stations := rfl
@[simp] theorem endMotion_merge (s : State) : (endMotion s).merge = s.merge := rfl
@[simp] theorem endMotion_directory (s : State) : (endMotion s).directory = s.directory := rfl
@[simp] theorem endMotion_ret (s : State) : (endMotion s).ret = s.ret := rfl
@[simp] theorem endMotion_interlock (s : State) : (endMotion s).interlock = s.interlock := rfl
@[simp] theorem endMotion_profile (s : State) : (endMotion s).profile = s.profile := rfl
@[simp] theorem endMotion_link (s : State) : (endMotion s).link = s.link := rfl

@[simp] theorem stopRecoveryTimers_pending (s : State) : (stopRecoveryTimers s).pending = s.pending := rfl
@[simp] theorem stopRecoveryTimers_choices (s : State) : (stopRecoveryTimers s).choices = s.choices := rfl
@[simp] theorem stopRecoveryTimers_phase (s : State) : (stopRecoveryTimers s).phase = s.phase := rfl
@[simp] theorem stopRecoveryTimers_coldLine (s : State) : (stopRecoveryTimers s).coldLine = s.coldLine := rfl
@[simp] theorem stopRecoveryTimers_warmLine (s : State) : (stopRecoveryTimers s).warmLine = s.warmLine := rfl
@[simp] theorem stopRecoveryTimers_resetKind (s : State) : (stopRecoveryTimers s).resetKind = s.resetKind := rfl
@[simp] theorem stopRecoveryTimers_resetCause (s : State) : (stopRecoveryTimers s).resetCause = s.resetCause := rfl
@[simp] theorem stopRecoveryTimers_settle (s : State) : (stopRecoveryTimers s).settle = s.settle := rfl
@[simp] theorem stopRecoveryTimers_inputs (s : State) : (stopRecoveryTimers s).inputs = s.inputs := rfl
@[simp] theorem stopRecoveryTimers_plant (s : State) : (stopRecoveryTimers s).plant = s.plant := rfl
@[simp] theorem stopRecoveryTimers_track (s : State) : (stopRecoveryTimers s).track = s.track := rfl
@[simp] theorem stopRecoveryTimers_dose (s : State) : (stopRecoveryTimers s).dose = s.dose := rfl
@[simp] theorem stopRecoveryTimers_programmes (s : State) : (stopRecoveryTimers s).programmes = s.programmes := rfl
@[simp] theorem stopRecoveryTimers_stations (s : State) : (stopRecoveryTimers s).stations = s.stations := rfl
@[simp] theorem stopRecoveryTimers_merge (s : State) : (stopRecoveryTimers s).merge = s.merge := rfl
@[simp] theorem stopRecoveryTimers_directory (s : State) : (stopRecoveryTimers s).directory = s.directory := rfl
@[simp] theorem stopRecoveryTimers_ret (s : State) : (stopRecoveryTimers s).ret = s.ret := rfl
@[simp] theorem stopRecoveryTimers_interlock (s : State) :
    (stopRecoveryTimers s).interlock = { s.interlock with recovery := .idle, limit := .idle } := rfl
@[simp] theorem stopRecoveryTimers_profile (s : State) : (stopRecoveryTimers s).profile = s.profile := rfl
@[simp] theorem stopRecoveryTimers_link (s : State) : (stopRecoveryTimers s).link = s.link := rfl

@[simp] theorem startSample_pending (s : State) : (startSample s).pending = s.pending := rfl
@[simp] theorem startSample_choices (s : State) : (startSample s).choices = s.choices := rfl
@[simp] theorem startSample_phase (s : State) : (startSample s).phase = s.phase := rfl
@[simp] theorem startSample_coldLine (s : State) : (startSample s).coldLine = s.coldLine := rfl
@[simp] theorem startSample_warmLine (s : State) : (startSample s).warmLine = s.warmLine := rfl
@[simp] theorem startSample_resetKind (s : State) : (startSample s).resetKind = s.resetKind := rfl
@[simp] theorem startSample_resetCause (s : State) : (startSample s).resetCause = s.resetCause := rfl
@[simp] theorem startSample_settle (s : State) : (startSample s).settle = s.settle := rfl
@[simp] theorem startSample_inputs (s : State) : (startSample s).inputs = s.inputs := rfl
@[simp] theorem startSample_plant (s : State) : (startSample s).plant = s.plant := rfl
@[simp] theorem startSample_track (s : State) : (startSample s).track = s.track := rfl
@[simp] theorem startSample_programmes (s : State) : (startSample s).programmes = s.programmes := rfl
@[simp] theorem startSample_stations (s : State) : (startSample s).stations = s.stations := rfl
@[simp] theorem startSample_merge (s : State) : (startSample s).merge = s.merge := rfl
@[simp] theorem startSample_directory (s : State) : (startSample s).directory = s.directory := rfl
@[simp] theorem startSample_ret (s : State) : (startSample s).ret = s.ret := rfl
@[simp] theorem startSample_interlock (s : State) : (startSample s).interlock = s.interlock := rfl
@[simp] theorem startSample_profile (s : State) : (startSample s).profile = s.profile := rfl
@[simp] theorem startSample_link (s : State) : (startSample s).link = s.link := rfl

@[simp] theorem makeGrant_pending (g : Grant) (s : State) : (makeGrant g s).pending = s.pending := rfl
@[simp] theorem makeGrant_choices (g : Grant) (s : State) : (makeGrant g s).choices = s.choices := rfl
@[simp] theorem makeGrant_phase (g : Grant) (s : State) : (makeGrant g s).phase = s.phase := rfl
@[simp] theorem makeGrant_coldLine (g : Grant) (s : State) : (makeGrant g s).coldLine = s.coldLine := rfl
@[simp] theorem makeGrant_warmLine (g : Grant) (s : State) : (makeGrant g s).warmLine = s.warmLine := rfl
@[simp] theorem makeGrant_resetKind (g : Grant) (s : State) : (makeGrant g s).resetKind = s.resetKind := rfl
@[simp] theorem makeGrant_resetCause (g : Grant) (s : State) : (makeGrant g s).resetCause = s.resetCause := rfl
@[simp] theorem makeGrant_settle (g : Grant) (s : State) : (makeGrant g s).settle = s.settle := rfl
@[simp] theorem makeGrant_inputs (g : Grant) (s : State) : (makeGrant g s).inputs = s.inputs := rfl
@[simp] theorem makeGrant_plant (g : Grant) (s : State) : (makeGrant g s).plant = s.plant := rfl
@[simp] theorem makeGrant_dose (g : Grant) (s : State) : (makeGrant g s).dose = s.dose := rfl
@[simp] theorem makeGrant_programmes (g : Grant) (s : State) : (makeGrant g s).programmes = s.programmes := rfl
@[simp] theorem makeGrant_stations (g : Grant) (s : State) : (makeGrant g s).stations = s.stations := rfl
@[simp] theorem makeGrant_directory (g : Grant) (s : State) : (makeGrant g s).directory = s.directory := rfl
@[simp] theorem makeGrant_ret (g : Grant) (s : State) : (makeGrant g s).ret = s.ret := rfl
@[simp] theorem makeGrant_interlock (g : Grant) (s : State) : (makeGrant g s).interlock = s.interlock := rfl
@[simp] theorem makeGrant_profile (g : Grant) (s : State) : (makeGrant g s).profile = s.profile := rfl
@[simp] theorem makeGrant_link (g : Grant) (s : State) : (makeGrant g s).link = s.link := rfl

@[simp] theorem stopPusher_pending (s : State) : (stopPusher s).pending = s.pending := rfl
@[simp] theorem stopPusher_choices (s : State) : (stopPusher s).choices = s.choices := rfl
@[simp] theorem stopPusher_phase (s : State) : (stopPusher s).phase = s.phase := rfl
@[simp] theorem stopPusher_coldLine (s : State) : (stopPusher s).coldLine = s.coldLine := rfl
@[simp] theorem stopPusher_warmLine (s : State) : (stopPusher s).warmLine = s.warmLine := rfl
@[simp] theorem stopPusher_resetKind (s : State) : (stopPusher s).resetKind = s.resetKind := rfl
@[simp] theorem stopPusher_resetCause (s : State) : (stopPusher s).resetCause = s.resetCause := rfl
@[simp] theorem stopPusher_settle (s : State) : (stopPusher s).settle = s.settle := rfl
@[simp] theorem stopPusher_inputs (s : State) : (stopPusher s).inputs = s.inputs := rfl
@[simp] theorem stopPusher_plant (s : State) : (stopPusher s).plant = s.plant := rfl
@[simp] theorem stopPusher_track (s : State) : (stopPusher s).track = s.track := rfl
@[simp] theorem stopPusher_dose (s : State) : (stopPusher s).dose = s.dose := rfl
@[simp] theorem stopPusher_programmes (s : State) : (stopPusher s).programmes = s.programmes := rfl
@[simp] theorem stopPusher_stations (s : State) : (stopPusher s).stations = s.stations := rfl
@[simp] theorem stopPusher_merge (s : State) :
    (stopPusher s).merge = { s.merge with pusher := none, timer := .idle } := rfl
@[simp] theorem stopPusher_directory (s : State) : (stopPusher s).directory = s.directory := rfl
@[simp] theorem stopPusher_ret (s : State) : (stopPusher s).ret = s.ret := rfl
@[simp] theorem stopPusher_interlock (s : State) : (stopPusher s).interlock = s.interlock := rfl
@[simp] theorem stopPusher_profile (s : State) : (stopPusher s).profile = s.profile := rfl
@[simp] theorem stopPusher_link (s : State) : (stopPusher s).link = s.link := rfl

@[simp] theorem mergeIdle_pending (s : State) : (mergeIdle s).pending = s.pending := rfl
@[simp] theorem mergeIdle_choices (s : State) : (mergeIdle s).choices = s.choices := rfl
@[simp] theorem mergeIdle_phase (s : State) : (mergeIdle s).phase = s.phase := rfl
@[simp] theorem mergeIdle_coldLine (s : State) : (mergeIdle s).coldLine = s.coldLine := rfl
@[simp] theorem mergeIdle_warmLine (s : State) : (mergeIdle s).warmLine = s.warmLine := rfl
@[simp] theorem mergeIdle_resetKind (s : State) : (mergeIdle s).resetKind = s.resetKind := rfl
@[simp] theorem mergeIdle_resetCause (s : State) : (mergeIdle s).resetCause = s.resetCause := rfl
@[simp] theorem mergeIdle_settle (s : State) : (mergeIdle s).settle = s.settle := rfl
@[simp] theorem mergeIdle_inputs (s : State) : (mergeIdle s).inputs = s.inputs := rfl
@[simp] theorem mergeIdle_plant (s : State) : (mergeIdle s).plant = s.plant := rfl
@[simp] theorem mergeIdle_track (s : State) : (mergeIdle s).track = s.track := rfl
@[simp] theorem mergeIdle_dose (s : State) : (mergeIdle s).dose = s.dose := rfl
@[simp] theorem mergeIdle_programmes (s : State) : (mergeIdle s).programmes = s.programmes := rfl
@[simp] theorem mergeIdle_stations (s : State) : (mergeIdle s).stations = s.stations := rfl
@[simp] theorem mergeIdle_merge (s : State) :
    (mergeIdle s).merge = { s.merge with state := .idle, grant := none } := rfl
@[simp] theorem mergeIdle_directory (s : State) : (mergeIdle s).directory = s.directory := rfl
@[simp] theorem mergeIdle_ret (s : State) : (mergeIdle s).ret = s.ret := rfl
@[simp] theorem mergeIdle_interlock (s : State) : (mergeIdle s).interlock = s.interlock := rfl
@[simp] theorem mergeIdle_profile (s : State) : (mergeIdle s).profile = s.profile := rfl
@[simp] theorem mergeIdle_link (s : State) : (mergeIdle s).link = s.link := rfl

@[simp] theorem emptyTags_pending (s : State) : (emptyTags s).pending = s.pending := rfl
@[simp] theorem emptyTags_choices (s : State) : (emptyTags s).choices = s.choices := rfl
@[simp] theorem emptyTags_phase (s : State) : (emptyTags s).phase = s.phase := rfl
@[simp] theorem emptyTags_coldLine (s : State) : (emptyTags s).coldLine = s.coldLine := rfl
@[simp] theorem emptyTags_warmLine (s : State) : (emptyTags s).warmLine = s.warmLine := rfl
@[simp] theorem emptyTags_resetKind (s : State) : (emptyTags s).resetKind = s.resetKind := rfl
@[simp] theorem emptyTags_resetCause (s : State) : (emptyTags s).resetCause = s.resetCause := rfl
@[simp] theorem emptyTags_settle (s : State) : (emptyTags s).settle = s.settle := rfl
@[simp] theorem emptyTags_inputs (s : State) : (emptyTags s).inputs = s.inputs := rfl
@[simp] theorem emptyTags_plant (s : State) : (emptyTags s).plant = s.plant := rfl
@[simp] theorem emptyTags_track (s : State) : (emptyTags s).track = s.track := rfl
@[simp] theorem emptyTags_dose (s : State) : (emptyTags s).dose = s.dose := rfl
@[simp] theorem emptyTags_programmes (s : State) : (emptyTags s).programmes = s.programmes := rfl
@[simp] theorem emptyTags_stations (s : State) : (emptyTags s).stations = s.stations := rfl
@[simp] theorem emptyTags_merge (s : State) :
    (emptyTags s).merge = { s.merge with tags := [], overrun := false } := rfl
@[simp] theorem emptyTags_directory (s : State) : (emptyTags s).directory = s.directory := rfl
@[simp] theorem emptyTags_ret (s : State) : (emptyTags s).ret = s.ret := rfl
@[simp] theorem emptyTags_interlock (s : State) : (emptyTags s).interlock = s.interlock := rfl
@[simp] theorem emptyTags_profile (s : State) : (emptyTags s).profile = s.profile := rfl
@[simp] theorem emptyTags_link (s : State) : (emptyTags s).link = s.link := rfl

@[simp] theorem leaveTransit_pending (s : State) : (leaveTransit s).pending = s.pending := rfl
@[simp] theorem leaveTransit_choices (s : State) : (leaveTransit s).choices = s.choices := rfl
@[simp] theorem leaveTransit_phase (s : State) : (leaveTransit s).phase = s.phase := rfl
@[simp] theorem leaveTransit_coldLine (s : State) : (leaveTransit s).coldLine = s.coldLine := rfl
@[simp] theorem leaveTransit_warmLine (s : State) : (leaveTransit s).warmLine = s.warmLine := rfl
@[simp] theorem leaveTransit_resetKind (s : State) : (leaveTransit s).resetKind = s.resetKind := rfl
@[simp] theorem leaveTransit_resetCause (s : State) : (leaveTransit s).resetCause = s.resetCause := rfl
@[simp] theorem leaveTransit_settle (s : State) : (leaveTransit s).settle = s.settle := rfl
@[simp] theorem leaveTransit_inputs (s : State) : (leaveTransit s).inputs = s.inputs := rfl
@[simp] theorem leaveTransit_plant (s : State) : (leaveTransit s).plant = s.plant := rfl
@[simp] theorem leaveTransit_track (s : State) : (leaveTransit s).track = s.track := rfl
@[simp] theorem leaveTransit_dose (s : State) : (leaveTransit s).dose = s.dose := rfl
@[simp] theorem leaveTransit_programmes (s : State) : (leaveTransit s).programmes = s.programmes := rfl
@[simp] theorem leaveTransit_stations (s : State) : (leaveTransit s).stations = s.stations := rfl
@[simp] theorem leaveTransit_merge (s : State) : (leaveTransit s).merge = s.merge := rfl
@[simp] theorem leaveTransit_directory (s : State) : (leaveTransit s).directory = s.directory := rfl
@[simp] theorem leaveTransit_ret (s : State) :
    (leaveTransit s).ret = { s.ret with transit := s.ret.transit.tail, spacing := .preset Config.spacingTime, held := false } := rfl
@[simp] theorem leaveTransit_interlock (s : State) : (leaveTransit s).interlock = s.interlock := rfl
@[simp] theorem leaveTransit_profile (s : State) : (leaveTransit s).profile = s.profile := rfl
@[simp] theorem leaveTransit_link (s : State) : (leaveTransit s).link = s.link := rfl

@[simp] theorem returnOpening_pending (s : State) : (returnOpening s).pending = s.pending := rfl
@[simp] theorem returnOpening_choices (s : State) : (returnOpening s).choices = s.choices := rfl
@[simp] theorem returnOpening_phase (s : State) : (returnOpening s).phase = s.phase := rfl
@[simp] theorem returnOpening_coldLine (s : State) : (returnOpening s).coldLine = s.coldLine := rfl
@[simp] theorem returnOpening_warmLine (s : State) : (returnOpening s).warmLine = s.warmLine := rfl
@[simp] theorem returnOpening_resetKind (s : State) : (returnOpening s).resetKind = s.resetKind := rfl
@[simp] theorem returnOpening_resetCause (s : State) : (returnOpening s).resetCause = s.resetCause := rfl
@[simp] theorem returnOpening_settle (s : State) : (returnOpening s).settle = s.settle := rfl
@[simp] theorem returnOpening_inputs (s : State) : (returnOpening s).inputs = s.inputs := rfl
@[simp] theorem returnOpening_plant (s : State) : (returnOpening s).plant = s.plant := rfl
@[simp] theorem returnOpening_track (s : State) : (returnOpening s).track = s.track := rfl
@[simp] theorem returnOpening_dose (s : State) : (returnOpening s).dose = s.dose := rfl
@[simp] theorem returnOpening_programmes (s : State) : (returnOpening s).programmes = s.programmes := rfl
@[simp] theorem returnOpening_stations (s : State) : (returnOpening s).stations = s.stations := rfl
@[simp] theorem returnOpening_merge (s : State) : (returnOpening s).merge = s.merge := rfl
@[simp] theorem returnOpening_directory (s : State) : (returnOpening s).directory = s.directory := rfl
@[simp] theorem returnOpening_ret (s : State) : (returnOpening s).ret = { s.ret with conveyor := false } := rfl
@[simp] theorem returnOpening_interlock (s : State) : (returnOpening s).interlock = s.interlock := rfl
@[simp] theorem returnOpening_profile (s : State) : (returnOpening s).profile = s.profile := rfl
@[simp] theorem returnOpening_link (s : State) : (returnOpening s).link = s.link := rfl

@[simp] theorem countFraming_pending (s : State) : (countFraming s).pending = s.pending := rfl
@[simp] theorem countFraming_choices (s : State) : (countFraming s).choices = s.choices := rfl
@[simp] theorem countFraming_phase (s : State) : (countFraming s).phase = s.phase := rfl
@[simp] theorem countFraming_coldLine (s : State) : (countFraming s).coldLine = s.coldLine := rfl
@[simp] theorem countFraming_warmLine (s : State) : (countFraming s).warmLine = s.warmLine := rfl
@[simp] theorem countFraming_resetKind (s : State) : (countFraming s).resetKind = s.resetKind := rfl
@[simp] theorem countFraming_resetCause (s : State) : (countFraming s).resetCause = s.resetCause := rfl
@[simp] theorem countFraming_settle (s : State) : (countFraming s).settle = s.settle := rfl
@[simp] theorem countFraming_inputs (s : State) : (countFraming s).inputs = s.inputs := rfl
@[simp] theorem countFraming_plant (s : State) : (countFraming s).plant = s.plant := rfl
@[simp] theorem countFraming_track (s : State) : (countFraming s).track = s.track := rfl
@[simp] theorem countFraming_dose (s : State) : (countFraming s).dose = s.dose := rfl
@[simp] theorem countFraming_programmes (s : State) : (countFraming s).programmes = s.programmes := rfl
@[simp] theorem countFraming_stations (s : State) : (countFraming s).stations = s.stations := rfl
@[simp] theorem countFraming_merge (s : State) : (countFraming s).merge = s.merge := rfl
@[simp] theorem countFraming_directory (s : State) : (countFraming s).directory = s.directory := rfl
@[simp] theorem countFraming_ret (s : State) : (countFraming s).ret = s.ret := rfl
@[simp] theorem countFraming_interlock (s : State) : (countFraming s).interlock = s.interlock := rfl
@[simp] theorem countFraming_profile (s : State) : (countFraming s).profile = s.profile := rfl
@[simp] theorem countFraming_link (s : State) :
    (countFraming s).link = { s.link with framingErrors := satAdd 65535 s.link.framingErrors 1 } := rfl

@[simp] theorem countCrc_pending (s : State) : (countCrc s).pending = s.pending := rfl
@[simp] theorem countCrc_choices (s : State) : (countCrc s).choices = s.choices := rfl
@[simp] theorem countCrc_phase (s : State) : (countCrc s).phase = s.phase := rfl
@[simp] theorem countCrc_coldLine (s : State) : (countCrc s).coldLine = s.coldLine := rfl
@[simp] theorem countCrc_warmLine (s : State) : (countCrc s).warmLine = s.warmLine := rfl
@[simp] theorem countCrc_resetKind (s : State) : (countCrc s).resetKind = s.resetKind := rfl
@[simp] theorem countCrc_resetCause (s : State) : (countCrc s).resetCause = s.resetCause := rfl
@[simp] theorem countCrc_settle (s : State) : (countCrc s).settle = s.settle := rfl
@[simp] theorem countCrc_inputs (s : State) : (countCrc s).inputs = s.inputs := rfl
@[simp] theorem countCrc_plant (s : State) : (countCrc s).plant = s.plant := rfl
@[simp] theorem countCrc_track (s : State) : (countCrc s).track = s.track := rfl
@[simp] theorem countCrc_dose (s : State) : (countCrc s).dose = s.dose := rfl
@[simp] theorem countCrc_programmes (s : State) : (countCrc s).programmes = s.programmes := rfl
@[simp] theorem countCrc_stations (s : State) : (countCrc s).stations = s.stations := rfl
@[simp] theorem countCrc_merge (s : State) : (countCrc s).merge = s.merge := rfl
@[simp] theorem countCrc_directory (s : State) : (countCrc s).directory = s.directory := rfl
@[simp] theorem countCrc_ret (s : State) : (countCrc s).ret = s.ret := rfl
@[simp] theorem countCrc_interlock (s : State) : (countCrc s).interlock = s.interlock := rfl
@[simp] theorem countCrc_profile (s : State) : (countCrc s).profile = s.profile := rfl
@[simp] theorem countCrc_link (s : State) :
    (countCrc s).link = { s.link with crcErrors := satAdd 65535 s.link.crcErrors 1 } := rfl

@[simp] theorem setAssembly_pending (a : List Byte) (s : State) : (setAssembly a s).pending = s.pending := rfl
@[simp] theorem setAssembly_choices (a : List Byte) (s : State) : (setAssembly a s).choices = s.choices := rfl
@[simp] theorem setAssembly_phase (a : List Byte) (s : State) : (setAssembly a s).phase = s.phase := rfl
@[simp] theorem setAssembly_coldLine (a : List Byte) (s : State) : (setAssembly a s).coldLine = s.coldLine := rfl
@[simp] theorem setAssembly_warmLine (a : List Byte) (s : State) : (setAssembly a s).warmLine = s.warmLine := rfl
@[simp] theorem setAssembly_resetKind (a : List Byte) (s : State) : (setAssembly a s).resetKind = s.resetKind := rfl
@[simp] theorem setAssembly_resetCause (a : List Byte) (s : State) :
    (setAssembly a s).resetCause = s.resetCause := rfl
@[simp] theorem setAssembly_settle (a : List Byte) (s : State) : (setAssembly a s).settle = s.settle := rfl
@[simp] theorem setAssembly_inputs (a : List Byte) (s : State) : (setAssembly a s).inputs = s.inputs := rfl
@[simp] theorem setAssembly_plant (a : List Byte) (s : State) : (setAssembly a s).plant = s.plant := rfl
@[simp] theorem setAssembly_track (a : List Byte) (s : State) : (setAssembly a s).track = s.track := rfl
@[simp] theorem setAssembly_dose (a : List Byte) (s : State) : (setAssembly a s).dose = s.dose := rfl
@[simp] theorem setAssembly_programmes (a : List Byte) (s : State) :
    (setAssembly a s).programmes = s.programmes := rfl
@[simp] theorem setAssembly_stations (a : List Byte) (s : State) : (setAssembly a s).stations = s.stations := rfl
@[simp] theorem setAssembly_merge (a : List Byte) (s : State) : (setAssembly a s).merge = s.merge := rfl
@[simp] theorem setAssembly_directory (a : List Byte) (s : State) : (setAssembly a s).directory = s.directory := rfl
@[simp] theorem setAssembly_ret (a : List Byte) (s : State) : (setAssembly a s).ret = s.ret := rfl
@[simp] theorem setAssembly_interlock (a : List Byte) (s : State) : (setAssembly a s).interlock = s.interlock := rfl
@[simp] theorem setAssembly_profile (a : List Byte) (s : State) : (setAssembly a s).profile = s.profile := rfl
@[simp] theorem setAssembly_link (a : List Byte) (s : State) :
    (setAssembly a s).link = { s.link with assembly := a } := rfl

end Sys2Proof.Machine
end

