-- ==== Sys2Proof/Laws/Frames.lean ====
section
/-! SUPPORT. Frames: for each shared operation one fact that says which fields of the state it leaves as they were, and for
the operations that reach the link through notices only, which of the link's own fields. -/

namespace Sys2Proof.Machine
open Sys2Proof

@[simp] theorem enqueue_frame (n : Notice) (s : State) :
    (enqueue n s).pending = s.pending ∧ (enqueue n s).choices = s.choices ∧ (enqueue n s).phase = s.phase ∧
    (enqueue n s).coldLine = s.coldLine ∧ (enqueue n s).warmLine = s.warmLine ∧
    (enqueue n s).resetKind = s.resetKind ∧ (enqueue n s).resetCause = s.resetCause ∧
    (enqueue n s).settle = s.settle ∧ (enqueue n s).inputs = s.inputs ∧ (enqueue n s).plant = s.plant ∧
    (enqueue n s).track = s.track ∧ (enqueue n s).dose = s.dose ∧ (enqueue n s).programmes = s.programmes ∧
    (enqueue n s).stations = s.stations ∧ (enqueue n s).merge = s.merge ∧ (enqueue n s).directory = s.directory ∧
    (enqueue n s).ret = s.ret ∧ (enqueue n s).interlock = s.interlock ∧ (enqueue n s).profile = s.profile ∧
    (enqueue n s).link.assembly = s.link.assembly ∧ (enqueue n s).link.gap = s.link.gap ∧
    (enqueue n s).link.buffer = s.link.buffer ∧ (enqueue n s).link.reply = s.link.reply ∧
    (enqueue n s).link.transmitter = s.link.transmitter ∧ (enqueue n s).link.crcErrors = s.link.crcErrors ∧
    (enqueue n s).link.framingErrors = s.link.framingErrors ∧ (enqueue n s).link.overflows = s.link.overflows ∧
    (enqueue n s).link.mask = s.link.mask := by
  unfold enqueue
  try dsimp only
  (repeat' split) <;> simp

@[simp] theorem enqueueAll_frame (ns : List Notice) (s : State) :
    (enqueueAll ns s).pending = s.pending ∧ (enqueueAll ns s).choices = s.choices ∧
    (enqueueAll ns s).phase = s.phase ∧ (enqueueAll ns s).coldLine = s.coldLine ∧
    (enqueueAll ns s).warmLine = s.warmLine ∧ (enqueueAll ns s).resetKind = s.resetKind ∧
    (enqueueAll ns s).resetCause = s.resetCause ∧ (enqueueAll ns s).settle = s.settle ∧
    (enqueueAll ns s).inputs = s.inputs ∧ (enqueueAll ns s).plant = s.plant ∧ (enqueueAll ns s).track = s.track ∧
    (enqueueAll ns s).dose = s.dose ∧ (enqueueAll ns s).programmes = s.programmes ∧
    (enqueueAll ns s).stations = s.stations ∧ (enqueueAll ns s).merge = s.merge ∧
    (enqueueAll ns s).directory = s.directory ∧ (enqueueAll ns s).ret = s.ret ∧
    (enqueueAll ns s).interlock = s.interlock ∧ (enqueueAll ns s).profile = s.profile ∧
    (enqueueAll ns s).link.assembly = s.link.assembly ∧ (enqueueAll ns s).link.gap = s.link.gap ∧
    (enqueueAll ns s).link.buffer = s.link.buffer ∧ (enqueueAll ns s).link.reply = s.link.reply ∧
    (enqueueAll ns s).link.transmitter = s.link.transmitter ∧ (enqueueAll ns s).link.crcErrors = s.link.crcErrors ∧
    (enqueueAll ns s).link.framingErrors = s.link.framingErrors ∧
    (enqueueAll ns s).link.overflows = s.link.overflows ∧ (enqueueAll ns s).link.mask = s.link.mask := by
  unfold enqueueAll
  induction ns generalizing s with
  | nil => simp
  | cons n ns ih => simp [ih]

@[simp] theorem enqueueInterlock_frame (n : Notice) (s : State) :
    (enqueueInterlock n s).pending = s.pending ∧ (enqueueInterlock n s).choices = s.choices ∧
    (enqueueInterlock n s).phase = s.phase ∧ (enqueueInterlock n s).coldLine = s.coldLine ∧
    (enqueueInterlock n s).warmLine = s.warmLine ∧ (enqueueInterlock n s).resetKind = s.resetKind ∧
    (enqueueInterlock n s).resetCause = s.resetCause ∧ (enqueueInterlock n s).settle = s.settle ∧
    (enqueueInterlock n s).inputs = s.inputs ∧ (enqueueInterlock n s).plant = s.plant ∧
    (enqueueInterlock n s).track = s.track ∧ (enqueueInterlock n s).dose = s.dose ∧
    (enqueueInterlock n s).programmes = s.programmes ∧ (enqueueInterlock n s).stations = s.stations ∧
    (enqueueInterlock n s).merge = s.merge ∧ (enqueueInterlock n s).directory = s.directory ∧
    (enqueueInterlock n s).ret = s.ret ∧ (enqueueInterlock n s).interlock = s.interlock ∧
    (enqueueInterlock n s).profile = s.profile ∧ (enqueueInterlock n s).link.assembly = s.link.assembly ∧
    (enqueueInterlock n s).link.gap = s.link.gap ∧ (enqueueInterlock n s).link.buffer = s.link.buffer ∧
    (enqueueInterlock n s).link.reply = s.link.reply ∧ (enqueueInterlock n s).link.transmitter = s.link.transmitter ∧
    (enqueueInterlock n s).link.crcErrors = s.link.crcErrors ∧
    (enqueueInterlock n s).link.framingErrors = s.link.framingErrors ∧
    (enqueueInterlock n s).link.overflows = s.link.overflows ∧ (enqueueInterlock n s).link.mask = s.link.mask := by
  unfold enqueueInterlock
  try dsimp only
  (repeat' split) <;> simp

@[simp] theorem enterState_frame (st : TrackState) (s : State) :
    (enterState st s).pending = s.pending ∧ (enterState st s).choices = s.choices ∧
    (enterState st s).phase = s.phase ∧ (enterState st s).coldLine = s.coldLine ∧
    (enterState st s).warmLine = s.warmLine ∧ (enterState st s).resetKind = s.resetKind ∧
    (enterState st s).resetCause = s.resetCause ∧ (enterState st s).settle = s.settle ∧
    (enterState st s).inputs = s.inputs ∧ (enterState st s).plant = s.plant ∧ (enterState st s).dose = s.dose ∧
    (enterState st s).programmes = s.programmes ∧ (enterState st s).stations = s.stations ∧
    (enterState st s).merge = s.merge ∧ (enterState st s).directory = s.directory ∧ (enterState st s).ret = s.ret ∧
    (enterState st s).interlock = s.interlock ∧ (enterState st s).profile = s.profile ∧
    (enterState st s).link.assembly = s.link.assembly ∧ (enterState st s).link.gap = s.link.gap ∧
    (enterState st s).link.buffer = s.link.buffer ∧ (enterState st s).link.reply = s.link.reply ∧
    (enterState st s).link.transmitter = s.link.transmitter ∧ (enterState st s).link.crcErrors = s.link.crcErrors ∧
    (enterState st s).link.framingErrors = s.link.framingErrors ∧
    (enterState st s).link.overflows = s.link.overflows ∧ (enterState st s).link.mask = s.link.mask := by
  unfold enterState
  try dsimp only
  (repeat' split) <;> simp

@[simp] theorem latch_frame (c : LatchCause) (s : State) :
    (latch c s).pending = s.pending ∧ (latch c s).choices = s.choices ∧ (latch c s).phase = s.phase ∧
    (latch c s).coldLine = s.coldLine ∧ (latch c s).warmLine = s.warmLine ∧ (latch c s).resetKind = s.resetKind ∧
    (latch c s).resetCause = s.resetCause ∧ (latch c s).settle = s.settle ∧ (latch c s).inputs = s.inputs ∧
    (latch c s).plant = s.plant ∧ (latch c s).track = s.track ∧ (latch c s).dose = s.dose ∧
    (latch c s).programmes = s.programmes ∧ (latch c s).stations = s.stations ∧ (latch c s).merge = s.merge ∧
    (latch c s).directory = s.directory ∧ (latch c s).ret = s.ret ∧ (latch c s).profile = s.profile ∧
    (latch c s).link.assembly = s.link.assembly ∧ (latch c s).link.gap = s.link.gap ∧
    (latch c s).link.buffer = s.link.buffer ∧ (latch c s).link.reply = s.link.reply ∧
    (latch c s).link.transmitter = s.link.transmitter ∧ (latch c s).link.crcErrors = s.link.crcErrors ∧
    (latch c s).link.framingErrors = s.link.framingErrors ∧ (latch c s).link.overflows = s.link.overflows ∧
    (latch c s).link.mask = s.link.mask := by
  unfold latch
  simp

@[simp] theorem reportChange_frame (s : State) :
    (reportChange s).pending = s.pending ∧ (reportChange s).choices = s.choices ∧ (reportChange s).phase = s.phase ∧
    (reportChange s).coldLine = s.coldLine ∧ (reportChange s).warmLine = s.warmLine ∧
    (reportChange s).resetKind = s.resetKind ∧ (reportChange s).resetCause = s.resetCause ∧
    (reportChange s).settle = s.settle ∧ (reportChange s).inputs = s.inputs ∧ (reportChange s).plant = s.plant ∧
    (reportChange s).track = s.track ∧ (reportChange s).dose = s.dose ∧ (reportChange s).programmes = s.programmes ∧
    (reportChange s).stations = s.stations ∧ (reportChange s).merge = s.merge ∧
    (reportChange s).directory = s.directory ∧ (reportChange s).ret = s.ret ∧ (reportChange s).profile = s.profile ∧
    (reportChange s).link.assembly = s.link.assembly ∧ (reportChange s).link.gap = s.link.gap ∧
    (reportChange s).link.buffer = s.link.buffer ∧ (reportChange s).link.reply = s.link.reply ∧
    (reportChange s).link.transmitter = s.link.transmitter ∧ (reportChange s).link.crcErrors = s.link.crcErrors ∧
    (reportChange s).link.framingErrors = s.link.framingErrors ∧ (reportChange s).link.overflows = s.link.overflows ∧
    (reportChange s).link.mask = s.link.mask := by
  unfold reportChange
  try dsimp only
  (repeat' split) <;> simp

@[simp] theorem setJam_frame (v : Bool) (s : State) :
    (setJam v s).pending = s.pending ∧ (setJam v s).choices = s.choices ∧ (setJam v s).phase = s.phase ∧
    (setJam v s).coldLine = s.coldLine ∧ (setJam v s).warmLine = s.warmLine ∧ (setJam v s).resetKind = s.resetKind ∧
    (setJam v s).resetCause = s.resetCause ∧ (setJam v s).settle = s.settle ∧ (setJam v s).inputs = s.inputs ∧
    (setJam v s).plant = s.plant ∧ (setJam v s).track = s.track ∧ (setJam v s).dose = s.dose ∧
    (setJam v s).programmes = s.programmes ∧ (setJam v s).stations = s.stations ∧ (setJam v s).merge = s.merge ∧
    (setJam v s).directory = s.directory ∧ (setJam v s).ret = s.ret ∧ (setJam v s).profile = s.profile ∧
    (setJam v s).link.assembly = s.link.assembly ∧ (setJam v s).link.gap = s.link.gap ∧
    (setJam v s).link.buffer = s.link.buffer ∧ (setJam v s).link.reply = s.link.reply ∧
    (setJam v s).link.transmitter = s.link.transmitter ∧ (setJam v s).link.crcErrors = s.link.crcErrors ∧
    (setJam v s).link.framingErrors = s.link.framingErrors ∧ (setJam v s).link.overflows = s.link.overflows ∧
    (setJam v s).link.mask = s.link.mask := by
  unfold setJam
  try dsimp only
  (repeat' split) <;> simp

@[simp] theorem updateEntry_frame (id : RackId) (f : DirEntry → DirEntry) (s : State) :
    (updateEntry id f s).pending = s.pending ∧ (updateEntry id f s).choices = s.choices ∧
    (updateEntry id f s).phase = s.phase ∧ (updateEntry id f s).coldLine = s.coldLine ∧
    (updateEntry id f s).warmLine = s.warmLine ∧ (updateEntry id f s).resetKind = s.resetKind ∧
    (updateEntry id f s).resetCause = s.resetCause ∧ (updateEntry id f s).settle = s.settle ∧
    (updateEntry id f s).inputs = s.inputs ∧ (updateEntry id f s).plant = s.plant ∧
    (updateEntry id f s).track = s.track ∧ (updateEntry id f s).dose = s.dose ∧
    (updateEntry id f s).programmes = s.programmes ∧ (updateEntry id f s).stations = s.stations ∧
    (updateEntry id f s).merge = s.merge ∧ (updateEntry id f s).ret = s.ret ∧
    (updateEntry id f s).interlock = s.interlock ∧ (updateEntry id f s).profile = s.profile ∧
    (updateEntry id f s).link = s.link := by
  unfold updateEntry
  try dsimp only
  (repeat' split) <;> simp

@[simp] theorem sendLocation_frame (id : RackId) (l : Location) (s : State) :
    (sendLocation id l s).pending = s.pending ∧ (sendLocation id l s).choices = s.choices ∧
    (sendLocation id l s).phase = s.phase ∧ (sendLocation id l s).coldLine = s.coldLine ∧
    (sendLocation id l s).warmLine = s.warmLine ∧ (sendLocation id l s).resetKind = s.resetKind ∧
    (sendLocation id l s).resetCause = s.resetCause ∧ (sendLocation id l s).settle = s.settle ∧
    (sendLocation id l s).inputs = s.inputs ∧ (sendLocation id l s).plant = s.plant ∧
    (sendLocation id l s).track = s.track ∧ (sendLocation id l s).dose = s.dose ∧
    (sendLocation id l s).programmes = s.programmes ∧ (sendLocation id l s).stations = s.stations ∧
    (sendLocation id l s).merge = s.merge ∧ (sendLocation id l s).ret = s.ret ∧
    (sendLocation id l s).interlock = s.interlock ∧ (sendLocation id l s).profile = s.profile ∧
    (sendLocation id l s).link = s.link := by
  unfold sendLocation
  simp

@[simp] theorem sendUnpin_frame (id : RackId) (l : Location) (s : State) :
    (sendUnpin id l s).pending = s.pending ∧ (sendUnpin id l s).choices = s.choices ∧
    (sendUnpin id l s).phase = s.phase ∧ (sendUnpin id l s).coldLine = s.coldLine ∧
    (sendUnpin id l s).warmLine = s.warmLine ∧ (sendUnpin id l s).resetKind = s.resetKind ∧
    (sendUnpin id l s).resetCause = s.resetCause ∧ (sendUnpin id l s).settle = s.settle ∧
    (sendUnpin id l s).inputs = s.inputs ∧ (sendUnpin id l s).plant = s.plant ∧ (sendUnpin id l s).track = s.track ∧
    (sendUnpin id l s).dose = s.dose ∧ (sendUnpin id l s).programmes = s.programmes ∧
    (sendUnpin id l s).stations = s.stations ∧ (sendUnpin id l s).merge = s.merge ∧ (sendUnpin id l s).ret = s.ret ∧
    (sendUnpin id l s).interlock = s.interlock ∧ (sendUnpin id l s).profile = s.profile ∧
    (sendUnpin id l s).link = s.link := by
  unfold sendUnpin
  simp

@[simp] theorem sendKind_frame (id : RackId) (k : Kind) (s : State) :
    (sendKind id k s).pending = s.pending ∧ (sendKind id k s).choices = s.choices ∧
    (sendKind id k s).phase = s.phase ∧ (sendKind id k s).coldLine = s.coldLine ∧
    (sendKind id k s).warmLine = s.warmLine ∧ (sendKind id k s).resetKind = s.resetKind ∧
    (sendKind id k s).resetCause = s.resetCause ∧ (sendKind id k s).settle = s.settle ∧
    (sendKind id k s).inputs = s.inputs ∧ (sendKind id k s).plant = s.plant ∧ (sendKind id k s).track = s.track ∧
    (sendKind id k s).dose = s.dose ∧ (sendKind id k s).programmes = s.programmes ∧
    (sendKind id k s).stations = s.stations ∧ (sendKind id k s).merge = s.merge ∧ (sendKind id k s).ret = s.ret ∧
    (sendKind id k s).interlock = s.interlock ∧ (sendKind id k s).profile = s.profile ∧
    (sendKind id k s).link = s.link := by
  unfold sendKind
  simp

@[simp] theorem sendPass_frame (id : RackId) (v : Verdict) (dose : Nat) (s : State) :
    (sendPass id v dose s).pending = s.pending ∧ (sendPass id v dose s).choices = s.choices ∧
    (sendPass id v dose s).phase = s.phase ∧ (sendPass id v dose s).coldLine = s.coldLine ∧
    (sendPass id v dose s).warmLine = s.warmLine ∧ (sendPass id v dose s).resetKind = s.resetKind ∧
    (sendPass id v dose s).resetCause = s.resetCause ∧ (sendPass id v dose s).settle = s.settle ∧
    (sendPass id v dose s).inputs = s.inputs ∧ (sendPass id v dose s).plant = s.plant ∧
    (sendPass id v dose s).track = s.track ∧ (sendPass id v dose s).dose = s.dose ∧
    (sendPass id v dose s).programmes = s.programmes ∧ (sendPass id v dose s).stations = s.stations ∧
    (sendPass id v dose s).merge = s.merge ∧ (sendPass id v dose s).ret = s.ret ∧
    (sendPass id v dose s).interlock = s.interlock ∧ (sendPass id v dose s).profile = s.profile ∧
    (sendPass id v dose s).link = s.link := by
  unfold sendPass
  try dsimp only
  (repeat' split) <;> simp

@[simp] theorem reserveExit_frame (s : State) :
    (reserveExit s).pending = s.pending ∧ (reserveExit s).choices = s.choices ∧ (reserveExit s).phase = s.phase ∧
    (reserveExit s).coldLine = s.coldLine ∧ (reserveExit s).warmLine = s.warmLine ∧
    (reserveExit s).resetKind = s.resetKind ∧ (reserveExit s).resetCause = s.resetCause ∧
    (reserveExit s).settle = s.settle ∧ (reserveExit s).inputs = s.inputs ∧ (reserveExit s).plant = s.plant ∧
    (reserveExit s).dose = s.dose ∧ (reserveExit s).programmes = s.programmes ∧
    (reserveExit s).stations = s.stations ∧ (reserveExit s).merge = s.merge ∧
    (reserveExit s).directory = s.directory ∧ (reserveExit s).ret = s.ret ∧ (reserveExit s).interlock = s.interlock ∧
    (reserveExit s).profile = s.profile ∧ (reserveExit s).link = s.link := by
  unfold reserveExit
  try dsimp only
  (repeat' split) <;> simp

@[simp] theorem fixVerdict_frame (s : State) :
    (fixVerdict s).pending = s.pending ∧ (fixVerdict s).choices = s.choices ∧ (fixVerdict s).phase = s.phase ∧
    (fixVerdict s).coldLine = s.coldLine ∧ (fixVerdict s).warmLine = s.warmLine ∧
    (fixVerdict s).resetKind = s.resetKind ∧ (fixVerdict s).resetCause = s.resetCause ∧
    (fixVerdict s).settle = s.settle ∧ (fixVerdict s).inputs = s.inputs ∧ (fixVerdict s).plant = s.plant ∧
    (fixVerdict s).dose = s.dose ∧ (fixVerdict s).programmes = s.programmes ∧ (fixVerdict s).stations = s.stations ∧
    (fixVerdict s).merge = s.merge ∧ (fixVerdict s).ret = s.ret ∧ (fixVerdict s).interlock = s.interlock ∧
    (fixVerdict s).profile = s.profile ∧ (fixVerdict s).link.assembly = s.link.assembly ∧
    (fixVerdict s).link.gap = s.link.gap ∧ (fixVerdict s).link.buffer = s.link.buffer ∧
    (fixVerdict s).link.reply = s.link.reply ∧ (fixVerdict s).link.transmitter = s.link.transmitter ∧
    (fixVerdict s).link.crcErrors = s.link.crcErrors ∧ (fixVerdict s).link.framingErrors = s.link.framingErrors ∧
    (fixVerdict s).link.overflows = s.link.overflows ∧ (fixVerdict s).link.mask = s.link.mask := by
  unfold fixVerdict
  try dsimp only
  (repeat' split) <;> simp

@[simp] theorem stepStart_frame (s : State) :
    (stepStart s).pending = s.pending ∧ (stepStart s).choices = s.choices ∧ (stepStart s).phase = s.phase ∧
    (stepStart s).coldLine = s.coldLine ∧ (stepStart s).warmLine = s.warmLine ∧
    (stepStart s).resetKind = s.resetKind ∧ (stepStart s).resetCause = s.resetCause ∧
    (stepStart s).settle = s.settle ∧ (stepStart s).inputs = s.inputs ∧ (stepStart s).plant = s.plant ∧
    (stepStart s).dose = s.dose ∧ (stepStart s).programmes = s.programmes ∧ (stepStart s).stations = s.stations ∧
    (stepStart s).merge = s.merge ∧ (stepStart s).ret = s.ret ∧ (stepStart s).interlock = s.interlock ∧
    (stepStart s).profile = s.profile ∧ (stepStart s).link.assembly = s.link.assembly ∧
    (stepStart s).link.gap = s.link.gap ∧ (stepStart s).link.buffer = s.link.buffer ∧
    (stepStart s).link.reply = s.link.reply ∧ (stepStart s).link.transmitter = s.link.transmitter ∧
    (stepStart s).link.crcErrors = s.link.crcErrors ∧ (stepStart s).link.framingErrors = s.link.framingErrors ∧
    (stepStart s).link.overflows = s.link.overflows ∧ (stepStart s).link.mask = s.link.mask := by
  unfold stepStart
  try dsimp only
  (repeat' split) <;> simp

@[simp] theorem startExtension_frame (s : State) :
    (startExtension s).pending = s.pending ∧ (startExtension s).choices = s.choices ∧
    (startExtension s).phase = s.phase ∧ (startExtension s).coldLine = s.coldLine ∧
    (startExtension s).warmLine = s.warmLine ∧ (startExtension s).resetKind = s.resetKind ∧
    (startExtension s).resetCause = s.resetCause ∧ (startExtension s).settle = s.settle ∧
    (startExtension s).inputs = s.inputs ∧ (startExtension s).plant = s.plant ∧ (startExtension s).dose = s.dose ∧
    (startExtension s).programmes = s.programmes ∧ (startExtension s).stations = s.stations ∧
    (startExtension s).merge = s.merge ∧ (startExtension s).directory = s.directory ∧
    (startExtension s).ret = s.ret ∧ (startExtension s).interlock = s.interlock ∧
    (startExtension s).profile = s.profile ∧ (startExtension s).link = s.link := by
  unfold startExtension
  try dsimp only
  (repeat' split) <;> simp

@[simp] theorem evaluate_frame (s : State) :
    (evaluate s).pending = s.pending ∧ (evaluate s).choices = s.choices ∧ (evaluate s).phase = s.phase ∧
    (evaluate s).coldLine = s.coldLine ∧ (evaluate s).warmLine = s.warmLine ∧ (evaluate s).resetKind = s.resetKind ∧
    (evaluate s).resetCause = s.resetCause ∧ (evaluate s).settle = s.settle ∧ (evaluate s).inputs = s.inputs ∧
    (evaluate s).plant = s.plant ∧ (evaluate s).dose = s.dose ∧ (evaluate s).programmes = s.programmes ∧
    (evaluate s).stations = s.stations ∧ (evaluate s).merge = s.merge ∧ (evaluate s).ret = s.ret ∧
    (evaluate s).interlock = s.interlock ∧ (evaluate s).profile = s.profile ∧
    (evaluate s).link.assembly = s.link.assembly ∧ (evaluate s).link.gap = s.link.gap ∧
    (evaluate s).link.buffer = s.link.buffer ∧ (evaluate s).link.reply = s.link.reply ∧
    (evaluate s).link.transmitter = s.link.transmitter ∧ (evaluate s).link.crcErrors = s.link.crcErrors ∧
    (evaluate s).link.framingErrors = s.link.framingErrors ∧ (evaluate s).link.overflows = s.link.overflows ∧
    (evaluate s).link.mask = s.link.mask := by
  unfold evaluate
  try dsimp only
  (repeat' split) <;> simp

@[simp] theorem purgeStep_frame (s : State) :
    (purgeStep s).pending = s.pending ∧ (purgeStep s).choices = s.choices ∧ (purgeStep s).phase = s.phase ∧
    (purgeStep s).coldLine = s.coldLine ∧ (purgeStep s).warmLine = s.warmLine ∧
    (purgeStep s).resetKind = s.resetKind ∧ (purgeStep s).resetCause = s.resetCause ∧
    (purgeStep s).settle = s.settle ∧ (purgeStep s).inputs = s.inputs ∧ (purgeStep s).plant = s.plant ∧
    (purgeStep s).dose = s.dose ∧ (purgeStep s).programmes = s.programmes ∧ (purgeStep s).stations = s.stations ∧
    (purgeStep s).merge = s.merge ∧ (purgeStep s).ret = s.ret ∧ (purgeStep s).interlock = s.interlock ∧
    (purgeStep s).profile = s.profile ∧ (purgeStep s).link.assembly = s.link.assembly ∧
    (purgeStep s).link.gap = s.link.gap ∧ (purgeStep s).link.buffer = s.link.buffer ∧
    (purgeStep s).link.reply = s.link.reply ∧ (purgeStep s).link.transmitter = s.link.transmitter ∧
    (purgeStep s).link.crcErrors = s.link.crcErrors ∧ (purgeStep s).link.framingErrors = s.link.framingErrors ∧
    (purgeStep s).link.overflows = s.link.overflows ∧ (purgeStep s).link.mask = s.link.mask := by
  unfold purgeStep
  try dsimp only
  (repeat' split) <;> simp

@[simp] theorem dueEvaluation_frame (s : State) :
    (dueEvaluation s).pending = s.pending ∧ (dueEvaluation s).choices = s.choices ∧
    (dueEvaluation s).phase = s.phase ∧ (dueEvaluation s).coldLine = s.coldLine ∧
    (dueEvaluation s).warmLine = s.warmLine ∧ (dueEvaluation s).resetKind = s.resetKind ∧
    (dueEvaluation s).resetCause = s.resetCause ∧ (dueEvaluation s).settle = s.settle ∧
    (dueEvaluation s).inputs = s.inputs ∧ (dueEvaluation s).plant = s.plant ∧ (dueEvaluation s).dose = s.dose ∧
    (dueEvaluation s).programmes = s.programmes ∧ (dueEvaluation s).stations = s.stations ∧
    (dueEvaluation s).merge = s.merge ∧ (dueEvaluation s).ret = s.ret ∧ (dueEvaluation s).interlock = s.interlock ∧
    (dueEvaluation s).profile = s.profile ∧ (dueEvaluation s).link.assembly = s.link.assembly ∧
    (dueEvaluation s).link.gap = s.link.gap ∧ (dueEvaluation s).link.buffer = s.link.buffer ∧
    (dueEvaluation s).link.reply = s.link.reply ∧ (dueEvaluation s).link.transmitter = s.link.transmitter ∧
    (dueEvaluation s).link.crcErrors = s.link.crcErrors ∧
    (dueEvaluation s).link.framingErrors = s.link.framingErrors ∧
    (dueEvaluation s).link.overflows = s.link.overflows ∧ (dueEvaluation s).link.mask = s.link.mask := by
  unfold dueEvaluation
  try dsimp only
  (repeat' split) <;> simp

@[simp] theorem handOver_frame (s : State) :
    (handOver s).pending = s.pending ∧ (handOver s).choices = s.choices ∧ (handOver s).phase = s.phase ∧
    (handOver s).coldLine = s.coldLine ∧ (handOver s).warmLine = s.warmLine ∧ (handOver s).resetKind = s.resetKind ∧
    (handOver s).resetCause = s.resetCause ∧ (handOver s).settle = s.settle ∧ (handOver s).inputs = s.inputs ∧
    (handOver s).plant = s.plant ∧ (handOver s).track = s.track ∧ (handOver s).dose = s.dose ∧
    (handOver s).programmes = s.programmes ∧ (handOver s).stations = s.stations ∧ (handOver s).merge = s.merge ∧
    (handOver s).interlock = s.interlock ∧ (handOver s).profile = s.profile ∧ (handOver s).link = s.link := by
  unfold handOver
  try dsimp only
  (repeat' split) <;> simp

@[simp] theorem clearLeaving_frame (s : State) :
    (clearLeaving s).pending = s.pending ∧ (clearLeaving s).choices = s.choices ∧ (clearLeaving s).phase = s.phase ∧
    (clearLeaving s).coldLine = s.coldLine ∧ (clearLeaving s).warmLine = s.warmLine ∧
    (clearLeaving s).resetKind = s.resetKind ∧ (clearLeaving s).resetCause = s.resetCause ∧
    (clearLeaving s).settle = s.settle ∧ (clearLeaving s).inputs = s.inputs ∧ (clearLeaving s).plant = s.plant ∧
    (clearLeaving s).dose = s.dose ∧ (clearLeaving s).programmes = s.programmes ∧
    (clearLeaving s).stations = s.stations ∧ (clearLeaving s).merge = s.merge ∧
    (clearLeaving s).directory = s.directory ∧ (clearLeaving s).ret = s.ret ∧
    (clearLeaving s).interlock = s.interlock ∧ (clearLeaving s).profile = s.profile ∧ (clearLeaving s).link = s.link := by
  unfold clearLeaving
  try dsimp only
  (repeat' split) <;> simp

@[simp] theorem exitEyeCheck_frame (s : State) :
    (exitEyeCheck s).pending = s.pending ∧ (exitEyeCheck s).choices = s.choices ∧ (exitEyeCheck s).phase = s.phase ∧
    (exitEyeCheck s).coldLine = s.coldLine ∧ (exitEyeCheck s).warmLine = s.warmLine ∧
    (exitEyeCheck s).resetKind = s.resetKind ∧ (exitEyeCheck s).resetCause = s.resetCause ∧
    (exitEyeCheck s).settle = s.settle ∧ (exitEyeCheck s).inputs = s.inputs ∧ (exitEyeCheck s).plant = s.plant ∧
    (exitEyeCheck s).dose = s.dose ∧ (exitEyeCheck s).programmes = s.programmes ∧
    (exitEyeCheck s).stations = s.stations ∧ (exitEyeCheck s).merge = s.merge ∧ (exitEyeCheck s).ret = s.ret ∧
    (exitEyeCheck s).interlock = s.interlock ∧ (exitEyeCheck s).profile = s.profile ∧
    (exitEyeCheck s).link.assembly = s.link.assembly ∧ (exitEyeCheck s).link.gap = s.link.gap ∧
    (exitEyeCheck s).link.buffer = s.link.buffer ∧ (exitEyeCheck s).link.reply = s.link.reply ∧
    (exitEyeCheck s).link.transmitter = s.link.transmitter ∧ (exitEyeCheck s).link.crcErrors = s.link.crcErrors ∧
    (exitEyeCheck s).link.framingErrors = s.link.framingErrors ∧ (exitEyeCheck s).link.overflows = s.link.overflows ∧
    (exitEyeCheck s).link.mask = s.link.mask := by
  unfold exitEyeCheck
  try dsimp only
  (repeat' split) <;> simp

@[simp] theorem completeMotion_frame (s : State) :
    (completeMotion s).pending = s.pending ∧ (completeMotion s).choices = s.choices ∧
    (completeMotion s).phase = s.phase ∧ (completeMotion s).coldLine = s.coldLine ∧
    (completeMotion s).warmLine = s.warmLine ∧ (completeMotion s).resetKind = s.resetKind ∧
    (completeMotion s).resetCause = s.resetCause ∧ (completeMotion s).settle = s.settle ∧
    (completeMotion s).inputs = s.inputs ∧ (completeMotion s).plant = s.plant ∧ (completeMotion s).dose = s.dose ∧
    (completeMotion s).programmes = s.programmes ∧ (completeMotion s).stations = s.stations ∧
    (completeMotion s).merge = s.merge ∧ (completeMotion s).interlock = s.interlock ∧
    (completeMotion s).profile = s.profile ∧ (completeMotion s).link.assembly = s.link.assembly ∧
    (completeMotion s).link.gap = s.link.gap ∧ (completeMotion s).link.buffer = s.link.buffer ∧
    (completeMotion s).link.reply = s.link.reply ∧ (completeMotion s).link.transmitter = s.link.transmitter ∧
    (completeMotion s).link.crcErrors = s.link.crcErrors ∧
    (completeMotion s).link.framingErrors = s.link.framingErrors ∧
    (completeMotion s).link.overflows = s.link.overflows ∧ (completeMotion s).link.mask = s.link.mask := by
  unfold completeMotion
  simp

@[simp] theorem endPurge_frame (s : State) :
    (endPurge s).pending = s.pending ∧ (endPurge s).choices = s.choices ∧ (endPurge s).phase = s.phase ∧
    (endPurge s).coldLine = s.coldLine ∧ (endPurge s).warmLine = s.warmLine ∧ (endPurge s).resetKind = s.resetKind ∧
    (endPurge s).resetCause = s.resetCause ∧ (endPurge s).settle = s.settle ∧ (endPurge s).inputs = s.inputs ∧
    (endPurge s).plant = s.plant ∧ (endPurge s).dose = s.dose ∧ (endPurge s).programmes = s.programmes ∧
    (endPurge s).stations = s.stations ∧ (endPurge s).merge = s.merge ∧ (endPurge s).directory = s.directory ∧
    (endPurge s).ret = s.ret ∧ (endPurge s).interlock = s.interlock ∧ (endPurge s).profile = s.profile ∧
    (endPurge s).link.assembly = s.link.assembly ∧ (endPurge s).link.gap = s.link.gap ∧
    (endPurge s).link.buffer = s.link.buffer ∧ (endPurge s).link.reply = s.link.reply ∧
    (endPurge s).link.transmitter = s.link.transmitter ∧ (endPurge s).link.crcErrors = s.link.crcErrors ∧
    (endPurge s).link.framingErrors = s.link.framingErrors ∧ (endPurge s).link.overflows = s.link.overflows ∧
    (endPurge s).link.mask = s.link.mask := by
  unfold endPurge
  simp

@[simp] theorem stateAfterCompletion_frame (s : State) :
    (stateAfterCompletion s).pending = s.pending ∧ (stateAfterCompletion s).choices = s.choices ∧
    (stateAfterCompletion s).phase = s.phase ∧ (stateAfterCompletion s).coldLine = s.coldLine ∧
    (stateAfterCompletion s).warmLine = s.warmLine ∧ (stateAfterCompletion s).resetKind = s.resetKind ∧
    (stateAfterCompletion s).resetCause = s.resetCause ∧ (stateAfterCompletion s).settle = s.settle ∧
    (stateAfterCompletion s).inputs = s.inputs ∧ (stateAfterCompletion s).plant = s.plant ∧
    (stateAfterCompletion s).dose = s.dose ∧ (stateAfterCompletion s).programmes = s.programmes ∧
    (stateAfterCompletion s).stations = s.stations ∧ (stateAfterCompletion s).merge = s.merge ∧
    (stateAfterCompletion s).directory = s.directory ∧ (stateAfterCompletion s).ret = s.ret ∧
    (stateAfterCompletion s).interlock = s.interlock ∧ (stateAfterCompletion s).profile = s.profile ∧
    (stateAfterCompletion s).link.assembly = s.link.assembly ∧ (stateAfterCompletion s).link.gap = s.link.gap ∧
    (stateAfterCompletion s).link.buffer = s.link.buffer ∧ (stateAfterCompletion s).link.reply = s.link.reply ∧
    (stateAfterCompletion s).link.transmitter = s.link.transmitter ∧
    (stateAfterCompletion s).link.crcErrors = s.link.crcErrors ∧
    (stateAfterCompletion s).link.framingErrors = s.link.framingErrors ∧
    (stateAfterCompletion s).link.overflows = s.link.overflows ∧ (stateAfterCompletion s).link.mask = s.link.mask := by
  unfold stateAfterCompletion
  try dsimp only
  (repeat' split) <;> simp

@[simp] theorem interruptMotion_frame (s : State) :
    (interruptMotion s).pending = s.pending ∧ (interruptMotion s).choices = s.choices ∧
    (interruptMotion s).phase = s.phase ∧ (interruptMotion s).coldLine = s.coldLine ∧
    (interruptMotion s).warmLine = s.warmLine ∧ (interruptMotion s).resetKind = s.resetKind ∧
    (interruptMotion s).resetCause = s.resetCause ∧ (interruptMotion s).settle = s.settle ∧
    (interruptMotion s).inputs = s.inputs ∧ (interruptMotion s).plant = s.plant ∧ (interruptMotion s).dose = s.dose ∧
    (interruptMotion s).programmes = s.programmes ∧ (interruptMotion s).stations = s.stations ∧
    (interruptMotion s).merge = s.merge ∧ (interruptMotion s).directory = s.directory ∧
    (interruptMotion s).ret = s.ret ∧ (interruptMotion s).interlock = s.interlock ∧
    (interruptMotion s).profile = s.profile ∧ (interruptMotion s).link = s.link := by
  unfold interruptMotion
  try dsimp only
  (repeat' split) <;> simp

@[simp] theorem trackOpening_frame (s : State) :
    (trackOpening s).pending = s.pending ∧ (trackOpening s).choices = s.choices ∧ (trackOpening s).phase = s.phase ∧
    (trackOpening s).coldLine = s.coldLine ∧ (trackOpening s).warmLine = s.warmLine ∧
    (trackOpening s).resetKind = s.resetKind ∧ (trackOpening s).resetCause = s.resetCause ∧
    (trackOpening s).settle = s.settle ∧ (trackOpening s).inputs = s.inputs ∧ (trackOpening s).plant = s.plant ∧
    (trackOpening s).dose = s.dose ∧ (trackOpening s).programmes = s.programmes ∧
    (trackOpening s).stations = s.stations ∧ (trackOpening s).merge = s.merge ∧
    (trackOpening s).directory = s.directory ∧ (trackOpening s).ret = s.ret ∧ (trackOpening s).profile = s.profile ∧
    (trackOpening s).link.assembly = s.link.assembly ∧ (trackOpening s).link.gap = s.link.gap ∧
    (trackOpening s).link.buffer = s.link.buffer ∧ (trackOpening s).link.reply = s.link.reply ∧
    (trackOpening s).link.transmitter = s.link.transmitter ∧ (trackOpening s).link.crcErrors = s.link.crcErrors ∧
    (trackOpening s).link.framingErrors = s.link.framingErrors ∧ (trackOpening s).link.overflows = s.link.overflows ∧
    (trackOpening s).link.mask = s.link.mask := by
  unfold trackOpening
  try dsimp only
  (repeat' split) <;> simp

@[simp] theorem enterJam_frame (c : FaultCause) (n : FaultNotice) (s : State) :
    (enterJam c n s).pending = s.pending ∧ (enterJam c n s).choices = s.choices ∧ (enterJam c n s).phase = s.phase ∧
    (enterJam c n s).coldLine = s.coldLine ∧ (enterJam c n s).warmLine = s.warmLine ∧
    (enterJam c n s).resetKind = s.resetKind ∧ (enterJam c n s).resetCause = s.resetCause ∧
    (enterJam c n s).settle = s.settle ∧ (enterJam c n s).inputs = s.inputs ∧ (enterJam c n s).plant = s.plant ∧
    (enterJam c n s).dose = s.dose ∧ (enterJam c n s).programmes = s.programmes ∧
    (enterJam c n s).stations = s.stations ∧ (enterJam c n s).merge = s.merge ∧
    (enterJam c n s).directory = s.directory ∧ (enterJam c n s).ret = s.ret ∧ (enterJam c n s).profile = s.profile ∧
    (enterJam c n s).link.assembly = s.link.assembly ∧ (enterJam c n s).link.gap = s.link.gap ∧
    (enterJam c n s).link.buffer = s.link.buffer ∧ (enterJam c n s).link.reply = s.link.reply ∧
    (enterJam c n s).link.transmitter = s.link.transmitter ∧ (enterJam c n s).link.crcErrors = s.link.crcErrors ∧
    (enterJam c n s).link.framingErrors = s.link.framingErrors ∧ (enterJam c n s).link.overflows = s.link.overflows ∧
    (enterJam c n s).link.mask = s.link.mask := by
  unfold enterJam
  simp

@[simp] theorem jamMotion_frame (s : State) :
    (jamMotion s).pending = s.pending ∧ (jamMotion s).choices = s.choices ∧ (jamMotion s).phase = s.phase ∧
    (jamMotion s).coldLine = s.coldLine ∧ (jamMotion s).warmLine = s.warmLine ∧
    (jamMotion s).resetKind = s.resetKind ∧ (jamMotion s).resetCause = s.resetCause ∧
    (jamMotion s).settle = s.settle ∧ (jamMotion s).inputs = s.inputs ∧ (jamMotion s).plant = s.plant ∧
    (jamMotion s).dose = s.dose ∧ (jamMotion s).programmes = s.programmes ∧ (jamMotion s).stations = s.stations ∧
    (jamMotion s).merge = s.merge ∧ (jamMotion s).directory = s.directory ∧ (jamMotion s).ret = s.ret ∧
    (jamMotion s).profile = s.profile ∧ (jamMotion s).link.assembly = s.link.assembly ∧
    (jamMotion s).link.gap = s.link.gap ∧ (jamMotion s).link.buffer = s.link.buffer ∧
    (jamMotion s).link.reply = s.link.reply ∧ (jamMotion s).link.transmitter = s.link.transmitter ∧
    (jamMotion s).link.crcErrors = s.link.crcErrors ∧ (jamMotion s).link.framingErrors = s.link.framingErrors ∧
    (jamMotion s).link.overflows = s.link.overflows ∧ (jamMotion s).link.mask = s.link.mask := by
  unfold jamMotion
  simp

@[simp] theorem enterStandby_frame (s : State) :
    (enterStandby s).pending = s.pending ∧ (enterStandby s).choices = s.choices ∧ (enterStandby s).phase = s.phase ∧
    (enterStandby s).coldLine = s.coldLine ∧ (enterStandby s).warmLine = s.warmLine ∧
    (enterStandby s).resetKind = s.resetKind ∧ (enterStandby s).resetCause = s.resetCause ∧
    (enterStandby s).settle = s.settle ∧ (enterStandby s).inputs = s.inputs ∧ (enterStandby s).plant = s.plant ∧
    (enterStandby s).dose = s.dose ∧ (enterStandby s).programmes = s.programmes ∧
    (enterStandby s).stations = s.stations ∧ (enterStandby s).merge = s.merge ∧
    (enterStandby s).directory = s.directory ∧ (enterStandby s).ret = s.ret ∧ (enterStandby s).profile = s.profile ∧
    (enterStandby s).link.assembly = s.link.assembly ∧ (enterStandby s).link.gap = s.link.gap ∧
    (enterStandby s).link.buffer = s.link.buffer ∧ (enterStandby s).link.reply = s.link.reply ∧
    (enterStandby s).link.transmitter = s.link.transmitter ∧ (enterStandby s).link.crcErrors = s.link.crcErrors ∧
    (enterStandby s).link.framingErrors = s.link.framingErrors ∧ (enterStandby s).link.overflows = s.link.overflows ∧
    (enterStandby s).link.mask = s.link.mask := by
  unfold enterStandby
  simp

@[simp] theorem enterRecovery_frame (s : State) :
    (enterRecovery s).pending = s.pending ∧ (enterRecovery s).choices = s.choices ∧
    (enterRecovery s).phase = s.phase ∧ (enterRecovery s).coldLine = s.coldLine ∧
    (enterRecovery s).warmLine = s.warmLine ∧ (enterRecovery s).resetKind = s.resetKind ∧
    (enterRecovery s).resetCause = s.resetCause ∧ (enterRecovery s).settle = s.settle ∧
    (enterRecovery s).inputs = s.inputs ∧ (enterRecovery s).plant = s.plant ∧
    (enterRecovery s).programmes = s.programmes ∧ (enterRecovery s).stations = s.stations ∧
    (enterRecovery s).merge = s.merge ∧ (enterRecovery s).directory = s.directory ∧ (enterRecovery s).ret = s.ret ∧
    (enterRecovery s).profile = s.profile ∧ (enterRecovery s).link.assembly = s.link.assembly ∧
    (enterRecovery s).link.gap = s.link.gap ∧ (enterRecovery s).link.buffer = s.link.buffer ∧
    (enterRecovery s).link.reply = s.link.reply ∧ (enterRecovery s).link.transmitter = s.link.transmitter ∧
    (enterRecovery s).link.crcErrors = s.link.crcErrors ∧
    (enterRecovery s).link.framingErrors = s.link.framingErrors ∧
    (enterRecovery s).link.overflows = s.link.overflows ∧ (enterRecovery s).link.mask = s.link.mask := by
  unfold enterRecovery
  try dsimp only
  (repeat' split) <;> simp

@[simp] theorem wake_frame (s : State) :
    (wake s).pending = s.pending ∧ (wake s).choices = s.choices ∧ (wake s).phase = s.phase ∧
    (wake s).coldLine = s.coldLine ∧ (wake s).warmLine = s.warmLine ∧ (wake s).resetKind = s.resetKind ∧
    (wake s).resetCause = s.resetCause ∧ (wake s).settle = s.settle ∧ (wake s).inputs = s.inputs ∧
    (wake s).plant = s.plant ∧ (wake s).programmes = s.programmes ∧ (wake s).stations = s.stations ∧
    (wake s).merge = s.merge ∧ (wake s).directory = s.directory ∧ (wake s).ret = s.ret ∧
    (wake s).profile = s.profile ∧ (wake s).link.assembly = s.link.assembly ∧ (wake s).link.gap = s.link.gap ∧
    (wake s).link.buffer = s.link.buffer ∧ (wake s).link.reply = s.link.reply ∧
    (wake s).link.transmitter = s.link.transmitter ∧ (wake s).link.crcErrors = s.link.crcErrors ∧
    (wake s).link.framingErrors = s.link.framingErrors ∧ (wake s).link.overflows = s.link.overflows ∧
    (wake s).link.mask = s.link.mask := by
  unfold wake
  try dsimp only
  (repeat' split) <;> simp

@[simp] theorem completeRecovery_frame (s : State) :
    (completeRecovery s).pending = s.pending ∧ (completeRecovery s).choices = s.choices ∧
    (completeRecovery s).phase = s.phase ∧ (completeRecovery s).coldLine = s.coldLine ∧
    (completeRecovery s).warmLine = s.warmLine ∧ (completeRecovery s).resetKind = s.resetKind ∧
    (completeRecovery s).resetCause = s.resetCause ∧ (completeRecovery s).settle = s.settle ∧
    (completeRecovery s).inputs = s.inputs ∧ (completeRecovery s).plant = s.plant ∧
    (completeRecovery s).dose = s.dose ∧ (completeRecovery s).programmes = s.programmes ∧
    (completeRecovery s).stations = s.stations ∧ (completeRecovery s).merge = s.merge ∧
    (completeRecovery s).ret = s.ret ∧ (completeRecovery s).profile = s.profile ∧
    (completeRecovery s).link.assembly = s.link.assembly ∧ (completeRecovery s).link.gap = s.link.gap ∧
    (completeRecovery s).link.buffer = s.link.buffer ∧ (completeRecovery s).link.reply = s.link.reply ∧
    (completeRecovery s).link.transmitter = s.link.transmitter ∧
    (completeRecovery s).link.crcErrors = s.link.crcErrors ∧
    (completeRecovery s).link.framingErrors = s.link.framingErrors ∧
    (completeRecovery s).link.overflows = s.link.overflows ∧ (completeRecovery s).link.mask = s.link.mask := by
  unfold completeRecovery
  simp

@[simp] theorem failRecovery_frame (s : State) :
    (failRecovery s).pending = s.pending ∧ (failRecovery s).choices = s.choices ∧ (failRecovery s).phase = s.phase ∧
    (failRecovery s).coldLine = s.coldLine ∧ (failRecovery s).warmLine = s.warmLine ∧
    (failRecovery s).resetKind = s.resetKind ∧ (failRecovery s).resetCause = s.resetCause ∧
    (failRecovery s).settle = s.settle ∧ (failRecovery s).inputs = s.inputs ∧ (failRecovery s).plant = s.plant ∧
    (failRecovery s).dose = s.dose ∧ (failRecovery s).programmes = s.programmes ∧
    (failRecovery s).stations = s.stations ∧ (failRecovery s).merge = s.merge ∧
    (failRecovery s).directory = s.directory ∧ (failRecovery s).ret = s.ret ∧ (failRecovery s).profile = s.profile ∧
    (failRecovery s).link.assembly = s.link.assembly ∧ (failRecovery s).link.gap = s.link.gap ∧
    (failRecovery s).link.buffer = s.link.buffer ∧ (failRecovery s).link.reply = s.link.reply ∧
    (failRecovery s).link.transmitter = s.link.transmitter ∧ (failRecovery s).link.crcErrors = s.link.crcErrors ∧
    (failRecovery s).link.framingErrors = s.link.framingErrors ∧ (failRecovery s).link.overflows = s.link.overflows ∧
    (failRecovery s).link.mask = s.link.mask := by
  unfold failRecovery
  simp

@[simp] theorem resumeMotion_frame (s : State) :
    (resumeMotion s).pending = s.pending ∧ (resumeMotion s).choices = s.choices ∧ (resumeMotion s).phase = s.phase ∧
    (resumeMotion s).coldLine = s.coldLine ∧ (resumeMotion s).warmLine = s.warmLine ∧
    (resumeMotion s).resetKind = s.resetKind ∧ (resumeMotion s).resetCause = s.resetCause ∧
    (resumeMotion s).settle = s.settle ∧ (resumeMotion s).inputs = s.inputs ∧ (resumeMotion s).plant = s.plant ∧
    (resumeMotion s).dose = s.dose ∧ (resumeMotion s).programmes = s.programmes ∧
    (resumeMotion s).stations = s.stations ∧ (resumeMotion s).merge = s.merge ∧
    (resumeMotion s).interlock = s.interlock ∧ (resumeMotion s).profile = s.profile ∧
    (resumeMotion s).link.assembly = s.link.assembly ∧ (resumeMotion s).link.gap = s.link.gap ∧
    (resumeMotion s).link.buffer = s.link.buffer ∧ (resumeMotion s).link.reply = s.link.reply ∧
    (resumeMotion s).link.transmitter = s.link.transmitter ∧ (resumeMotion s).link.crcErrors = s.link.crcErrors ∧
    (resumeMotion s).link.framingErrors = s.link.framingErrors ∧ (resumeMotion s).link.overflows = s.link.overflows ∧
    (resumeMotion s).link.mask = s.link.mask := by
  unfold resumeMotion
  try dsimp only
  (repeat' split) <;> simp

@[simp] theorem runMove_frame (s : State) :
    (runMove s).pending = s.pending ∧ (runMove s).choices = s.choices ∧ (runMove s).phase = s.phase ∧
    (runMove s).coldLine = s.coldLine ∧ (runMove s).warmLine = s.warmLine ∧ (runMove s).resetKind = s.resetKind ∧
    (runMove s).resetCause = s.resetCause ∧ (runMove s).settle = s.settle ∧ (runMove s).inputs = s.inputs ∧
    (runMove s).plant = s.plant ∧ (runMove s).programmes = s.programmes ∧ (runMove s).stations = s.stations ∧
    (runMove s).merge = s.merge ∧ (runMove s).profile = s.profile ∧ (runMove s).link.assembly = s.link.assembly ∧
    (runMove s).link.gap = s.link.gap ∧ (runMove s).link.buffer = s.link.buffer ∧
    (runMove s).link.reply = s.link.reply ∧ (runMove s).link.transmitter = s.link.transmitter ∧
    (runMove s).link.crcErrors = s.link.crcErrors ∧ (runMove s).link.framingErrors = s.link.framingErrors ∧
    (runMove s).link.overflows = s.link.overflows ∧ (runMove s).link.mask = s.link.mask := by
  unfold runMove
  try dsimp only
  (repeat' split) <;> simp

@[simp] theorem creditRinse_frame (c : Nat) (s : State) :
    (creditRinse c s).pending = s.pending ∧ (creditRinse c s).choices = s.choices ∧
    (creditRinse c s).phase = s.phase ∧ (creditRinse c s).coldLine = s.coldLine ∧
    (creditRinse c s).warmLine = s.warmLine ∧ (creditRinse c s).resetKind = s.resetKind ∧
    (creditRinse c s).resetCause = s.resetCause ∧ (creditRinse c s).settle = s.settle ∧
    (creditRinse c s).inputs = s.inputs ∧ (creditRinse c s).plant = s.plant ∧ (creditRinse c s).dose = s.dose ∧
    (creditRinse c s).programmes = s.programmes ∧ (creditRinse c s).stations = s.stations ∧
    (creditRinse c s).merge = s.merge ∧ (creditRinse c s).directory = s.directory ∧ (creditRinse c s).ret = s.ret ∧
    (creditRinse c s).interlock = s.interlock ∧ (creditRinse c s).profile = s.profile ∧
    (creditRinse c s).link = s.link := by
  unfold creditRinse
  simp

@[simp] theorem formed_frame (a : Code) (b : Option Code) (s : State) :
    (formed a b s).pending = s.pending ∧ (formed a b s).choices = s.choices ∧ (formed a b s).phase = s.phase ∧
    (formed a b s).coldLine = s.coldLine ∧ (formed a b s).warmLine = s.warmLine ∧
    (formed a b s).resetKind = s.resetKind ∧ (formed a b s).resetCause = s.resetCause ∧
    (formed a b s).settle = s.settle ∧ (formed a b s).inputs = s.inputs ∧ (formed a b s).plant = s.plant ∧
    (formed a b s).programmes = s.programmes ∧ (formed a b s).stations = s.stations ∧
    (formed a b s).merge = s.merge ∧ (formed a b s).directory = s.directory ∧ (formed a b s).ret = s.ret ∧
    (formed a b s).interlock = s.interlock ∧ (formed a b s).profile = s.profile ∧
    (formed a b s).link.assembly = s.link.assembly ∧ (formed a b s).link.gap = s.link.gap ∧
    (formed a b s).link.buffer = s.link.buffer ∧ (formed a b s).link.reply = s.link.reply ∧
    (formed a b s).link.transmitter = s.link.transmitter ∧ (formed a b s).link.crcErrors = s.link.crcErrors ∧
    (formed a b s).link.framingErrors = s.link.framingErrors ∧ (formed a b s).link.overflows = s.link.overflows ∧
    (formed a b s).link.mask = s.link.mask := by
  unfold formed
  simp

@[simp] theorem formSample_frame (a : Code) (b : Option Code) (s : State) :
    (formSample a b s).pending = s.pending ∧ (formSample a b s).choices = s.choices ∧
    (formSample a b s).phase = s.phase ∧ (formSample a b s).coldLine = s.coldLine ∧
    (formSample a b s).warmLine = s.warmLine ∧ (formSample a b s).resetKind = s.resetKind ∧
    (formSample a b s).resetCause = s.resetCause ∧ (formSample a b s).settle = s.settle ∧
    (formSample a b s).inputs = s.inputs ∧ (formSample a b s).plant = s.plant ∧
    (formSample a b s).programmes = s.programmes ∧ (formSample a b s).stations = s.stations ∧
    (formSample a b s).merge = s.merge ∧ (formSample a b s).ret = s.ret ∧ (formSample a b s).profile = s.profile ∧
    (formSample a b s).link.assembly = s.link.assembly ∧ (formSample a b s).link.gap = s.link.gap ∧
    (formSample a b s).link.buffer = s.link.buffer ∧ (formSample a b s).link.reply = s.link.reply ∧
    (formSample a b s).link.transmitter = s.link.transmitter ∧ (formSample a b s).link.crcErrors = s.link.crcErrors ∧
    (formSample a b s).link.framingErrors = s.link.framingErrors ∧
    (formSample a b s).link.overflows = s.link.overflows ∧ (formSample a b s).link.mask = s.link.mask := by
  unfold formSample
  try dsimp only
  (repeat' split) <;> simp

@[simp] theorem conversionA_frame (c : Code) (s : State) :
    (conversionA c s).pending = s.pending ∧ (conversionA c s).choices = s.choices ∧
    (conversionA c s).phase = s.phase ∧ (conversionA c s).coldLine = s.coldLine ∧
    (conversionA c s).warmLine = s.warmLine ∧ (conversionA c s).resetKind = s.resetKind ∧
    (conversionA c s).resetCause = s.resetCause ∧ (conversionA c s).settle = s.settle ∧
    (conversionA c s).inputs = s.inputs ∧ (conversionA c s).plant = s.plant ∧
    (conversionA c s).programmes = s.programmes ∧ (conversionA c s).stations = s.stations ∧
    (conversionA c s).merge = s.merge ∧ (conversionA c s).ret = s.ret ∧ (conversionA c s).profile = s.profile ∧
    (conversionA c s).link.assembly = s.link.assembly ∧ (conversionA c s).link.gap = s.link.gap ∧
    (conversionA c s).link.buffer = s.link.buffer ∧ (conversionA c s).link.reply = s.link.reply ∧
    (conversionA c s).link.transmitter = s.link.transmitter ∧ (conversionA c s).link.crcErrors = s.link.crcErrors ∧
    (conversionA c s).link.framingErrors = s.link.framingErrors ∧
    (conversionA c s).link.overflows = s.link.overflows ∧ (conversionA c s).link.mask = s.link.mask := by
  unfold conversionA
  try dsimp only
  (repeat' split) <;> simp

@[simp] theorem conversionB_frame (c : Code) (s : State) :
    (conversionB c s).pending = s.pending ∧ (conversionB c s).choices = s.choices ∧
    (conversionB c s).phase = s.phase ∧ (conversionB c s).coldLine = s.coldLine ∧
    (conversionB c s).warmLine = s.warmLine ∧ (conversionB c s).resetKind = s.resetKind ∧
    (conversionB c s).resetCause = s.resetCause ∧ (conversionB c s).settle = s.settle ∧
    (conversionB c s).inputs = s.inputs ∧ (conversionB c s).plant = s.plant ∧
    (conversionB c s).programmes = s.programmes ∧ (conversionB c s).stations = s.stations ∧
    (conversionB c s).merge = s.merge ∧ (conversionB c s).ret = s.ret ∧ (conversionB c s).profile = s.profile ∧
    (conversionB c s).link.assembly = s.link.assembly ∧ (conversionB c s).link.gap = s.link.gap ∧
    (conversionB c s).link.buffer = s.link.buffer ∧ (conversionB c s).link.reply = s.link.reply ∧
    (conversionB c s).link.transmitter = s.link.transmitter ∧ (conversionB c s).link.crcErrors = s.link.crcErrors ∧
    (conversionB c s).link.framingErrors = s.link.framingErrors ∧
    (conversionB c s).link.overflows = s.link.overflows ∧ (conversionB c s).link.mask = s.link.mask := by
  unfold conversionB
  try dsimp only
  (repeat' split) <;> simp

@[simp] theorem retestHead_frame (n : Quad) (s : State) :
    (retestHead n s).pending = s.pending ∧ (retestHead n s).choices = s.choices ∧ (retestHead n s).phase = s.phase ∧
    (retestHead n s).coldLine = s.coldLine ∧ (retestHead n s).warmLine = s.warmLine ∧
    (retestHead n s).resetKind = s.resetKind ∧ (retestHead n s).resetCause = s.resetCause ∧
    (retestHead n s).settle = s.settle ∧ (retestHead n s).inputs = s.inputs ∧ (retestHead n s).plant = s.plant ∧
    (retestHead n s).track = s.track ∧ (retestHead n s).dose = s.dose ∧ (retestHead n s).programmes = s.programmes ∧
    (retestHead n s).merge = s.merge ∧ (retestHead n s).directory = s.directory ∧ (retestHead n s).ret = s.ret ∧
    (retestHead n s).interlock = s.interlock ∧ (retestHead n s).profile = s.profile ∧ (retestHead n s).link = s.link := by
  unfold retestHead
  try dsimp only
  (repeat' split) <;> simp

@[simp] theorem retestHeads_frame (s : State) :
    (retestHeads s).pending = s.pending ∧ (retestHeads s).choices = s.choices ∧ (retestHeads s).phase = s.phase ∧
    (retestHeads s).coldLine = s.coldLine ∧ (retestHeads s).warmLine = s.warmLine ∧
    (retestHeads s).resetKind = s.resetKind ∧ (retestHeads s).resetCause = s.resetCause ∧
    (retestHeads s).settle = s.settle ∧ (retestHeads s).inputs = s.inputs ∧ (retestHeads s).plant = s.plant ∧
    (retestHeads s).track = s.track ∧ (retestHeads s).dose = s.dose ∧ (retestHeads s).programmes = s.programmes ∧
    (retestHeads s).merge = s.merge ∧ (retestHeads s).directory = s.directory ∧ (retestHeads s).ret = s.ret ∧
    (retestHeads s).interlock = s.interlock ∧ (retestHeads s).profile = s.profile ∧ (retestHeads s).link = s.link := by
  unfold retestHeads quads
  simp

@[simp] theorem resolveStation_frame (n : Quad) (s : State) :
    (resolveStation n s).pending = s.pending ∧ (resolveStation n s).choices = s.choices ∧
    (resolveStation n s).phase = s.phase ∧ (resolveStation n s).coldLine = s.coldLine ∧
    (resolveStation n s).warmLine = s.warmLine ∧ (resolveStation n s).resetKind = s.resetKind ∧
    (resolveStation n s).resetCause = s.resetCause ∧ (resolveStation n s).settle = s.settle ∧
    (resolveStation n s).inputs = s.inputs ∧ (resolveStation n s).plant = s.plant ∧
    (resolveStation n s).track = s.track ∧ (resolveStation n s).dose = s.dose ∧
    (resolveStation n s).programmes = s.programmes ∧ (resolveStation n s).merge = s.merge ∧
    (resolveStation n s).directory = s.directory ∧ (resolveStation n s).ret = s.ret ∧
    (resolveStation n s).interlock = s.interlock ∧ (resolveStation n s).profile = s.profile ∧
    (resolveStation n s).link.assembly = s.link.assembly ∧ (resolveStation n s).link.gap = s.link.gap ∧
    (resolveStation n s).link.buffer = s.link.buffer ∧ (resolveStation n s).link.reply = s.link.reply ∧
    (resolveStation n s).link.transmitter = s.link.transmitter ∧
    (resolveStation n s).link.crcErrors = s.link.crcErrors ∧
    (resolveStation n s).link.framingErrors = s.link.framingErrors ∧
    (resolveStation n s).link.overflows = s.link.overflows ∧ (resolveStation n s).link.mask = s.link.mask := by
  unfold resolveStation
  try dsimp only
  (repeat' split) <;> simp

@[simp] theorem resolveHeads_frame (s : State) :
    (resolveHeads s).pending = s.pending ∧ (resolveHeads s).choices = s.choices ∧ (resolveHeads s).phase = s.phase ∧
    (resolveHeads s).coldLine = s.coldLine ∧ (resolveHeads s).warmLine = s.warmLine ∧
    (resolveHeads s).resetKind = s.resetKind ∧ (resolveHeads s).resetCause = s.resetCause ∧
    (resolveHeads s).settle = s.settle ∧ (resolveHeads s).inputs = s.inputs ∧ (resolveHeads s).plant = s.plant ∧
    (resolveHeads s).track = s.track ∧ (resolveHeads s).dose = s.dose ∧ (resolveHeads s).programmes = s.programmes ∧
    (resolveHeads s).merge = s.merge ∧ (resolveHeads s).directory = s.directory ∧ (resolveHeads s).ret = s.ret ∧
    (resolveHeads s).interlock = s.interlock ∧ (resolveHeads s).profile = s.profile ∧
    (resolveHeads s).link.assembly = s.link.assembly ∧ (resolveHeads s).link.gap = s.link.gap ∧
    (resolveHeads s).link.buffer = s.link.buffer ∧ (resolveHeads s).link.reply = s.link.reply ∧
    (resolveHeads s).link.transmitter = s.link.transmitter ∧ (resolveHeads s).link.crcErrors = s.link.crcErrors ∧
    (resolveHeads s).link.framingErrors = s.link.framingErrors ∧ (resolveHeads s).link.overflows = s.link.overflows ∧
    (resolveHeads s).link.mask = s.link.mask := by
  unfold resolveHeads quads
  simp

@[simp] theorem grantOpportunity_frame (s : State) :
    (grantOpportunity s).pending = s.pending ∧ (grantOpportunity s).choices = s.choices ∧
    (grantOpportunity s).phase = s.phase ∧ (grantOpportunity s).coldLine = s.coldLine ∧
    (grantOpportunity s).warmLine = s.warmLine ∧ (grantOpportunity s).resetKind = s.resetKind ∧
    (grantOpportunity s).resetCause = s.resetCause ∧ (grantOpportunity s).settle = s.settle ∧
    (grantOpportunity s).inputs = s.inputs ∧ (grantOpportunity s).plant = s.plant ∧
    (grantOpportunity s).dose = s.dose ∧ (grantOpportunity s).programmes = s.programmes ∧
    (grantOpportunity s).directory = s.directory ∧ (grantOpportunity s).ret = s.ret ∧
    (grantOpportunity s).interlock = s.interlock ∧ (grantOpportunity s).profile = s.profile ∧
    (grantOpportunity s).link.assembly = s.link.assembly ∧ (grantOpportunity s).link.gap = s.link.gap ∧
    (grantOpportunity s).link.buffer = s.link.buffer ∧ (grantOpportunity s).link.reply = s.link.reply ∧
    (grantOpportunity s).link.transmitter = s.link.transmitter ∧
    (grantOpportunity s).link.crcErrors = s.link.crcErrors ∧
    (grantOpportunity s).link.framingErrors = s.link.framingErrors ∧
    (grantOpportunity s).link.overflows = s.link.overflows ∧ (grantOpportunity s).link.mask = s.link.mask := by
  unfold grantOpportunity
  try dsimp only
  (repeat' split) <;> simp

@[simp] theorem setDescriptor_frame (p : Fin 8) (d : Option Descriptor) (s : State) :
    (setDescriptor p d s).pending = s.pending ∧ (setDescriptor p d s).choices = s.choices ∧
    (setDescriptor p d s).phase = s.phase ∧ (setDescriptor p d s).coldLine = s.coldLine ∧
    (setDescriptor p d s).warmLine = s.warmLine ∧ (setDescriptor p d s).resetKind = s.resetKind ∧
    (setDescriptor p d s).resetCause = s.resetCause ∧ (setDescriptor p d s).settle = s.settle ∧
    (setDescriptor p d s).inputs = s.inputs ∧ (setDescriptor p d s).plant = s.plant ∧
    (setDescriptor p d s).track = s.track ∧ (setDescriptor p d s).dose = s.dose ∧
    (setDescriptor p d s).merge = s.merge ∧ (setDescriptor p d s).directory = s.directory ∧
    (setDescriptor p d s).ret = s.ret ∧ (setDescriptor p d s).interlock = s.interlock ∧
    (setDescriptor p d s).profile = s.profile ∧ (setDescriptor p d s).link = s.link := by
  unfold setDescriptor
  simp

@[simp] theorem popStack_frame (n : Quad) (s : State) :
    (popStack n s).pending = s.pending ∧ (popStack n s).choices = s.choices ∧ (popStack n s).phase = s.phase ∧
    (popStack n s).coldLine = s.coldLine ∧ (popStack n s).warmLine = s.warmLine ∧
    (popStack n s).resetKind = s.resetKind ∧ (popStack n s).resetCause = s.resetCause ∧
    (popStack n s).settle = s.settle ∧ (popStack n s).inputs = s.inputs ∧ (popStack n s).plant = s.plant ∧
    (popStack n s).track = s.track ∧ (popStack n s).dose = s.dose ∧ (popStack n s).programmes = s.programmes ∧
    (popStack n s).merge = s.merge ∧ (popStack n s).ret = s.ret ∧ (popStack n s).interlock = s.interlock ∧
    (popStack n s).profile = s.profile ∧ (popStack n s).link = s.link := by
  unfold popStack
  try dsimp only
  (repeat' split) <;> simp

@[simp] theorem takeSend_frame (n : Quad) (s : State) :
    (takeSend n s).pending = s.pending ∧ (takeSend n s).choices = s.choices ∧ (takeSend n s).phase = s.phase ∧
    (takeSend n s).coldLine = s.coldLine ∧ (takeSend n s).warmLine = s.warmLine ∧
    (takeSend n s).resetKind = s.resetKind ∧ (takeSend n s).resetCause = s.resetCause ∧
    (takeSend n s).settle = s.settle ∧ (takeSend n s).inputs = s.inputs ∧ (takeSend n s).plant = s.plant ∧
    (takeSend n s).programmes = s.programmes ∧ (takeSend n s).merge = s.merge ∧ (takeSend n s).ret = s.ret ∧
    (takeSend n s).profile = s.profile ∧ (takeSend n s).link.assembly = s.link.assembly ∧
    (takeSend n s).link.gap = s.link.gap ∧ (takeSend n s).link.buffer = s.link.buffer ∧
    (takeSend n s).link.reply = s.link.reply ∧ (takeSend n s).link.transmitter = s.link.transmitter ∧
    (takeSend n s).link.crcErrors = s.link.crcErrors ∧ (takeSend n s).link.framingErrors = s.link.framingErrors ∧
    (takeSend n s).link.overflows = s.link.overflows ∧ (takeSend n s).link.mask = s.link.mask := by
  unfold takeSend
  try dsimp only
  (repeat' split) <;> simp

@[simp] theorem pressSend_frame (n : Quad) (s : State) :
    (pressSend n s).pending = s.pending ∧ (pressSend n s).choices = s.choices ∧ (pressSend n s).phase = s.phase ∧
    (pressSend n s).coldLine = s.coldLine ∧ (pressSend n s).warmLine = s.warmLine ∧
    (pressSend n s).resetKind = s.resetKind ∧ (pressSend n s).resetCause = s.resetCause ∧
    (pressSend n s).settle = s.settle ∧ (pressSend n s).inputs = s.inputs ∧ (pressSend n s).plant = s.plant ∧
    (pressSend n s).programmes = s.programmes ∧ (pressSend n s).merge = s.merge ∧ (pressSend n s).ret = s.ret ∧
    (pressSend n s).profile = s.profile ∧ (pressSend n s).link.assembly = s.link.assembly ∧
    (pressSend n s).link.gap = s.link.gap ∧ (pressSend n s).link.buffer = s.link.buffer ∧
    (pressSend n s).link.reply = s.link.reply ∧ (pressSend n s).link.transmitter = s.link.transmitter ∧
    (pressSend n s).link.crcErrors = s.link.crcErrors ∧ (pressSend n s).link.framingErrors = s.link.framingErrors ∧
    (pressSend n s).link.overflows = s.link.overflows ∧ (pressSend n s).link.mask = s.link.mask := by
  unfold pressSend
  try dsimp only
  (repeat' split) <;> simp

@[simp] theorem profileHead_frame (n : Quad) (s : State) :
    (profileHead n s).pending = s.pending ∧ (profileHead n s).choices = s.choices ∧
    (profileHead n s).phase = s.phase ∧ (profileHead n s).coldLine = s.coldLine ∧
    (profileHead n s).warmLine = s.warmLine ∧ (profileHead n s).resetKind = s.resetKind ∧
    (profileHead n s).resetCause = s.resetCause ∧ (profileHead n s).settle = s.settle ∧
    (profileHead n s).inputs = s.inputs ∧ (profileHead n s).plant = s.plant ∧ (profileHead n s).track = s.track ∧
    (profileHead n s).dose = s.dose ∧ (profileHead n s).programmes = s.programmes ∧
    (profileHead n s).merge = s.merge ∧ (profileHead n s).ret = s.ret ∧ (profileHead n s).interlock = s.interlock ∧
    (profileHead n s).profile = s.profile ∧ (profileHead n s).link = s.link := by
  unfold profileHead
  try dsimp only
  (repeat' split) <;> simp

@[simp] theorem readSpurHead_frame (n : Quad) (s : State) :
    (readSpurHead n s).pending = s.pending ∧ (readSpurHead n s).choices = s.choices ∧
    (readSpurHead n s).phase = s.phase ∧ (readSpurHead n s).coldLine = s.coldLine ∧
    (readSpurHead n s).warmLine = s.warmLine ∧ (readSpurHead n s).resetKind = s.resetKind ∧
    (readSpurHead n s).resetCause = s.resetCause ∧ (readSpurHead n s).settle = s.settle ∧
    (readSpurHead n s).inputs = s.inputs ∧ (readSpurHead n s).plant = s.plant ∧ (readSpurHead n s).track = s.track ∧
    (readSpurHead n s).dose = s.dose ∧ (readSpurHead n s).programmes = s.programmes ∧
    (readSpurHead n s).merge = s.merge ∧ (readSpurHead n s).ret = s.ret ∧
    (readSpurHead n s).interlock = s.interlock ∧ (readSpurHead n s).profile = s.profile ∧
    (readSpurHead n s).link = s.link := by
  unfold readSpurHead
  try dsimp only
  (repeat' split) <;> simp

@[simp] theorem withdrawHead_frame (n : Quad) (s : State) :
    (withdrawHead n s).pending = s.pending ∧ (withdrawHead n s).choices = s.choices ∧
    (withdrawHead n s).phase = s.phase ∧ (withdrawHead n s).coldLine = s.coldLine ∧
    (withdrawHead n s).warmLine = s.warmLine ∧ (withdrawHead n s).resetKind = s.resetKind ∧
    (withdrawHead n s).resetCause = s.resetCause ∧ (withdrawHead n s).settle = s.settle ∧
    (withdrawHead n s).inputs = s.inputs ∧ (withdrawHead n s).plant = s.plant ∧ (withdrawHead n s).track = s.track ∧
    (withdrawHead n s).dose = s.dose ∧ (withdrawHead n s).programmes = s.programmes ∧
    (withdrawHead n s).merge = s.merge ∧ (withdrawHead n s).ret = s.ret ∧
    (withdrawHead n s).interlock = s.interlock ∧ (withdrawHead n s).profile = s.profile ∧
    (withdrawHead n s).link = s.link := by
  unfold withdrawHead
  try dsimp only
  (repeat' split) <;> simp

@[simp] theorem completeDelivery_frame (n : Quad) (i : Nat) (s : State) :
    (completeDelivery n i s).pending = s.pending ∧ (completeDelivery n i s).choices = s.choices ∧
    (completeDelivery n i s).phase = s.phase ∧ (completeDelivery n i s).coldLine = s.coldLine ∧
    (completeDelivery n i s).warmLine = s.warmLine ∧ (completeDelivery n i s).resetKind = s.resetKind ∧
    (completeDelivery n i s).resetCause = s.resetCause ∧ (completeDelivery n i s).settle = s.settle ∧
    (completeDelivery n i s).inputs = s.inputs ∧ (completeDelivery n i s).plant = s.plant ∧
    (completeDelivery n i s).track = s.track ∧ (completeDelivery n i s).dose = s.dose ∧
    (completeDelivery n i s).programmes = s.programmes ∧ (completeDelivery n i s).merge = s.merge ∧
    (completeDelivery n i s).ret = s.ret ∧ (completeDelivery n i s).interlock = s.interlock ∧
    (completeDelivery n i s).profile = s.profile ∧ (completeDelivery n i s).link = s.link := by
  unfold completeDelivery
  try dsimp only
  (repeat' split) <;> simp

@[simp] theorem forgetId_frame (g : Quad) (id : RackId) (h : Holder) (s : State) :
    (forgetId g id h s).pending = s.pending ∧ (forgetId g id h s).choices = s.choices ∧
    (forgetId g id h s).phase = s.phase ∧ (forgetId g id h s).coldLine = s.coldLine ∧
    (forgetId g id h s).warmLine = s.warmLine ∧ (forgetId g id h s).resetKind = s.resetKind ∧
    (forgetId g id h s).resetCause = s.resetCause ∧ (forgetId g id h s).settle = s.settle ∧
    (forgetId g id h s).inputs = s.inputs ∧ (forgetId g id h s).plant = s.plant ∧
    (forgetId g id h s).track = s.track ∧ (forgetId g id h s).dose = s.dose ∧
    (forgetId g id h s).programmes = s.programmes ∧ (forgetId g id h s).merge = s.merge ∧
    (forgetId g id h s).directory = s.directory ∧ (forgetId g id h s).interlock = s.interlock ∧
    (forgetId g id h s).profile = s.profile ∧ (forgetId g id h s).link = s.link := by
  unfold forgetId
  try dsimp only
  (repeat' split) <;> simp

@[simp] theorem presenceCheck_frame (n : Quad) (id : RackId) (o : IdSource) (v : Bool) (s : State) :
    ((presenceCheck n id o v s).state).pending = s.pending ∧ ((presenceCheck n id o v s).state).choices = s.choices ∧
    ((presenceCheck n id o v s).state).phase = s.phase ∧ ((presenceCheck n id o v s).state).coldLine = s.coldLine ∧
    ((presenceCheck n id o v s).state).warmLine = s.warmLine ∧
    ((presenceCheck n id o v s).state).resetKind = s.resetKind ∧
    ((presenceCheck n id o v s).state).resetCause = s.resetCause ∧
    ((presenceCheck n id o v s).state).settle = s.settle ∧ ((presenceCheck n id o v s).state).inputs = s.inputs ∧
    ((presenceCheck n id o v s).state).plant = s.plant ∧ ((presenceCheck n id o v s).state).track = s.track ∧
    ((presenceCheck n id o v s).state).dose = s.dose ∧ ((presenceCheck n id o v s).state).programmes = s.programmes ∧
    ((presenceCheck n id o v s).state).merge = s.merge ∧ ((presenceCheck n id o v s).state).directory = s.directory ∧
    ((presenceCheck n id o v s).state).interlock = s.interlock ∧
    ((presenceCheck n id o v s).state).profile = s.profile ∧ ((presenceCheck n id o v s).state).link = s.link := by
  unfold presenceCheck
  try dsimp only
  (repeat' split) <;> simp

/-- Once everything an allocation that takes a way can do: the way gets the entry, and only a dirty victim is spilled, into a
free place of the notice queue (R114 to R117). -/
theorem allocate_taken {id : RackId} {e : DirEntry} {s t : State} {w : Quad} {v : Option EntryBlock}
    (h : allocate id e s = .taken w t v) :
    (t = s.setDirSet (setOf id) ((s.directory[setOf id]).put w e) ∧ v = none) ∨
    ∃ x, (s.directory[setOf id]).ways.get w = some x ∧ x.dirty = true ∧ noticePlaceFree s = true ∧
      v = some ⟨x, (setOf id).val, w⟩ ∧
      t = (enqueue (.spill ⟨x, (setOf id).val, w⟩ .replaced) s).setDirSet (setOf id)
        ((s.directory[setOf id]).put w e) := by
  unfold allocate at h
  dsimp only at h
  split at h
  · cases h; exact .inl ⟨rfl, rfl⟩
  · split at h
    · cases h
    · split at h
      · cases h; exact .inl ⟨rfl, rfl⟩
      · split at h
        · cases h; exact .inl ⟨rfl, rfl⟩
        · split at h
          · cases h
            refine .inr ⟨_, by assumption, by simp_all, by assumption, rfl, rfl⟩
          · cases h

@[simp] theorem admissionRequest_frame (id : RackId) (k : Kind) (n : Quad) (s : State) :
    ((admissionRequest id k n s).1).pending = s.pending ∧ ((admissionRequest id k n s).1).choices = s.choices ∧
    ((admissionRequest id k n s).1).phase = s.phase ∧ ((admissionRequest id k n s).1).coldLine = s.coldLine ∧
    ((admissionRequest id k n s).1).warmLine = s.warmLine ∧ ((admissionRequest id k n s).1).resetKind = s.resetKind ∧
    ((admissionRequest id k n s).1).resetCause = s.resetCause ∧ ((admissionRequest id k n s).1).settle = s.settle ∧
    ((admissionRequest id k n s).1).inputs = s.inputs ∧ ((admissionRequest id k n s).1).plant = s.plant ∧
    ((admissionRequest id k n s).1).track = s.track ∧ ((admissionRequest id k n s).1).dose = s.dose ∧
    ((admissionRequest id k n s).1).programmes = s.programmes ∧
    ((admissionRequest id k n s).1).stations = s.stations ∧ ((admissionRequest id k n s).1).merge = s.merge ∧
    ((admissionRequest id k n s).1).ret = s.ret ∧ ((admissionRequest id k n s).1).interlock = s.interlock ∧
    ((admissionRequest id k n s).1).profile = s.profile ∧
    ((admissionRequest id k n s).1).link.assembly = s.link.assembly ∧
    ((admissionRequest id k n s).1).link.gap = s.link.gap ∧
    ((admissionRequest id k n s).1).link.buffer = s.link.buffer ∧
    ((admissionRequest id k n s).1).link.reply = s.link.reply ∧
    ((admissionRequest id k n s).1).link.transmitter = s.link.transmitter ∧
    ((admissionRequest id k n s).1).link.crcErrors = s.link.crcErrors ∧
    ((admissionRequest id k n s).1).link.framingErrors = s.link.framingErrors ∧
    ((admissionRequest id k n s).1).link.overflows = s.link.overflows ∧
    ((admissionRequest id k n s).1).link.mask = s.link.mask := by
  unfold admissionRequest
  split
  · simp
  · split
    · rename_i h
      rcases allocate_taken h with ⟨rfl, -⟩ | ⟨x, -, -, -, -, rfl⟩ <;> simp
    · simp
    · simp

@[simp] theorem sendAdmission_frame (n : Quad) (final expected : RackId) (k : Kind) (s : State) :
    ((sendAdmission n final expected k s).1).pending = s.pending ∧ ((sendAdmission n final expected k s).1).choices = s.choices ∧
    ((sendAdmission n final expected k s).1).phase = s.phase ∧ ((sendAdmission n final expected k s).1).coldLine = s.coldLine ∧
    ((sendAdmission n final expected k s).1).warmLine = s.warmLine ∧
    ((sendAdmission n final expected k s).1).resetKind = s.resetKind ∧
    ((sendAdmission n final expected k s).1).resetCause = s.resetCause ∧ ((sendAdmission n final expected k s).1).settle = s.settle ∧
    ((sendAdmission n final expected k s).1).inputs = s.inputs ∧ ((sendAdmission n final expected k s).1).plant = s.plant ∧
    ((sendAdmission n final expected k s).1).track = s.track ∧ ((sendAdmission n final expected k s).1).dose = s.dose ∧
    ((sendAdmission n final expected k s).1).programmes = s.programmes ∧
    ((sendAdmission n final expected k s).1).stations = s.stations ∧ ((sendAdmission n final expected k s).1).merge = s.merge ∧
    ((sendAdmission n final expected k s).1).ret = s.ret ∧ ((sendAdmission n final expected k s).1).interlock = s.interlock ∧
    ((sendAdmission n final expected k s).1).profile = s.profile ∧
    ((sendAdmission n final expected k s).1).link.assembly = s.link.assembly ∧
    ((sendAdmission n final expected k s).1).link.gap = s.link.gap ∧
    ((sendAdmission n final expected k s).1).link.buffer = s.link.buffer ∧
    ((sendAdmission n final expected k s).1).link.reply = s.link.reply ∧
    ((sendAdmission n final expected k s).1).link.transmitter = s.link.transmitter ∧
    ((sendAdmission n final expected k s).1).link.crcErrors = s.link.crcErrors ∧
    ((sendAdmission n final expected k s).1).link.framingErrors = s.link.framingErrors ∧
    ((sendAdmission n final expected k s).1).link.overflows = s.link.overflows ∧
    ((sendAdmission n final expected k s).1).link.mask = s.link.mask := by
  unfold sendAdmission
  try dsimp only
  (repeat' split) <;> simp

@[simp] theorem completeSpur_frame (n : Quad) (e : RackId) (k : Kind) (p : Snapshot) (s : State) :
    (completeSpur n e k p s).pending = s.pending ∧ (completeSpur n e k p s).choices = s.choices ∧
    (completeSpur n e k p s).phase = s.phase ∧ (completeSpur n e k p s).coldLine = s.coldLine ∧
    (completeSpur n e k p s).warmLine = s.warmLine ∧ (completeSpur n e k p s).resetKind = s.resetKind ∧
    (completeSpur n e k p s).resetCause = s.resetCause ∧ (completeSpur n e k p s).settle = s.settle ∧
    (completeSpur n e k p s).inputs = s.inputs ∧ (completeSpur n e k p s).plant = s.plant ∧
    (completeSpur n e k p s).dose = s.dose ∧ (completeSpur n e k p s).programmes = s.programmes ∧
    (completeSpur n e k p s).merge = s.merge ∧ (completeSpur n e k p s).interlock = s.interlock ∧
    (completeSpur n e k p s).profile = s.profile ∧ (completeSpur n e k p s).link.assembly = s.link.assembly ∧
    (completeSpur n e k p s).link.gap = s.link.gap ∧ (completeSpur n e k p s).link.buffer = s.link.buffer ∧
    (completeSpur n e k p s).link.reply = s.link.reply ∧
    (completeSpur n e k p s).link.transmitter = s.link.transmitter ∧
    (completeSpur n e k p s).link.crcErrors = s.link.crcErrors ∧
    (completeSpur n e k p s).link.framingErrors = s.link.framingErrors ∧
    (completeSpur n e k p s).link.overflows = s.link.overflows ∧ (completeSpur n e k p s).link.mask = s.link.mask := by
  unfold completeSpur
  simp

@[simp] theorem completeRewash_frame (s : State) :
    (completeRewash s).pending = s.pending ∧ (completeRewash s).choices = s.choices ∧
    (completeRewash s).phase = s.phase ∧ (completeRewash s).coldLine = s.coldLine ∧
    (completeRewash s).warmLine = s.warmLine ∧ (completeRewash s).resetKind = s.resetKind ∧
    (completeRewash s).resetCause = s.resetCause ∧ (completeRewash s).settle = s.settle ∧
    (completeRewash s).inputs = s.inputs ∧ (completeRewash s).plant = s.plant ∧ (completeRewash s).dose = s.dose ∧
    (completeRewash s).programmes = s.programmes ∧ (completeRewash s).stations = s.stations ∧
    (completeRewash s).merge = s.merge ∧ (completeRewash s).interlock = s.interlock ∧
    (completeRewash s).profile = s.profile ∧ (completeRewash s).link = s.link := by
  unfold completeRewash
  try dsimp only
  (repeat' split) <;> simp

@[simp] theorem completeTransfer_frame (s : State) :
    (completeTransfer s).pending = s.pending ∧ (completeTransfer s).choices = s.choices ∧
    (completeTransfer s).phase = s.phase ∧ (completeTransfer s).coldLine = s.coldLine ∧
    (completeTransfer s).warmLine = s.warmLine ∧ (completeTransfer s).resetKind = s.resetKind ∧
    (completeTransfer s).resetCause = s.resetCause ∧ (completeTransfer s).settle = s.settle ∧
    (completeTransfer s).inputs = s.inputs ∧ (completeTransfer s).plant = s.plant ∧
    (completeTransfer s).dose = s.dose ∧ (completeTransfer s).programmes = s.programmes ∧
    (completeTransfer s).interlock = s.interlock ∧ (completeTransfer s).profile = s.profile ∧
    (completeTransfer s).link.assembly = s.link.assembly ∧ (completeTransfer s).link.gap = s.link.gap ∧
    (completeTransfer s).link.buffer = s.link.buffer ∧ (completeTransfer s).link.reply = s.link.reply ∧
    (completeTransfer s).link.transmitter = s.link.transmitter ∧
    (completeTransfer s).link.crcErrors = s.link.crcErrors ∧
    (completeTransfer s).link.framingErrors = s.link.framingErrors ∧
    (completeTransfer s).link.overflows = s.link.overflows ∧ (completeTransfer s).link.mask = s.link.mask := by
  unfold completeTransfer
  try dsimp only
  (repeat' split) <;> simp

@[simp] theorem jamTransfer_frame (s : State) :
    (jamTransfer s).pending = s.pending ∧ (jamTransfer s).choices = s.choices ∧ (jamTransfer s).phase = s.phase ∧
    (jamTransfer s).coldLine = s.coldLine ∧ (jamTransfer s).warmLine = s.warmLine ∧
    (jamTransfer s).resetKind = s.resetKind ∧ (jamTransfer s).resetCause = s.resetCause ∧
    (jamTransfer s).settle = s.settle ∧ (jamTransfer s).inputs = s.inputs ∧ (jamTransfer s).plant = s.plant ∧
    (jamTransfer s).dose = s.dose ∧ (jamTransfer s).programmes = s.programmes ∧
    (jamTransfer s).stations = s.stations ∧ (jamTransfer s).directory = s.directory ∧ (jamTransfer s).ret = s.ret ∧
    (jamTransfer s).profile = s.profile ∧ (jamTransfer s).link.assembly = s.link.assembly ∧
    (jamTransfer s).link.gap = s.link.gap ∧ (jamTransfer s).link.buffer = s.link.buffer ∧
    (jamTransfer s).link.reply = s.link.reply ∧ (jamTransfer s).link.transmitter = s.link.transmitter ∧
    (jamTransfer s).link.crcErrors = s.link.crcErrors ∧ (jamTransfer s).link.framingErrors = s.link.framingErrors ∧
    (jamTransfer s).link.overflows = s.link.overflows ∧ (jamTransfer s).link.mask = s.link.mask := by
  unfold jamTransfer
  try dsimp only
  (repeat' split) <;> simp

@[simp] theorem mergeOpening_frame (s : State) :
    (mergeOpening s).pending = s.pending ∧ (mergeOpening s).choices = s.choices ∧ (mergeOpening s).phase = s.phase ∧
    (mergeOpening s).coldLine = s.coldLine ∧ (mergeOpening s).warmLine = s.warmLine ∧
    (mergeOpening s).resetKind = s.resetKind ∧ (mergeOpening s).resetCause = s.resetCause ∧
    (mergeOpening s).settle = s.settle ∧ (mergeOpening s).inputs = s.inputs ∧ (mergeOpening s).plant = s.plant ∧
    (mergeOpening s).track = s.track ∧ (mergeOpening s).dose = s.dose ∧ (mergeOpening s).programmes = s.programmes ∧
    (mergeOpening s).stations = s.stations ∧ (mergeOpening s).directory = s.directory ∧
    (mergeOpening s).ret = s.ret ∧ (mergeOpening s).interlock = s.interlock ∧ (mergeOpening s).profile = s.profile ∧
    (mergeOpening s).link = s.link := by
  unfold mergeOpening
  try dsimp only
  (repeat' split) <;> simp

@[simp] theorem readGranted_frame (g : Option Grant) (s : State) :
    (readGranted g s).pending = s.pending ∧ (readGranted g s).choices = s.choices ∧
    (readGranted g s).phase = s.phase ∧ (readGranted g s).coldLine = s.coldLine ∧
    (readGranted g s).warmLine = s.warmLine ∧ (readGranted g s).resetKind = s.resetKind ∧
    (readGranted g s).resetCause = s.resetCause ∧ (readGranted g s).settle = s.settle ∧
    (readGranted g s).inputs = s.inputs ∧ (readGranted g s).plant = s.plant ∧ (readGranted g s).track = s.track ∧
    (readGranted g s).dose = s.dose ∧ (readGranted g s).programmes = s.programmes ∧
    (readGranted g s).merge = s.merge ∧ (readGranted g s).ret = s.ret ∧ (readGranted g s).interlock = s.interlock ∧
    (readGranted g s).profile = s.profile ∧ (readGranted g s).link = s.link := by
  unfold readGranted
  try dsimp only
  (repeat' split) <;> simp

@[simp] theorem dropTransfer_frame (s : State) :
    (dropTransfer s).pending = s.pending ∧ (dropTransfer s).choices = s.choices ∧ (dropTransfer s).phase = s.phase ∧
    (dropTransfer s).coldLine = s.coldLine ∧ (dropTransfer s).warmLine = s.warmLine ∧
    (dropTransfer s).resetKind = s.resetKind ∧ (dropTransfer s).resetCause = s.resetCause ∧
    (dropTransfer s).settle = s.settle ∧ (dropTransfer s).inputs = s.inputs ∧ (dropTransfer s).plant = s.plant ∧
    (dropTransfer s).track = s.track ∧ (dropTransfer s).dose = s.dose ∧ (dropTransfer s).programmes = s.programmes ∧
    (dropTransfer s).ret = s.ret ∧ (dropTransfer s).interlock = s.interlock ∧ (dropTransfer s).profile = s.profile ∧
    (dropTransfer s).link = s.link := by
  unfold dropTransfer
  simp

@[simp] theorem resolveTransfer_frame (s : State) :
    (resolveTransfer s).pending = s.pending ∧ (resolveTransfer s).choices = s.choices ∧
    (resolveTransfer s).phase = s.phase ∧ (resolveTransfer s).coldLine = s.coldLine ∧
    (resolveTransfer s).warmLine = s.warmLine ∧ (resolveTransfer s).resetKind = s.resetKind ∧
    (resolveTransfer s).resetCause = s.resetCause ∧ (resolveTransfer s).settle = s.settle ∧
    (resolveTransfer s).inputs = s.inputs ∧ (resolveTransfer s).plant = s.plant ∧ (resolveTransfer s).dose = s.dose ∧
    (resolveTransfer s).programmes = s.programmes ∧ (resolveTransfer s).interlock = s.interlock ∧
    (resolveTransfer s).profile = s.profile ∧ (resolveTransfer s).link.assembly = s.link.assembly ∧
    (resolveTransfer s).link.gap = s.link.gap ∧ (resolveTransfer s).link.buffer = s.link.buffer ∧
    (resolveTransfer s).link.reply = s.link.reply ∧ (resolveTransfer s).link.transmitter = s.link.transmitter ∧
    (resolveTransfer s).link.crcErrors = s.link.crcErrors ∧
    (resolveTransfer s).link.framingErrors = s.link.framingErrors ∧
    (resolveTransfer s).link.overflows = s.link.overflows ∧ (resolveTransfer s).link.mask = s.link.mask := by
  unfold resolveTransfer
  try dsimp only
  (repeat' split) <;> simp

@[simp] theorem resolveInterrupted_frame (s : State) :
    (resolveInterrupted s).pending = s.pending ∧ (resolveInterrupted s).choices = s.choices ∧
    (resolveInterrupted s).phase = s.phase ∧ (resolveInterrupted s).coldLine = s.coldLine ∧
    (resolveInterrupted s).warmLine = s.warmLine ∧ (resolveInterrupted s).resetKind = s.resetKind ∧
    (resolveInterrupted s).resetCause = s.resetCause ∧ (resolveInterrupted s).settle = s.settle ∧
    (resolveInterrupted s).inputs = s.inputs ∧ (resolveInterrupted s).plant = s.plant ∧
    (resolveInterrupted s).dose = s.dose ∧ (resolveInterrupted s).programmes = s.programmes ∧
    (resolveInterrupted s).interlock = s.interlock ∧ (resolveInterrupted s).profile = s.profile ∧
    (resolveInterrupted s).link.assembly = s.link.assembly ∧ (resolveInterrupted s).link.gap = s.link.gap ∧
    (resolveInterrupted s).link.buffer = s.link.buffer ∧ (resolveInterrupted s).link.reply = s.link.reply ∧
    (resolveInterrupted s).link.transmitter = s.link.transmitter ∧
    (resolveInterrupted s).link.crcErrors = s.link.crcErrors ∧
    (resolveInterrupted s).link.framingErrors = s.link.framingErrors ∧
    (resolveInterrupted s).link.overflows = s.link.overflows ∧ (resolveInterrupted s).link.mask = s.link.mask := by
  unfold resolveInterrupted
  try dsimp only
  (repeat' split) <;> simp

@[simp] theorem settleJam_frame (s : State) :
    ((settleJam s).1).pending = s.pending ∧ ((settleJam s).1).choices = s.choices ∧
    ((settleJam s).1).phase = s.phase ∧ ((settleJam s).1).coldLine = s.coldLine ∧
    ((settleJam s).1).warmLine = s.warmLine ∧ ((settleJam s).1).resetKind = s.resetKind ∧
    ((settleJam s).1).resetCause = s.resetCause ∧ ((settleJam s).1).settle = s.settle ∧
    ((settleJam s).1).inputs = s.inputs ∧ ((settleJam s).1).plant = s.plant ∧ ((settleJam s).1).dose = s.dose ∧
    ((settleJam s).1).programmes = s.programmes ∧ ((settleJam s).1).interlock = s.interlock ∧
    ((settleJam s).1).profile = s.profile ∧ ((settleJam s).1).link.assembly = s.link.assembly ∧
    ((settleJam s).1).link.gap = s.link.gap ∧ ((settleJam s).1).link.buffer = s.link.buffer ∧
    ((settleJam s).1).link.reply = s.link.reply ∧ ((settleJam s).1).link.transmitter = s.link.transmitter ∧
    ((settleJam s).1).link.crcErrors = s.link.crcErrors ∧
    ((settleJam s).1).link.framingErrors = s.link.framingErrors ∧
    ((settleJam s).1).link.overflows = s.link.overflows ∧ ((settleJam s).1).link.mask = s.link.mask := by
  unfold settleJam
  try dsimp only
  (repeat' split) <;> simp

@[simp] theorem queueTag_frame (r : TagRead) (s : State) :
    (queueTag r s).pending = s.pending ∧ (queueTag r s).choices = s.choices ∧ (queueTag r s).phase = s.phase ∧
    (queueTag r s).coldLine = s.coldLine ∧ (queueTag r s).warmLine = s.warmLine ∧
    (queueTag r s).resetKind = s.resetKind ∧ (queueTag r s).resetCause = s.resetCause ∧
    (queueTag r s).settle = s.settle ∧ (queueTag r s).inputs = s.inputs ∧ (queueTag r s).plant = s.plant ∧
    (queueTag r s).track = s.track ∧ (queueTag r s).dose = s.dose ∧ (queueTag r s).programmes = s.programmes ∧
    (queueTag r s).stations = s.stations ∧ (queueTag r s).directory = s.directory ∧ (queueTag r s).ret = s.ret ∧
    (queueTag r s).interlock = s.interlock ∧ (queueTag r s).profile = s.profile ∧ (queueTag r s).link = s.link := by
  unfold queueTag
  try dsimp only
  (repeat' split) <;> simp

@[simp] theorem tagByte_frame (b : Byte) (s : State) :
    (tagByte b s).pending = s.pending ∧ (tagByte b s).choices = s.choices ∧ (tagByte b s).phase = s.phase ∧
    (tagByte b s).coldLine = s.coldLine ∧ (tagByte b s).warmLine = s.warmLine ∧
    (tagByte b s).resetKind = s.resetKind ∧ (tagByte b s).resetCause = s.resetCause ∧
    (tagByte b s).settle = s.settle ∧ (tagByte b s).inputs = s.inputs ∧ (tagByte b s).plant = s.plant ∧
    (tagByte b s).track = s.track ∧ (tagByte b s).dose = s.dose ∧ (tagByte b s).programmes = s.programmes ∧
    (tagByte b s).stations = s.stations ∧ (tagByte b s).directory = s.directory ∧ (tagByte b s).ret = s.ret ∧
    (tagByte b s).interlock = s.interlock ∧ (tagByte b s).profile = s.profile ∧ (tagByte b s).link = s.link := by
  unfold tagByte
  try dsimp only
  (repeat' split) <;> simp

@[simp] theorem completeConfirm_frame (s : State) :
    (completeConfirm s).pending = s.pending ∧ (completeConfirm s).choices = s.choices ∧
    (completeConfirm s).phase = s.phase ∧ (completeConfirm s).coldLine = s.coldLine ∧
    (completeConfirm s).warmLine = s.warmLine ∧ (completeConfirm s).resetKind = s.resetKind ∧
    (completeConfirm s).resetCause = s.resetCause ∧ (completeConfirm s).settle = s.settle ∧
    (completeConfirm s).inputs = s.inputs ∧ (completeConfirm s).plant = s.plant ∧ (completeConfirm s).dose = s.dose ∧
    (completeConfirm s).programmes = s.programmes ∧ (completeConfirm s).stations = s.stations ∧
    (completeConfirm s).merge = s.merge ∧ (completeConfirm s).interlock = s.interlock ∧
    (completeConfirm s).profile = s.profile ∧ (completeConfirm s).link.assembly = s.link.assembly ∧
    (completeConfirm s).link.gap = s.link.gap ∧ (completeConfirm s).link.buffer = s.link.buffer ∧
    (completeConfirm s).link.reply = s.link.reply ∧ (completeConfirm s).link.transmitter = s.link.transmitter ∧
    (completeConfirm s).link.crcErrors = s.link.crcErrors ∧
    (completeConfirm s).link.framingErrors = s.link.framingErrors ∧
    (completeConfirm s).link.overflows = s.link.overflows ∧ (completeConfirm s).link.mask = s.link.mask := by
  unfold completeConfirm
  try dsimp only
  (repeat' split) <;> simp

@[simp] theorem confirmOldest_frame (s : State) :
    (confirmOldest s).pending = s.pending ∧ (confirmOldest s).choices = s.choices ∧
    (confirmOldest s).phase = s.phase ∧ (confirmOldest s).coldLine = s.coldLine ∧
    (confirmOldest s).warmLine = s.warmLine ∧ (confirmOldest s).resetKind = s.resetKind ∧
    (confirmOldest s).resetCause = s.resetCause ∧ (confirmOldest s).settle = s.settle ∧
    (confirmOldest s).inputs = s.inputs ∧ (confirmOldest s).plant = s.plant ∧ (confirmOldest s).dose = s.dose ∧
    (confirmOldest s).programmes = s.programmes ∧ (confirmOldest s).stations = s.stations ∧
    (confirmOldest s).merge = s.merge ∧ (confirmOldest s).interlock = s.interlock ∧
    (confirmOldest s).profile = s.profile ∧ (confirmOldest s).link.assembly = s.link.assembly ∧
    (confirmOldest s).link.gap = s.link.gap ∧ (confirmOldest s).link.buffer = s.link.buffer ∧
    (confirmOldest s).link.reply = s.link.reply ∧ (confirmOldest s).link.transmitter = s.link.transmitter ∧
    (confirmOldest s).link.crcErrors = s.link.crcErrors ∧
    (confirmOldest s).link.framingErrors = s.link.framingErrors ∧
    (confirmOldest s).link.overflows = s.link.overflows ∧ (confirmOldest s).link.mask = s.link.mask := by
  unfold confirmOldest
  try dsimp only
  (repeat' split) <;> simp

@[simp] theorem pressUnload_frame (s : State) :
    (pressUnload s).pending = s.pending ∧ (pressUnload s).choices = s.choices ∧ (pressUnload s).phase = s.phase ∧
    (pressUnload s).coldLine = s.coldLine ∧ (pressUnload s).warmLine = s.warmLine ∧
    (pressUnload s).resetKind = s.resetKind ∧ (pressUnload s).resetCause = s.resetCause ∧
    (pressUnload s).settle = s.settle ∧ (pressUnload s).inputs = s.inputs ∧ (pressUnload s).plant = s.plant ∧
    (pressUnload s).dose = s.dose ∧ (pressUnload s).programmes = s.programmes ∧
    (pressUnload s).stations = s.stations ∧ (pressUnload s).merge = s.merge ∧
    (pressUnload s).interlock = s.interlock ∧ (pressUnload s).profile = s.profile ∧
    (pressUnload s).link.assembly = s.link.assembly ∧ (pressUnload s).link.gap = s.link.gap ∧
    (pressUnload s).link.buffer = s.link.buffer ∧ (pressUnload s).link.reply = s.link.reply ∧
    (pressUnload s).link.transmitter = s.link.transmitter ∧ (pressUnload s).link.crcErrors = s.link.crcErrors ∧
    (pressUnload s).link.framingErrors = s.link.framingErrors ∧ (pressUnload s).link.overflows = s.link.overflows ∧
    (pressUnload s).link.mask = s.link.mask := by
  unfold pressUnload
  try dsimp only
  (repeat' split) <;> simp

@[simp] theorem startDelivery_frame (n : Quad) (id : RackId) (k : Kind) (o : Origin) (s : State) :
    (startDelivery n id k o s).pending = s.pending ∧ (startDelivery n id k o s).choices = s.choices ∧
    (startDelivery n id k o s).phase = s.phase ∧ (startDelivery n id k o s).coldLine = s.coldLine ∧
    (startDelivery n id k o s).warmLine = s.warmLine ∧ (startDelivery n id k o s).resetKind = s.resetKind ∧
    (startDelivery n id k o s).resetCause = s.resetCause ∧ (startDelivery n id k o s).settle = s.settle ∧
    (startDelivery n id k o s).inputs = s.inputs ∧ (startDelivery n id k o s).plant = s.plant ∧
    (startDelivery n id k o s).track = s.track ∧ (startDelivery n id k o s).dose = s.dose ∧
    (startDelivery n id k o s).programmes = s.programmes ∧ (startDelivery n id k o s).merge = s.merge ∧
    (startDelivery n id k o s).ret = s.ret ∧ (startDelivery n id k o s).interlock = s.interlock ∧
    (startDelivery n id k o s).profile = s.profile ∧ (startDelivery n id k o s).link = s.link := by
  unfold startDelivery
  simp

@[simp] theorem offerFeed_frame (s : State) :
    ((offerFeed s).1).pending = s.pending ∧ ((offerFeed s).1).choices = s.choices ∧
    ((offerFeed s).1).phase = s.phase ∧ ((offerFeed s).1).coldLine = s.coldLine ∧
    ((offerFeed s).1).warmLine = s.warmLine ∧ ((offerFeed s).1).resetKind = s.resetKind ∧
    ((offerFeed s).1).resetCause = s.resetCause ∧ ((offerFeed s).1).settle = s.settle ∧
    ((offerFeed s).1).inputs = s.inputs ∧ ((offerFeed s).1).plant = s.plant ∧ ((offerFeed s).1).track = s.track ∧
    ((offerFeed s).1).dose = s.dose ∧ ((offerFeed s).1).programmes = s.programmes ∧
    ((offerFeed s).1).merge = s.merge ∧ ((offerFeed s).1).interlock = s.interlock ∧
    ((offerFeed s).1).profile = s.profile ∧ ((offerFeed s).1).link = s.link := by
  unfold offerFeed
  try dsimp only
  (repeat' split) <;> simp

@[simp] theorem completePending_frame (s : State) :
    (completePending s).pending = s.pending ∧ (completePending s).choices = s.choices ∧
    (completePending s).phase = s.phase ∧ (completePending s).coldLine = s.coldLine ∧
    (completePending s).warmLine = s.warmLine ∧ (completePending s).resetKind = s.resetKind ∧
    (completePending s).resetCause = s.resetCause ∧ (completePending s).settle = s.settle ∧
    (completePending s).inputs = s.inputs ∧ (completePending s).plant = s.plant ∧ (completePending s).dose = s.dose ∧
    (completePending s).programmes = s.programmes ∧ (completePending s).stations = s.stations ∧
    (completePending s).merge = s.merge ∧ (completePending s).interlock = s.interlock ∧
    (completePending s).profile = s.profile ∧ (completePending s).link.assembly = s.link.assembly ∧
    (completePending s).link.gap = s.link.gap ∧ (completePending s).link.buffer = s.link.buffer ∧
    (completePending s).link.reply = s.link.reply ∧ (completePending s).link.transmitter = s.link.transmitter ∧
    (completePending s).link.crcErrors = s.link.crcErrors ∧
    (completePending s).link.framingErrors = s.link.framingErrors ∧
    (completePending s).link.overflows = s.link.overflows ∧ (completePending s).link.mask = s.link.mask := by
  unfold completePending
  try dsimp only
  (repeat' split) <;> simp

@[simp] theorem placeRack_frame (r : TrackRecord) (t : Route) (s : State) :
    (placeRack r t s).pending = s.pending ∧ (placeRack r t s).choices = s.choices ∧
    (placeRack r t s).phase = s.phase ∧ (placeRack r t s).coldLine = s.coldLine ∧
    (placeRack r t s).warmLine = s.warmLine ∧ (placeRack r t s).resetKind = s.resetKind ∧
    (placeRack r t s).resetCause = s.resetCause ∧ (placeRack r t s).settle = s.settle ∧
    (placeRack r t s).inputs = s.inputs ∧ (placeRack r t s).plant = s.plant ∧ (placeRack r t s).track = s.track ∧
    (placeRack r t s).dose = s.dose ∧ (placeRack r t s).programmes = s.programmes ∧
    (placeRack r t s).merge = s.merge ∧ (placeRack r t s).interlock = s.interlock ∧
    (placeRack r t s).profile = s.profile ∧ (placeRack r t s).link = s.link := by
  unfold placeRack
  try dsimp only
  (repeat' split) <;> simp

@[simp] theorem routeHead_frame (r : TrackRecord) (t : Route) (s : State) :
    (routeHead r t s).pending = s.pending ∧ (routeHead r t s).choices = s.choices ∧
    (routeHead r t s).phase = s.phase ∧ (routeHead r t s).coldLine = s.coldLine ∧
    (routeHead r t s).warmLine = s.warmLine ∧ (routeHead r t s).resetKind = s.resetKind ∧
    (routeHead r t s).resetCause = s.resetCause ∧ (routeHead r t s).settle = s.settle ∧
    (routeHead r t s).inputs = s.inputs ∧ (routeHead r t s).plant = s.plant ∧ (routeHead r t s).dose = s.dose ∧
    (routeHead r t s).programmes = s.programmes ∧ (routeHead r t s).merge = s.merge ∧
    (routeHead r t s).interlock = s.interlock ∧ (routeHead r t s).profile = s.profile ∧
    (routeHead r t s).link.assembly = s.link.assembly ∧ (routeHead r t s).link.gap = s.link.gap ∧
    (routeHead r t s).link.buffer = s.link.buffer ∧ (routeHead r t s).link.reply = s.link.reply ∧
    (routeHead r t s).link.transmitter = s.link.transmitter ∧ (routeHead r t s).link.crcErrors = s.link.crcErrors ∧
    (routeHead r t s).link.framingErrors = s.link.framingErrors ∧
    (routeHead r t s).link.overflows = s.link.overflows ∧ (routeHead r t s).link.mask = s.link.mask := by
  unfold routeHead
  simp

@[simp] theorem routeHeld_frame (r : TrackRecord) (t : Route) (s : State) :
    (routeHeld r t s).pending = s.pending ∧ (routeHeld r t s).choices = s.choices ∧
    (routeHeld r t s).phase = s.phase ∧ (routeHeld r t s).coldLine = s.coldLine ∧
    (routeHeld r t s).warmLine = s.warmLine ∧ (routeHeld r t s).resetKind = s.resetKind ∧
    (routeHeld r t s).resetCause = s.resetCause ∧ (routeHeld r t s).settle = s.settle ∧
    (routeHeld r t s).inputs = s.inputs ∧ (routeHeld r t s).plant = s.plant ∧ (routeHeld r t s).dose = s.dose ∧
    (routeHeld r t s).programmes = s.programmes ∧ (routeHeld r t s).merge = s.merge ∧
    (routeHeld r t s).interlock = s.interlock ∧ (routeHeld r t s).profile = s.profile ∧
    (routeHeld r t s).link.assembly = s.link.assembly ∧ (routeHeld r t s).link.gap = s.link.gap ∧
    (routeHeld r t s).link.buffer = s.link.buffer ∧ (routeHeld r t s).link.reply = s.link.reply ∧
    (routeHeld r t s).link.transmitter = s.link.transmitter ∧ (routeHeld r t s).link.crcErrors = s.link.crcErrors ∧
    (routeHeld r t s).link.framingErrors = s.link.framingErrors ∧
    (routeHeld r t s).link.overflows = s.link.overflows ∧ (routeHeld r t s).link.mask = s.link.mask := by
  unfold routeHeld
  simp

@[simp] theorem inspectHead_frame (r : TrackRecord) (e : DirEntry) (t : RetireTest) (s : State) :
    (inspectHead r e t s).pending = s.pending ∧ (inspectHead r e t s).choices = s.choices ∧
    (inspectHead r e t s).phase = s.phase ∧ (inspectHead r e t s).coldLine = s.coldLine ∧
    (inspectHead r e t s).warmLine = s.warmLine ∧ (inspectHead r e t s).resetKind = s.resetKind ∧
    (inspectHead r e t s).resetCause = s.resetCause ∧ (inspectHead r e t s).settle = s.settle ∧
    (inspectHead r e t s).inputs = s.inputs ∧ (inspectHead r e t s).plant = s.plant ∧
    (inspectHead r e t s).dose = s.dose ∧ (inspectHead r e t s).programmes = s.programmes ∧
    (inspectHead r e t s).stations = s.stations ∧ (inspectHead r e t s).merge = s.merge ∧
    (inspectHead r e t s).interlock = s.interlock ∧ (inspectHead r e t s).profile = s.profile ∧
    (inspectHead r e t s).link.assembly = s.link.assembly ∧ (inspectHead r e t s).link.gap = s.link.gap ∧
    (inspectHead r e t s).link.buffer = s.link.buffer ∧ (inspectHead r e t s).link.reply = s.link.reply ∧
    (inspectHead r e t s).link.transmitter = s.link.transmitter ∧
    (inspectHead r e t s).link.crcErrors = s.link.crcErrors ∧
    (inspectHead r e t s).link.framingErrors = s.link.framingErrors ∧
    (inspectHead r e t s).link.overflows = s.link.overflows ∧ (inspectHead r e t s).link.mask = s.link.mask := by
  unfold inspectHead
  simp

@[simp] theorem holdHead_frame (r : TrackRecord) (s : State) :
    (holdHead r s).pending = s.pending ∧ (holdHead r s).choices = s.choices ∧ (holdHead r s).phase = s.phase ∧
    (holdHead r s).coldLine = s.coldLine ∧ (holdHead r s).warmLine = s.warmLine ∧
    (holdHead r s).resetKind = s.resetKind ∧ (holdHead r s).resetCause = s.resetCause ∧
    (holdHead r s).settle = s.settle ∧ (holdHead r s).inputs = s.inputs ∧ (holdHead r s).plant = s.plant ∧
    (holdHead r s).track = s.track ∧ (holdHead r s).dose = s.dose ∧ (holdHead r s).programmes = s.programmes ∧
    (holdHead r s).stations = s.stations ∧ (holdHead r s).merge = s.merge ∧ (holdHead r s).directory = s.directory ∧
    (holdHead r s).interlock = s.interlock ∧ (holdHead r s).profile = s.profile ∧
    (holdHead r s).link.assembly = s.link.assembly ∧ (holdHead r s).link.gap = s.link.gap ∧
    (holdHead r s).link.buffer = s.link.buffer ∧ (holdHead r s).link.reply = s.link.reply ∧
    (holdHead r s).link.transmitter = s.link.transmitter ∧ (holdHead r s).link.crcErrors = s.link.crcErrors ∧
    (holdHead r s).link.framingErrors = s.link.framingErrors ∧ (holdHead r s).link.overflows = s.link.overflows ∧
    (holdHead r s).link.mask = s.link.mask := by
  unfold holdHead
  simp

@[simp] theorem routerLookup_frame (id : RackId) (s : State) :
    ((routerLookup id s).1).pending = s.pending ∧ ((routerLookup id s).1).choices = s.choices ∧
    ((routerLookup id s).1).phase = s.phase ∧ ((routerLookup id s).1).coldLine = s.coldLine ∧
    ((routerLookup id s).1).warmLine = s.warmLine ∧ ((routerLookup id s).1).resetKind = s.resetKind ∧
    ((routerLookup id s).1).resetCause = s.resetCause ∧ ((routerLookup id s).1).settle = s.settle ∧
    ((routerLookup id s).1).inputs = s.inputs ∧ ((routerLookup id s).1).plant = s.plant ∧
    ((routerLookup id s).1).track = s.track ∧ ((routerLookup id s).1).dose = s.dose ∧
    ((routerLookup id s).1).programmes = s.programmes ∧ ((routerLookup id s).1).stations = s.stations ∧
    ((routerLookup id s).1).merge = s.merge ∧ ((routerLookup id s).1).ret = s.ret ∧
    ((routerLookup id s).1).interlock = s.interlock ∧ ((routerLookup id s).1).profile = s.profile ∧
    ((routerLookup id s).1).link = s.link := by
  unfold routerLookup
  try dsimp only
  (repeat' split) <;> simp

@[simp] theorem arrive_frame (r : TrackRecord) (s : State) :
    (arrive r s).pending = s.pending ∧ (arrive r s).choices = s.choices ∧ (arrive r s).phase = s.phase ∧
    (arrive r s).coldLine = s.coldLine ∧ (arrive r s).warmLine = s.warmLine ∧ (arrive r s).resetKind = s.resetKind ∧
    (arrive r s).resetCause = s.resetCause ∧ (arrive r s).settle = s.settle ∧ (arrive r s).inputs = s.inputs ∧
    (arrive r s).plant = s.plant ∧ (arrive r s).dose = s.dose ∧ (arrive r s).programmes = s.programmes ∧
    (arrive r s).merge = s.merge ∧ (arrive r s).interlock = s.interlock ∧ (arrive r s).profile = s.profile ∧
    (arrive r s).link.assembly = s.link.assembly ∧ (arrive r s).link.gap = s.link.gap ∧
    (arrive r s).link.buffer = s.link.buffer ∧ (arrive r s).link.reply = s.link.reply ∧
    (arrive r s).link.transmitter = s.link.transmitter ∧ (arrive r s).link.crcErrors = s.link.crcErrors ∧
    (arrive r s).link.framingErrors = s.link.framingErrors ∧ (arrive r s).link.overflows = s.link.overflows ∧
    (arrive r s).link.mask = s.link.mask := by
  unfold arrive
  try dsimp only
  (repeat' split) <;> simp

@[simp] theorem tryArrival_frame (s : State) :
    (tryArrival s).pending = s.pending ∧ (tryArrival s).choices = s.choices ∧ (tryArrival s).phase = s.phase ∧
    (tryArrival s).coldLine = s.coldLine ∧ (tryArrival s).warmLine = s.warmLine ∧
    (tryArrival s).resetKind = s.resetKind ∧ (tryArrival s).resetCause = s.resetCause ∧
    (tryArrival s).settle = s.settle ∧ (tryArrival s).inputs = s.inputs ∧ (tryArrival s).plant = s.plant ∧
    (tryArrival s).dose = s.dose ∧ (tryArrival s).programmes = s.programmes ∧ (tryArrival s).merge = s.merge ∧
    (tryArrival s).interlock = s.interlock ∧ (tryArrival s).profile = s.profile ∧
    (tryArrival s).link.assembly = s.link.assembly ∧ (tryArrival s).link.gap = s.link.gap ∧
    (tryArrival s).link.buffer = s.link.buffer ∧ (tryArrival s).link.reply = s.link.reply ∧
    (tryArrival s).link.transmitter = s.link.transmitter ∧ (tryArrival s).link.crcErrors = s.link.crcErrors ∧
    (tryArrival s).link.framingErrors = s.link.framingErrors ∧ (tryArrival s).link.overflows = s.link.overflows ∧
    (tryArrival s).link.mask = s.link.mask := by
  unfold tryArrival
  try dsimp only
  (repeat' split) <;> simp

@[simp] theorem retryHeld_frame (s : State) :
    (retryHeld s).pending = s.pending ∧ (retryHeld s).choices = s.choices ∧ (retryHeld s).phase = s.phase ∧
    (retryHeld s).coldLine = s.coldLine ∧ (retryHeld s).warmLine = s.warmLine ∧
    (retryHeld s).resetKind = s.resetKind ∧ (retryHeld s).resetCause = s.resetCause ∧
    (retryHeld s).settle = s.settle ∧ (retryHeld s).inputs = s.inputs ∧ (retryHeld s).plant = s.plant ∧
    (retryHeld s).dose = s.dose ∧ (retryHeld s).programmes = s.programmes ∧ (retryHeld s).merge = s.merge ∧
    (retryHeld s).interlock = s.interlock ∧ (retryHeld s).profile = s.profile ∧
    (retryHeld s).link.assembly = s.link.assembly ∧ (retryHeld s).link.gap = s.link.gap ∧
    (retryHeld s).link.buffer = s.link.buffer ∧ (retryHeld s).link.reply = s.link.reply ∧
    (retryHeld s).link.transmitter = s.link.transmitter ∧ (retryHeld s).link.crcErrors = s.link.crcErrors ∧
    (retryHeld s).link.framingErrors = s.link.framingErrors ∧ (retryHeld s).link.overflows = s.link.overflows ∧
    (retryHeld s).link.mask = s.link.mask := by
  unfold retryHeld
  try dsimp only
  (repeat' split) <;> simp

@[simp] theorem prompt_frame (s : State) :
    (prompt s).pending = s.pending ∧ (prompt s).choices = s.choices ∧ (prompt s).phase = s.phase ∧
    (prompt s).coldLine = s.coldLine ∧ (prompt s).warmLine = s.warmLine ∧ (prompt s).resetKind = s.resetKind ∧
    (prompt s).resetCause = s.resetCause ∧ (prompt s).settle = s.settle ∧ (prompt s).inputs = s.inputs ∧
    (prompt s).plant = s.plant ∧ (prompt s).dose = s.dose ∧ (prompt s).programmes = s.programmes ∧
    (prompt s).merge = s.merge ∧ (prompt s).interlock = s.interlock ∧ (prompt s).profile = s.profile ∧
    (prompt s).link.assembly = s.link.assembly ∧ (prompt s).link.gap = s.link.gap ∧
    (prompt s).link.buffer = s.link.buffer ∧ (prompt s).link.reply = s.link.reply ∧
    (prompt s).link.transmitter = s.link.transmitter ∧ (prompt s).link.crcErrors = s.link.crcErrors ∧
    (prompt s).link.framingErrors = s.link.framingErrors ∧ (prompt s).link.overflows = s.link.overflows ∧
    (prompt s).link.mask = s.link.mask := by
  unfold prompt
  try dsimp only
  (repeat' split) <;> simp

@[simp] theorem reportStray_frame (s : State) :
    (reportStray s).pending = s.pending ∧ (reportStray s).choices = s.choices ∧ (reportStray s).phase = s.phase ∧
    (reportStray s).coldLine = s.coldLine ∧ (reportStray s).warmLine = s.warmLine ∧
    (reportStray s).resetKind = s.resetKind ∧ (reportStray s).resetCause = s.resetCause ∧
    (reportStray s).settle = s.settle ∧ (reportStray s).inputs = s.inputs ∧ (reportStray s).plant = s.plant ∧
    (reportStray s).track = s.track ∧ (reportStray s).dose = s.dose ∧ (reportStray s).programmes = s.programmes ∧
    (reportStray s).stations = s.stations ∧ (reportStray s).merge = s.merge ∧
    (reportStray s).directory = s.directory ∧ (reportStray s).ret = s.ret ∧
    (reportStray s).interlock = s.interlock ∧ (reportStray s).profile = s.profile ∧
    (reportStray s).link.assembly = s.link.assembly ∧ (reportStray s).link.gap = s.link.gap ∧
    (reportStray s).link.buffer = s.link.buffer ∧ (reportStray s).link.reply = s.link.reply ∧
    (reportStray s).link.transmitter = s.link.transmitter ∧ (reportStray s).link.crcErrors = s.link.crcErrors ∧
    (reportStray s).link.framingErrors = s.link.framingErrors ∧ (reportStray s).link.overflows = s.link.overflows ∧
    (reportStray s).link.mask = s.link.mask := by
  unfold reportStray
  simp

@[simp] theorem arrivalMade_frame (s : State) :
    (arrivalMade s).pending = s.pending ∧ (arrivalMade s).choices = s.choices ∧ (arrivalMade s).phase = s.phase ∧
    (arrivalMade s).coldLine = s.coldLine ∧ (arrivalMade s).warmLine = s.warmLine ∧
    (arrivalMade s).resetKind = s.resetKind ∧ (arrivalMade s).resetCause = s.resetCause ∧
    (arrivalMade s).settle = s.settle ∧ (arrivalMade s).inputs = s.inputs ∧ (arrivalMade s).plant = s.plant ∧
    (arrivalMade s).dose = s.dose ∧ (arrivalMade s).programmes = s.programmes ∧ (arrivalMade s).merge = s.merge ∧
    (arrivalMade s).interlock = s.interlock ∧ (arrivalMade s).profile = s.profile ∧
    (arrivalMade s).link.assembly = s.link.assembly ∧ (arrivalMade s).link.gap = s.link.gap ∧
    (arrivalMade s).link.buffer = s.link.buffer ∧ (arrivalMade s).link.reply = s.link.reply ∧
    (arrivalMade s).link.transmitter = s.link.transmitter ∧ (arrivalMade s).link.crcErrors = s.link.crcErrors ∧
    (arrivalMade s).link.framingErrors = s.link.framingErrors ∧ (arrivalMade s).link.overflows = s.link.overflows ∧
    (arrivalMade s).link.mask = s.link.mask := by
  unfold arrivalMade
  try dsimp only
  (repeat' split) <;> simp

@[simp] theorem returnClearance_frame (s : State) :
    (returnClearance s).pending = s.pending ∧ (returnClearance s).choices = s.choices ∧
    (returnClearance s).phase = s.phase ∧ (returnClearance s).coldLine = s.coldLine ∧
    (returnClearance s).warmLine = s.warmLine ∧ (returnClearance s).resetKind = s.resetKind ∧
    (returnClearance s).resetCause = s.resetCause ∧ (returnClearance s).settle = s.settle ∧
    (returnClearance s).inputs = s.inputs ∧ (returnClearance s).plant = s.plant ∧ (returnClearance s).dose = s.dose ∧
    (returnClearance s).programmes = s.programmes ∧ (returnClearance s).merge = s.merge ∧
    (returnClearance s).interlock = s.interlock ∧ (returnClearance s).profile = s.profile ∧
    (returnClearance s).link.assembly = s.link.assembly ∧ (returnClearance s).link.gap = s.link.gap ∧
    (returnClearance s).link.buffer = s.link.buffer ∧ (returnClearance s).link.reply = s.link.reply ∧
    (returnClearance s).link.transmitter = s.link.transmitter ∧
    (returnClearance s).link.crcErrors = s.link.crcErrors ∧
    (returnClearance s).link.framingErrors = s.link.framingErrors ∧
    (returnClearance s).link.overflows = s.link.overflows ∧ (returnClearance s).link.mask = s.link.mask := by
  unfold returnClearance
  simp

@[simp] theorem changeEstop_frame (o : Bool) (s : State) :
    (changeEstop o s).pending = s.pending ∧ (changeEstop o s).choices = s.choices ∧
    (changeEstop o s).phase = s.phase ∧ (changeEstop o s).coldLine = s.coldLine ∧
    (changeEstop o s).warmLine = s.warmLine ∧ (changeEstop o s).resetKind = s.resetKind ∧
    (changeEstop o s).resetCause = s.resetCause ∧ (changeEstop o s).settle = s.settle ∧
    (changeEstop o s).inputs = s.inputs ∧ (changeEstop o s).plant = s.plant ∧ (changeEstop o s).dose = s.dose ∧
    (changeEstop o s).programmes = s.programmes ∧ (changeEstop o s).profile = s.profile ∧
    (changeEstop o s).link.assembly = s.link.assembly ∧ (changeEstop o s).link.gap = s.link.gap ∧
    (changeEstop o s).link.buffer = s.link.buffer ∧ (changeEstop o s).link.reply = s.link.reply ∧
    (changeEstop o s).link.transmitter = s.link.transmitter ∧ (changeEstop o s).link.crcErrors = s.link.crcErrors ∧
    (changeEstop o s).link.framingErrors = s.link.framingErrors ∧
    (changeEstop o s).link.overflows = s.link.overflows ∧ (changeEstop o s).link.mask = s.link.mask := by
  unfold changeEstop
  try dsimp only
  (repeat' split) <;> simp

@[simp] theorem changeDoor_frame (o : Bool) (s : State) :
    (changeDoor o s).pending = s.pending ∧ (changeDoor o s).choices = s.choices ∧ (changeDoor o s).phase = s.phase ∧
    (changeDoor o s).coldLine = s.coldLine ∧ (changeDoor o s).warmLine = s.warmLine ∧
    (changeDoor o s).resetKind = s.resetKind ∧ (changeDoor o s).resetCause = s.resetCause ∧
    (changeDoor o s).settle = s.settle ∧ (changeDoor o s).inputs = s.inputs ∧ (changeDoor o s).plant = s.plant ∧
    (changeDoor o s).dose = s.dose ∧ (changeDoor o s).programmes = s.programmes ∧
    (changeDoor o s).stations = s.stations ∧ (changeDoor o s).directory = s.directory ∧
    (changeDoor o s).ret = s.ret ∧ (changeDoor o s).profile = s.profile ∧
    (changeDoor o s).link.assembly = s.link.assembly ∧ (changeDoor o s).link.gap = s.link.gap ∧
    (changeDoor o s).link.buffer = s.link.buffer ∧ (changeDoor o s).link.reply = s.link.reply ∧
    (changeDoor o s).link.transmitter = s.link.transmitter ∧ (changeDoor o s).link.crcErrors = s.link.crcErrors ∧
    (changeDoor o s).link.framingErrors = s.link.framingErrors ∧ (changeDoor o s).link.overflows = s.link.overflows ∧
    (changeDoor o s).link.mask = s.link.mask := by
  unfold changeDoor
  try dsimp only
  (repeat' split) <;> simp

@[simp] theorem changeRinse_frame (o : Bool) (s : State) :
    (changeRinse o s).pending = s.pending ∧ (changeRinse o s).choices = s.choices ∧
    (changeRinse o s).phase = s.phase ∧ (changeRinse o s).coldLine = s.coldLine ∧
    (changeRinse o s).warmLine = s.warmLine ∧ (changeRinse o s).resetKind = s.resetKind ∧
    (changeRinse o s).resetCause = s.resetCause ∧ (changeRinse o s).settle = s.settle ∧
    (changeRinse o s).inputs = s.inputs ∧ (changeRinse o s).plant = s.plant ∧ (changeRinse o s).track = s.track ∧
    (changeRinse o s).dose = s.dose ∧ (changeRinse o s).programmes = s.programmes ∧
    (changeRinse o s).stations = s.stations ∧ (changeRinse o s).merge = s.merge ∧
    (changeRinse o s).directory = s.directory ∧ (changeRinse o s).ret = s.ret ∧
    (changeRinse o s).profile = s.profile ∧ (changeRinse o s).link.assembly = s.link.assembly ∧
    (changeRinse o s).link.gap = s.link.gap ∧ (changeRinse o s).link.buffer = s.link.buffer ∧
    (changeRinse o s).link.reply = s.link.reply ∧ (changeRinse o s).link.transmitter = s.link.transmitter ∧
    (changeRinse o s).link.crcErrors = s.link.crcErrors ∧
    (changeRinse o s).link.framingErrors = s.link.framingErrors ∧
    (changeRinse o s).link.overflows = s.link.overflows ∧ (changeRinse o s).link.mask = s.link.mask := by
  unfold changeRinse
  try dsimp only
  (repeat' split) <;> simp

@[simp] theorem changeTank_frame (o : Bool) (s : State) :
    (changeTank o s).pending = s.pending ∧ (changeTank o s).choices = s.choices ∧ (changeTank o s).phase = s.phase ∧
    (changeTank o s).coldLine = s.coldLine ∧ (changeTank o s).warmLine = s.warmLine ∧
    (changeTank o s).resetKind = s.resetKind ∧ (changeTank o s).resetCause = s.resetCause ∧
    (changeTank o s).settle = s.settle ∧ (changeTank o s).inputs = s.inputs ∧ (changeTank o s).plant = s.plant ∧
    (changeTank o s).dose = s.dose ∧ (changeTank o s).programmes = s.programmes ∧
    (changeTank o s).stations = s.stations ∧ (changeTank o s).merge = s.merge ∧ (changeTank o s).ret = s.ret ∧
    (changeTank o s).profile = s.profile ∧ (changeTank o s).link.assembly = s.link.assembly ∧
    (changeTank o s).link.gap = s.link.gap ∧ (changeTank o s).link.buffer = s.link.buffer ∧
    (changeTank o s).link.reply = s.link.reply ∧ (changeTank o s).link.transmitter = s.link.transmitter ∧
    (changeTank o s).link.crcErrors = s.link.crcErrors ∧ (changeTank o s).link.framingErrors = s.link.framingErrors ∧
    (changeTank o s).link.overflows = s.link.overflows ∧ (changeTank o s).link.mask = s.link.mask := by
  unfold changeTank
  try dsimp only
  (repeat' split) <;> simp

@[simp] theorem releaseGroup_frame (s : State) :
    (releaseGroup s).pending = s.pending ∧ (releaseGroup s).choices = s.choices ∧ (releaseGroup s).phase = s.phase ∧
    (releaseGroup s).coldLine = s.coldLine ∧ (releaseGroup s).warmLine = s.warmLine ∧
    (releaseGroup s).resetKind = s.resetKind ∧ (releaseGroup s).resetCause = s.resetCause ∧
    (releaseGroup s).settle = s.settle ∧ (releaseGroup s).inputs = s.inputs ∧ (releaseGroup s).plant = s.plant ∧
    (releaseGroup s).track = s.track ∧ (releaseGroup s).dose = s.dose ∧ (releaseGroup s).programmes = s.programmes ∧
    (releaseGroup s).stations = s.stations ∧ (releaseGroup s).merge = s.merge ∧
    (releaseGroup s).directory = s.directory ∧ (releaseGroup s).ret = s.ret ∧ (releaseGroup s).profile = s.profile ∧
    (releaseGroup s).link.assembly = s.link.assembly ∧ (releaseGroup s).link.gap = s.link.gap ∧
    (releaseGroup s).link.buffer = s.link.buffer ∧ (releaseGroup s).link.reply = s.link.reply ∧
    (releaseGroup s).link.transmitter = s.link.transmitter ∧ (releaseGroup s).link.crcErrors = s.link.crcErrors ∧
    (releaseGroup s).link.framingErrors = s.link.framingErrors ∧ (releaseGroup s).link.overflows = s.link.overflows ∧
    (releaseGroup s).link.mask = s.link.mask := by
  unfold releaseGroup
  try dsimp only
  (repeat' split) <;> simp

@[simp] theorem idleExpiry_frame (s : State) :
    (idleExpiry s).pending = s.pending ∧ (idleExpiry s).choices = s.choices ∧ (idleExpiry s).phase = s.phase ∧
    (idleExpiry s).coldLine = s.coldLine ∧ (idleExpiry s).warmLine = s.warmLine ∧
    (idleExpiry s).resetKind = s.resetKind ∧ (idleExpiry s).resetCause = s.resetCause ∧
    (idleExpiry s).settle = s.settle ∧ (idleExpiry s).inputs = s.inputs ∧ (idleExpiry s).plant = s.plant ∧
    (idleExpiry s).dose = s.dose ∧ (idleExpiry s).programmes = s.programmes ∧ (idleExpiry s).stations = s.stations ∧
    (idleExpiry s).merge = s.merge ∧ (idleExpiry s).directory = s.directory ∧ (idleExpiry s).ret = s.ret ∧
    (idleExpiry s).profile = s.profile ∧ (idleExpiry s).link.assembly = s.link.assembly ∧
    (idleExpiry s).link.gap = s.link.gap ∧ (idleExpiry s).link.buffer = s.link.buffer ∧
    (idleExpiry s).link.reply = s.link.reply ∧ (idleExpiry s).link.transmitter = s.link.transmitter ∧
    (idleExpiry s).link.crcErrors = s.link.crcErrors ∧ (idleExpiry s).link.framingErrors = s.link.framingErrors ∧
    (idleExpiry s).link.overflows = s.link.overflows ∧ (idleExpiry s).link.mask = s.link.mask := by
  unfold idleExpiry
  try dsimp only
  (repeat' split) <;> simp

@[simp] theorem recoveryExpiry_frame (s : State) :
    (recoveryExpiry s).pending = s.pending ∧ (recoveryExpiry s).choices = s.choices ∧
    (recoveryExpiry s).phase = s.phase ∧ (recoveryExpiry s).coldLine = s.coldLine ∧
    (recoveryExpiry s).warmLine = s.warmLine ∧ (recoveryExpiry s).resetKind = s.resetKind ∧
    (recoveryExpiry s).resetCause = s.resetCause ∧ (recoveryExpiry s).settle = s.settle ∧
    (recoveryExpiry s).inputs = s.inputs ∧ (recoveryExpiry s).plant = s.plant ∧ (recoveryExpiry s).dose = s.dose ∧
    (recoveryExpiry s).programmes = s.programmes ∧ (recoveryExpiry s).stations = s.stations ∧
    (recoveryExpiry s).merge = s.merge ∧ (recoveryExpiry s).ret = s.ret ∧ (recoveryExpiry s).profile = s.profile ∧
    (recoveryExpiry s).link.assembly = s.link.assembly ∧ (recoveryExpiry s).link.gap = s.link.gap ∧
    (recoveryExpiry s).link.buffer = s.link.buffer ∧ (recoveryExpiry s).link.reply = s.link.reply ∧
    (recoveryExpiry s).link.transmitter = s.link.transmitter ∧ (recoveryExpiry s).link.crcErrors = s.link.crcErrors ∧
    (recoveryExpiry s).link.framingErrors = s.link.framingErrors ∧
    (recoveryExpiry s).link.overflows = s.link.overflows ∧ (recoveryExpiry s).link.mask = s.link.mask := by
  unfold recoveryExpiry
  try dsimp only
  (repeat' split) <;> simp

@[simp] theorem limitExpiry_frame (s : State) :
    (limitExpiry s).pending = s.pending ∧ (limitExpiry s).choices = s.choices ∧ (limitExpiry s).phase = s.phase ∧
    (limitExpiry s).coldLine = s.coldLine ∧ (limitExpiry s).warmLine = s.warmLine ∧
    (limitExpiry s).resetKind = s.resetKind ∧ (limitExpiry s).resetCause = s.resetCause ∧
    (limitExpiry s).settle = s.settle ∧ (limitExpiry s).inputs = s.inputs ∧ (limitExpiry s).plant = s.plant ∧
    (limitExpiry s).dose = s.dose ∧ (limitExpiry s).programmes = s.programmes ∧
    (limitExpiry s).stations = s.stations ∧ (limitExpiry s).merge = s.merge ∧
    (limitExpiry s).directory = s.directory ∧ (limitExpiry s).ret = s.ret ∧ (limitExpiry s).profile = s.profile ∧
    (limitExpiry s).link.assembly = s.link.assembly ∧ (limitExpiry s).link.gap = s.link.gap ∧
    (limitExpiry s).link.buffer = s.link.buffer ∧ (limitExpiry s).link.reply = s.link.reply ∧
    (limitExpiry s).link.transmitter = s.link.transmitter ∧ (limitExpiry s).link.crcErrors = s.link.crcErrors ∧
    (limitExpiry s).link.framingErrors = s.link.framingErrors ∧ (limitExpiry s).link.overflows = s.link.overflows ∧
    (limitExpiry s).link.mask = s.link.mask := by
  unfold limitExpiry
  try dsimp only
  (repeat' split) <;> simp

@[simp] theorem leaveFault_frame (s : State) :
    (leaveFault s).pending = s.pending ∧ (leaveFault s).choices = s.choices ∧ (leaveFault s).phase = s.phase ∧
    (leaveFault s).coldLine = s.coldLine ∧ (leaveFault s).warmLine = s.warmLine ∧
    (leaveFault s).resetKind = s.resetKind ∧ (leaveFault s).resetCause = s.resetCause ∧
    (leaveFault s).settle = s.settle ∧ (leaveFault s).inputs = s.inputs ∧ (leaveFault s).plant = s.plant ∧
    (leaveFault s).dose = s.dose ∧ (leaveFault s).programmes = s.programmes ∧ (leaveFault s).stations = s.stations ∧
    (leaveFault s).merge = s.merge ∧ (leaveFault s).directory = s.directory ∧ (leaveFault s).ret = s.ret ∧
    (leaveFault s).profile = s.profile ∧ (leaveFault s).link.assembly = s.link.assembly ∧
    (leaveFault s).link.gap = s.link.gap ∧ (leaveFault s).link.buffer = s.link.buffer ∧
    (leaveFault s).link.reply = s.link.reply ∧ (leaveFault s).link.transmitter = s.link.transmitter ∧
    (leaveFault s).link.crcErrors = s.link.crcErrors ∧ (leaveFault s).link.framingErrors = s.link.framingErrors ∧
    (leaveFault s).link.overflows = s.link.overflows ∧ (leaveFault s).link.mask = s.link.mask := by
  unfold leaveFault
  simp

end Sys2Proof.Machine
end

