-- ==== Sys2Proof/Laws/Link.lean ====
section
/-! SUPPORT. Frames of the requests and of what every command does at its end; the execution of a request by a link that
listens. -/

namespace Sys2Proof.Machine
open Sys2Proof

/-- A list of messages sent one after another reaches the directory only. -/
@[simp] theorem foldl_sendLocation_frame (l : Location) (ids : List RackId) (s : State) :
    let t := ids.foldl (fun s id => sendLocation id l s) s
    t.pending = s.pending ∧ t.choices = s.choices ∧ t.phase = s.phase ∧ t.coldLine = s.coldLine ∧
    t.warmLine = s.warmLine ∧ t.resetKind = s.resetKind ∧ t.resetCause = s.resetCause ∧ t.settle = s.settle ∧
    t.inputs = s.inputs ∧ t.plant = s.plant ∧ t.track = s.track ∧ t.dose = s.dose ∧ t.programmes = s.programmes ∧
    t.stations = s.stations ∧ t.merge = s.merge ∧ t.ret = s.ret ∧ t.interlock = s.interlock ∧ t.profile = s.profile ∧
    t.link = s.link := by
  induction ids generalizing s with
  | nil => simp
  | cons i ids ih => simpa using ih (sendLocation i l s)

@[simp] theorem flushFrom_frame (q : List (Fin 64 × Quad)) (s : State) :
    ((flushFrom q s).1).pending = s.pending ∧ ((flushFrom q s).1).choices = s.choices ∧
    ((flushFrom q s).1).phase = s.phase ∧ ((flushFrom q s).1).coldLine = s.coldLine ∧
    ((flushFrom q s).1).warmLine = s.warmLine ∧ ((flushFrom q s).1).resetKind = s.resetKind ∧
    ((flushFrom q s).1).resetCause = s.resetCause ∧ ((flushFrom q s).1).settle = s.settle ∧
    ((flushFrom q s).1).inputs = s.inputs ∧ ((flushFrom q s).1).plant = s.plant ∧
    ((flushFrom q s).1).track = s.track ∧ ((flushFrom q s).1).dose = s.dose ∧
    ((flushFrom q s).1).programmes = s.programmes ∧ ((flushFrom q s).1).stations = s.stations ∧
    ((flushFrom q s).1).merge = s.merge ∧ ((flushFrom q s).1).ret = s.ret ∧
    ((flushFrom q s).1).interlock = s.interlock ∧ ((flushFrom q s).1).profile = s.profile ∧
    ((flushFrom q s).1).link.assembly = s.link.assembly ∧ ((flushFrom q s).1).link.gap = s.link.gap ∧
    ((flushFrom q s).1).link.buffer = s.link.buffer ∧ ((flushFrom q s).1).link.reply = s.link.reply ∧
    ((flushFrom q s).1).link.transmitter = s.link.transmitter ∧
    ((flushFrom q s).1).link.crcErrors = s.link.crcErrors ∧
    ((flushFrom q s).1).link.framingErrors = s.link.framingErrors ∧
    ((flushFrom q s).1).link.overflows = s.link.overflows ∧ ((flushFrom q s).1).link.mask = s.link.mask := by
  induction q generalizing s with
  | nil => simp [flushFrom]
  | cons p q ih =>
    obtain ⟨i, w⟩ := p
    unfold flushFrom
    dsimp only
    (repeat' split) <;> simp [ih]

@[simp] theorem requestHalt_frame (s : State) :
    ((requestHalt s).1).pending = s.pending ∧ ((requestHalt s).1).choices = s.choices ∧
    ((requestHalt s).1).phase = s.phase ∧ ((requestHalt s).1).coldLine = s.coldLine ∧
    ((requestHalt s).1).warmLine = s.warmLine ∧ ((requestHalt s).1).resetKind = s.resetKind ∧
    ((requestHalt s).1).resetCause = s.resetCause ∧ ((requestHalt s).1).settle = s.settle ∧
    ((requestHalt s).1).inputs = s.inputs ∧ ((requestHalt s).1).plant = s.plant ∧ ((requestHalt s).1).dose = s.dose ∧
    ((requestHalt s).1).programmes = s.programmes ∧ ((requestHalt s).1).stations = s.stations ∧
    ((requestHalt s).1).merge = s.merge ∧ ((requestHalt s).1).directory = s.directory ∧
    ((requestHalt s).1).ret = s.ret ∧ ((requestHalt s).1).profile = s.profile ∧
    ((requestHalt s).1).link.assembly = s.link.assembly ∧ ((requestHalt s).1).link.gap = s.link.gap ∧
    ((requestHalt s).1).link.buffer = s.link.buffer ∧ ((requestHalt s).1).link.reply = s.link.reply ∧
    ((requestHalt s).1).link.transmitter = s.link.transmitter ∧
    ((requestHalt s).1).link.crcErrors = s.link.crcErrors ∧
    ((requestHalt s).1).link.framingErrors = s.link.framingErrors ∧
    ((requestHalt s).1).link.overflows = s.link.overflows ∧ ((requestHalt s).1).link.mask = s.link.mask := by
  unfold requestHalt
  try dsimp only
  (repeat' split) <;> simp

@[simp] theorem requestStandby_frame (s : State) :
    ((requestStandby s).1).pending = s.pending ∧ ((requestStandby s).1).choices = s.choices ∧
    ((requestStandby s).1).phase = s.phase ∧ ((requestStandby s).1).coldLine = s.coldLine ∧
    ((requestStandby s).1).warmLine = s.warmLine ∧ ((requestStandby s).1).resetKind = s.resetKind ∧
    ((requestStandby s).1).resetCause = s.resetCause ∧ ((requestStandby s).1).settle = s.settle ∧
    ((requestStandby s).1).inputs = s.inputs ∧ ((requestStandby s).1).plant = s.plant ∧
    ((requestStandby s).1).dose = s.dose ∧ ((requestStandby s).1).programmes = s.programmes ∧
    ((requestStandby s).1).stations = s.stations ∧ ((requestStandby s).1).merge = s.merge ∧
    ((requestStandby s).1).directory = s.directory ∧ ((requestStandby s).1).ret = s.ret ∧
    ((requestStandby s).1).profile = s.profile ∧ ((requestStandby s).1).link.assembly = s.link.assembly ∧
    ((requestStandby s).1).link.gap = s.link.gap ∧ ((requestStandby s).1).link.buffer = s.link.buffer ∧
    ((requestStandby s).1).link.reply = s.link.reply ∧ ((requestStandby s).1).link.transmitter = s.link.transmitter ∧
    ((requestStandby s).1).link.crcErrors = s.link.crcErrors ∧
    ((requestStandby s).1).link.framingErrors = s.link.framingErrors ∧
    ((requestStandby s).1).link.overflows = s.link.overflows ∧ ((requestStandby s).1).link.mask = s.link.mask := by
  unfold requestStandby
  try dsimp only
  (repeat' split) <;> simp

@[simp] theorem requestPurge_frame (s : State) :
    ((requestPurge s).1).pending = s.pending ∧ ((requestPurge s).1).choices = s.choices ∧
    ((requestPurge s).1).phase = s.phase ∧ ((requestPurge s).1).coldLine = s.coldLine ∧
    ((requestPurge s).1).warmLine = s.warmLine ∧ ((requestPurge s).1).resetKind = s.resetKind ∧
    ((requestPurge s).1).resetCause = s.resetCause ∧ ((requestPurge s).1).settle = s.settle ∧
    ((requestPurge s).1).inputs = s.inputs ∧ ((requestPurge s).1).plant = s.plant ∧
    ((requestPurge s).1).dose = s.dose ∧ ((requestPurge s).1).programmes = s.programmes ∧
    ((requestPurge s).1).stations = s.stations ∧ ((requestPurge s).1).merge = s.merge ∧
    ((requestPurge s).1).directory = s.directory ∧ ((requestPurge s).1).ret = s.ret ∧
    ((requestPurge s).1).interlock = s.interlock ∧ ((requestPurge s).1).profile = s.profile ∧
    ((requestPurge s).1).link.assembly = s.link.assembly ∧ ((requestPurge s).1).link.gap = s.link.gap ∧
    ((requestPurge s).1).link.buffer = s.link.buffer ∧ ((requestPurge s).1).link.reply = s.link.reply ∧
    ((requestPurge s).1).link.transmitter = s.link.transmitter ∧
    ((requestPurge s).1).link.crcErrors = s.link.crcErrors ∧
    ((requestPurge s).1).link.framingErrors = s.link.framingErrors ∧
    ((requestPurge s).1).link.overflows = s.link.overflows ∧ ((requestPurge s).1).link.mask = s.link.mask := by
  unfold requestPurge
  try dsimp only
  (repeat' split) <;> simp

@[simp] theorem requestRun_frame (s : State) :
    ((requestRun s).1).pending = s.pending ∧ ((requestRun s).1).choices = s.choices ∧
    ((requestRun s).1).phase = s.phase ∧ ((requestRun s).1).coldLine = s.coldLine ∧
    ((requestRun s).1).warmLine = s.warmLine ∧ ((requestRun s).1).resetKind = s.resetKind ∧
    ((requestRun s).1).resetCause = s.resetCause ∧ ((requestRun s).1).settle = s.settle ∧
    ((requestRun s).1).inputs = s.inputs ∧ ((requestRun s).1).plant = s.plant ∧
    ((requestRun s).1).profile = s.profile ∧ ((requestRun s).1).link.assembly = s.link.assembly ∧
    ((requestRun s).1).link.gap = s.link.gap ∧ ((requestRun s).1).link.buffer = s.link.buffer ∧
    ((requestRun s).1).link.reply = s.link.reply ∧ ((requestRun s).1).link.transmitter = s.link.transmitter ∧
    ((requestRun s).1).link.crcErrors = s.link.crcErrors ∧
    ((requestRun s).1).link.framingErrors = s.link.framingErrors ∧
    ((requestRun s).1).link.overflows = s.link.overflows ∧ ((requestRun s).1).link.mask = s.link.mask := by
  unfold requestRun
  try dsimp only
  (repeat' split) <;> simp

@[simp] theorem requestClearFault_frame (s : State) :
    ((requestClearFault s).1).pending = s.pending ∧ ((requestClearFault s).1).choices = s.choices ∧
    ((requestClearFault s).1).phase = s.phase ∧ ((requestClearFault s).1).coldLine = s.coldLine ∧
    ((requestClearFault s).1).warmLine = s.warmLine ∧ ((requestClearFault s).1).resetKind = s.resetKind ∧
    ((requestClearFault s).1).resetCause = s.resetCause ∧ ((requestClearFault s).1).settle = s.settle ∧
    ((requestClearFault s).1).inputs = s.inputs ∧ ((requestClearFault s).1).plant = s.plant ∧
    ((requestClearFault s).1).dose = s.dose ∧ ((requestClearFault s).1).programmes = s.programmes ∧
    ((requestClearFault s).1).profile = s.profile ∧ ((requestClearFault s).1).link.assembly = s.link.assembly ∧
    ((requestClearFault s).1).link.gap = s.link.gap ∧ ((requestClearFault s).1).link.buffer = s.link.buffer ∧
    ((requestClearFault s).1).link.reply = s.link.reply ∧
    ((requestClearFault s).1).link.transmitter = s.link.transmitter ∧
    ((requestClearFault s).1).link.crcErrors = s.link.crcErrors ∧
    ((requestClearFault s).1).link.framingErrors = s.link.framingErrors ∧
    ((requestClearFault s).1).link.overflows = s.link.overflows ∧ ((requestClearFault s).1).link.mask = s.link.mask := by
  unfold requestClearFault
  try dsimp only
  (repeat' split) <;> simp

@[simp] theorem requestSetProgramme_frame (n q d : Byte) (c : Half) (x a w : Byte) (s : State) :
    ((requestSetProgramme n q d c x a w s).1).pending = s.pending ∧
    ((requestSetProgramme n q d c x a w s).1).choices = s.choices ∧
    ((requestSetProgramme n q d c x a w s).1).phase = s.phase ∧
    ((requestSetProgramme n q d c x a w s).1).coldLine = s.coldLine ∧
    ((requestSetProgramme n q d c x a w s).1).warmLine = s.warmLine ∧
    ((requestSetProgramme n q d c x a w s).1).resetKind = s.resetKind ∧
    ((requestSetProgramme n q d c x a w s).1).resetCause = s.resetCause ∧
    ((requestSetProgramme n q d c x a w s).1).settle = s.settle ∧
    ((requestSetProgramme n q d c x a w s).1).inputs = s.inputs ∧
    ((requestSetProgramme n q d c x a w s).1).plant = s.plant ∧
    ((requestSetProgramme n q d c x a w s).1).track = s.track ∧
    ((requestSetProgramme n q d c x a w s).1).dose = s.dose ∧
    ((requestSetProgramme n q d c x a w s).1).merge = s.merge ∧
    ((requestSetProgramme n q d c x a w s).1).directory = s.directory ∧
    ((requestSetProgramme n q d c x a w s).1).ret = s.ret ∧
    ((requestSetProgramme n q d c x a w s).1).interlock = s.interlock ∧
    ((requestSetProgramme n q d c x a w s).1).profile = s.profile ∧
    ((requestSetProgramme n q d c x a w s).1).link = s.link := by
  unfold requestSetProgramme
  try dsimp only
  (repeat' split) <;> simp

@[simp] theorem requestGetProgramme_frame (n : Byte) (s : State) :
    ((requestGetProgramme n s).1).pending = s.pending ∧ ((requestGetProgramme n s).1).choices = s.choices ∧
    ((requestGetProgramme n s).1).phase = s.phase ∧ ((requestGetProgramme n s).1).coldLine = s.coldLine ∧
    ((requestGetProgramme n s).1).warmLine = s.warmLine ∧ ((requestGetProgramme n s).1).resetKind = s.resetKind ∧
    ((requestGetProgramme n s).1).resetCause = s.resetCause ∧ ((requestGetProgramme n s).1).settle = s.settle ∧
    ((requestGetProgramme n s).1).inputs = s.inputs ∧ ((requestGetProgramme n s).1).plant = s.plant ∧
    ((requestGetProgramme n s).1).track = s.track ∧ ((requestGetProgramme n s).1).dose = s.dose ∧
    ((requestGetProgramme n s).1).programmes = s.programmes ∧ ((requestGetProgramme n s).1).stations = s.stations ∧
    ((requestGetProgramme n s).1).merge = s.merge ∧ ((requestGetProgramme n s).1).directory = s.directory ∧
    ((requestGetProgramme n s).1).ret = s.ret ∧ ((requestGetProgramme n s).1).interlock = s.interlock ∧
    ((requestGetProgramme n s).1).profile = s.profile ∧ ((requestGetProgramme n s).1).link = s.link := by
  unfold requestGetProgramme
  try dsimp only
  (repeat' split) <;> simp

@[simp] theorem requestSetKindMap_frame (u p c k t : Byte) (s : State) :
    ((requestSetKindMap u p c k t s).1).pending = s.pending ∧
    ((requestSetKindMap u p c k t s).1).choices = s.choices ∧ ((requestSetKindMap u p c k t s).1).phase = s.phase ∧
    ((requestSetKindMap u p c k t s).1).coldLine = s.coldLine ∧
    ((requestSetKindMap u p c k t s).1).warmLine = s.warmLine ∧
    ((requestSetKindMap u p c k t s).1).resetKind = s.resetKind ∧
    ((requestSetKindMap u p c k t s).1).resetCause = s.resetCause ∧
    ((requestSetKindMap u p c k t s).1).settle = s.settle ∧ ((requestSetKindMap u p c k t s).1).inputs = s.inputs ∧
    ((requestSetKindMap u p c k t s).1).plant = s.plant ∧ ((requestSetKindMap u p c k t s).1).track = s.track ∧
    ((requestSetKindMap u p c k t s).1).dose = s.dose ∧ ((requestSetKindMap u p c k t s).1).merge = s.merge ∧
    ((requestSetKindMap u p c k t s).1).directory = s.directory ∧ ((requestSetKindMap u p c k t s).1).ret = s.ret ∧
    ((requestSetKindMap u p c k t s).1).interlock = s.interlock ∧
    ((requestSetKindMap u p c k t s).1).profile = s.profile ∧ ((requestSetKindMap u p c k t s).1).link = s.link := by
  unfold requestSetKindMap
  try dsimp only
  (repeat' split) <;> simp

@[simp] theorem requestGetKindMap_frame (s : State) :
    ((requestGetKindMap s).1).pending = s.pending ∧ ((requestGetKindMap s).1).choices = s.choices ∧
    ((requestGetKindMap s).1).phase = s.phase ∧ ((requestGetKindMap s).1).coldLine = s.coldLine ∧
    ((requestGetKindMap s).1).warmLine = s.warmLine ∧ ((requestGetKindMap s).1).resetKind = s.resetKind ∧
    ((requestGetKindMap s).1).resetCause = s.resetCause ∧ ((requestGetKindMap s).1).settle = s.settle ∧
    ((requestGetKindMap s).1).inputs = s.inputs ∧ ((requestGetKindMap s).1).plant = s.plant ∧
    ((requestGetKindMap s).1).track = s.track ∧ ((requestGetKindMap s).1).dose = s.dose ∧
    ((requestGetKindMap s).1).programmes = s.programmes ∧ ((requestGetKindMap s).1).stations = s.stations ∧
    ((requestGetKindMap s).1).merge = s.merge ∧ ((requestGetKindMap s).1).directory = s.directory ∧
    ((requestGetKindMap s).1).ret = s.ret ∧ ((requestGetKindMap s).1).interlock = s.interlock ∧
    ((requestGetKindMap s).1).profile = s.profile ∧ ((requestGetKindMap s).1).link = s.link := by
  unfold requestGetKindMap
  simp

@[simp] theorem requestSetSanitation_frame (v : Sanitation) (s : State) :
    ((requestSetSanitation v s).1).pending = s.pending ∧ ((requestSetSanitation v s).1).choices = s.choices ∧
    ((requestSetSanitation v s).1).phase = s.phase ∧ ((requestSetSanitation v s).1).coldLine = s.coldLine ∧
    ((requestSetSanitation v s).1).warmLine = s.warmLine ∧ ((requestSetSanitation v s).1).resetKind = s.resetKind ∧
    ((requestSetSanitation v s).1).resetCause = s.resetCause ∧ ((requestSetSanitation v s).1).settle = s.settle ∧
    ((requestSetSanitation v s).1).inputs = s.inputs ∧ ((requestSetSanitation v s).1).plant = s.plant ∧
    ((requestSetSanitation v s).1).track = s.track ∧ ((requestSetSanitation v s).1).dose = s.dose ∧
    ((requestSetSanitation v s).1).stations = s.stations ∧ ((requestSetSanitation v s).1).merge = s.merge ∧
    ((requestSetSanitation v s).1).directory = s.directory ∧ ((requestSetSanitation v s).1).ret = s.ret ∧
    ((requestSetSanitation v s).1).interlock = s.interlock ∧ ((requestSetSanitation v s).1).profile = s.profile ∧
    ((requestSetSanitation v s).1).link = s.link := by
  unfold requestSetSanitation
  try dsimp only
  (repeat' split) <;> simp

@[simp] theorem requestGetSanitation_frame (s : State) :
    ((requestGetSanitation s).1).pending = s.pending ∧ ((requestGetSanitation s).1).choices = s.choices ∧
    ((requestGetSanitation s).1).phase = s.phase ∧ ((requestGetSanitation s).1).coldLine = s.coldLine ∧
    ((requestGetSanitation s).1).warmLine = s.warmLine ∧ ((requestGetSanitation s).1).resetKind = s.resetKind ∧
    ((requestGetSanitation s).1).resetCause = s.resetCause ∧ ((requestGetSanitation s).1).settle = s.settle ∧
    ((requestGetSanitation s).1).inputs = s.inputs ∧ ((requestGetSanitation s).1).plant = s.plant ∧
    ((requestGetSanitation s).1).track = s.track ∧ ((requestGetSanitation s).1).dose = s.dose ∧
    ((requestGetSanitation s).1).programmes = s.programmes ∧ ((requestGetSanitation s).1).stations = s.stations ∧
    ((requestGetSanitation s).1).merge = s.merge ∧ ((requestGetSanitation s).1).directory = s.directory ∧
    ((requestGetSanitation s).1).ret = s.ret ∧ ((requestGetSanitation s).1).interlock = s.interlock ∧
    ((requestGetSanitation s).1).profile = s.profile ∧ ((requestGetSanitation s).1).link = s.link := by
  unfold requestGetSanitation
  simp

@[simp] theorem requestGetStation_frame (n : Byte) (s : State) :
    ((requestGetStation n s).1).pending = s.pending ∧ ((requestGetStation n s).1).choices = s.choices ∧
    ((requestGetStation n s).1).phase = s.phase ∧ ((requestGetStation n s).1).coldLine = s.coldLine ∧
    ((requestGetStation n s).1).warmLine = s.warmLine ∧ ((requestGetStation n s).1).resetKind = s.resetKind ∧
    ((requestGetStation n s).1).resetCause = s.resetCause ∧ ((requestGetStation n s).1).settle = s.settle ∧
    ((requestGetStation n s).1).inputs = s.inputs ∧ ((requestGetStation n s).1).plant = s.plant ∧
    ((requestGetStation n s).1).track = s.track ∧ ((requestGetStation n s).1).dose = s.dose ∧
    ((requestGetStation n s).1).programmes = s.programmes ∧ ((requestGetStation n s).1).stations = s.stations ∧
    ((requestGetStation n s).1).merge = s.merge ∧ ((requestGetStation n s).1).directory = s.directory ∧
    ((requestGetStation n s).1).ret = s.ret ∧ ((requestGetStation n s).1).interlock = s.interlock ∧
    ((requestGetStation n s).1).profile = s.profile ∧ ((requestGetStation n s).1).link = s.link := by
  unfold requestGetStation
  try dsimp only
  (repeat' split) <;> simp

@[simp] theorem requestSetStation_frame (n m k : Byte) (s : State) :
    ((requestSetStation n m k s).1).pending = s.pending ∧ ((requestSetStation n m k s).1).choices = s.choices ∧
    ((requestSetStation n m k s).1).phase = s.phase ∧ ((requestSetStation n m k s).1).coldLine = s.coldLine ∧
    ((requestSetStation n m k s).1).warmLine = s.warmLine ∧ ((requestSetStation n m k s).1).resetKind = s.resetKind ∧
    ((requestSetStation n m k s).1).resetCause = s.resetCause ∧ ((requestSetStation n m k s).1).settle = s.settle ∧
    ((requestSetStation n m k s).1).inputs = s.inputs ∧ ((requestSetStation n m k s).1).plant = s.plant ∧
    ((requestSetStation n m k s).1).track = s.track ∧ ((requestSetStation n m k s).1).dose = s.dose ∧
    ((requestSetStation n m k s).1).programmes = s.programmes ∧ ((requestSetStation n m k s).1).merge = s.merge ∧
    ((requestSetStation n m k s).1).directory = s.directory ∧ ((requestSetStation n m k s).1).ret = s.ret ∧
    ((requestSetStation n m k s).1).interlock = s.interlock ∧ ((requestSetStation n m k s).1).profile = s.profile ∧
    ((requestSetStation n m k s).1).link = s.link := by
  unfold requestSetStation
  try dsimp only
  (repeat' split) <;> simp

@[simp] theorem requestSetStationPrompted_frame (n m k : Byte) (s : State) :
    ((requestSetStationPrompted n m k s).1).pending = s.pending ∧
    ((requestSetStationPrompted n m k s).1).choices = s.choices ∧
    ((requestSetStationPrompted n m k s).1).phase = s.phase ∧
    ((requestSetStationPrompted n m k s).1).coldLine = s.coldLine ∧
    ((requestSetStationPrompted n m k s).1).warmLine = s.warmLine ∧
    ((requestSetStationPrompted n m k s).1).resetKind = s.resetKind ∧
    ((requestSetStationPrompted n m k s).1).resetCause = s.resetCause ∧
    ((requestSetStationPrompted n m k s).1).settle = s.settle ∧
    ((requestSetStationPrompted n m k s).1).inputs = s.inputs ∧
    ((requestSetStationPrompted n m k s).1).plant = s.plant ∧ ((requestSetStationPrompted n m k s).1).dose = s.dose ∧
    ((requestSetStationPrompted n m k s).1).programmes = s.programmes ∧
    ((requestSetStationPrompted n m k s).1).merge = s.merge ∧
    ((requestSetStationPrompted n m k s).1).interlock = s.interlock ∧
    ((requestSetStationPrompted n m k s).1).profile = s.profile ∧
    ((requestSetStationPrompted n m k s).1).link.assembly = s.link.assembly ∧
    ((requestSetStationPrompted n m k s).1).link.gap = s.link.gap ∧
    ((requestSetStationPrompted n m k s).1).link.buffer = s.link.buffer ∧
    ((requestSetStationPrompted n m k s).1).link.reply = s.link.reply ∧
    ((requestSetStationPrompted n m k s).1).link.transmitter = s.link.transmitter ∧
    ((requestSetStationPrompted n m k s).1).link.crcErrors = s.link.crcErrors ∧
    ((requestSetStationPrompted n m k s).1).link.framingErrors = s.link.framingErrors ∧
    ((requestSetStationPrompted n m k s).1).link.overflows = s.link.overflows ∧
    ((requestSetStationPrompted n m k s).1).link.mask = s.link.mask := by
  unfold requestSetStationPrompted
  dsimp only
  split <;> simp

@[simp] theorem requestLoadStack_frame (n c : Byte) (es : List LoadEntry) (s : State) :
    ((requestLoadStack n c es s).1).pending = s.pending ∧ ((requestLoadStack n c es s).1).choices = s.choices ∧
    ((requestLoadStack n c es s).1).phase = s.phase ∧ ((requestLoadStack n c es s).1).coldLine = s.coldLine ∧
    ((requestLoadStack n c es s).1).warmLine = s.warmLine ∧ ((requestLoadStack n c es s).1).resetKind = s.resetKind ∧
    ((requestLoadStack n c es s).1).resetCause = s.resetCause ∧ ((requestLoadStack n c es s).1).settle = s.settle ∧
    ((requestLoadStack n c es s).1).inputs = s.inputs ∧ ((requestLoadStack n c es s).1).plant = s.plant ∧
    ((requestLoadStack n c es s).1).track = s.track ∧ ((requestLoadStack n c es s).1).dose = s.dose ∧
    ((requestLoadStack n c es s).1).programmes = s.programmes ∧ ((requestLoadStack n c es s).1).merge = s.merge ∧
    ((requestLoadStack n c es s).1).ret = s.ret ∧ ((requestLoadStack n c es s).1).interlock = s.interlock ∧
    ((requestLoadStack n c es s).1).profile = s.profile ∧ ((requestLoadStack n c es s).1).link = s.link := by
  unfold requestLoadStack
  try dsimp only
  (repeat' split) <;> simp

@[simp] theorem requestClearStack_frame (n : Byte) (s : State) :
    ((requestClearStack n s).1).pending = s.pending ∧ ((requestClearStack n s).1).choices = s.choices ∧
    ((requestClearStack n s).1).phase = s.phase ∧ ((requestClearStack n s).1).coldLine = s.coldLine ∧
    ((requestClearStack n s).1).warmLine = s.warmLine ∧ ((requestClearStack n s).1).resetKind = s.resetKind ∧
    ((requestClearStack n s).1).resetCause = s.resetCause ∧ ((requestClearStack n s).1).settle = s.settle ∧
    ((requestClearStack n s).1).inputs = s.inputs ∧ ((requestClearStack n s).1).plant = s.plant ∧
    ((requestClearStack n s).1).track = s.track ∧ ((requestClearStack n s).1).dose = s.dose ∧
    ((requestClearStack n s).1).programmes = s.programmes ∧ ((requestClearStack n s).1).merge = s.merge ∧
    ((requestClearStack n s).1).ret = s.ret ∧ ((requestClearStack n s).1).interlock = s.interlock ∧
    ((requestClearStack n s).1).profile = s.profile ∧ ((requestClearStack n s).1).link = s.link := by
  unfold requestClearStack
  try dsimp only
  (repeat' split) <;> simp

@[simp] theorem requestForceProgramme_frame (n p : Byte) (s : State) :
    ((requestForceProgramme n p s).1).pending = s.pending ∧ ((requestForceProgramme n p s).1).choices = s.choices ∧
    ((requestForceProgramme n p s).1).phase = s.phase ∧ ((requestForceProgramme n p s).1).coldLine = s.coldLine ∧
    ((requestForceProgramme n p s).1).warmLine = s.warmLine ∧
    ((requestForceProgramme n p s).1).resetKind = s.resetKind ∧
    ((requestForceProgramme n p s).1).resetCause = s.resetCause ∧
    ((requestForceProgramme n p s).1).settle = s.settle ∧ ((requestForceProgramme n p s).1).inputs = s.inputs ∧
    ((requestForceProgramme n p s).1).plant = s.plant ∧ ((requestForceProgramme n p s).1).track = s.track ∧
    ((requestForceProgramme n p s).1).dose = s.dose ∧ ((requestForceProgramme n p s).1).programmes = s.programmes ∧
    ((requestForceProgramme n p s).1).merge = s.merge ∧ ((requestForceProgramme n p s).1).directory = s.directory ∧
    ((requestForceProgramme n p s).1).ret = s.ret ∧ ((requestForceProgramme n p s).1).interlock = s.interlock ∧
    ((requestForceProgramme n p s).1).profile = s.profile ∧
    ((requestForceProgramme n p s).1).link.assembly = s.link.assembly ∧
    ((requestForceProgramme n p s).1).link.gap = s.link.gap ∧
    ((requestForceProgramme n p s).1).link.buffer = s.link.buffer ∧
    ((requestForceProgramme n p s).1).link.reply = s.link.reply ∧
    ((requestForceProgramme n p s).1).link.transmitter = s.link.transmitter ∧
    ((requestForceProgramme n p s).1).link.crcErrors = s.link.crcErrors ∧
    ((requestForceProgramme n p s).1).link.framingErrors = s.link.framingErrors ∧
    ((requestForceProgramme n p s).1).link.overflows = s.link.overflows ∧
    ((requestForceProgramme n p s).1).link.mask = s.link.mask := by
  unfold requestForceProgramme
  try dsimp only
  (repeat' split) <;> simp

@[simp] theorem releaseReturn_frame (e : CleanEntry) (q : List CleanEntry) (s : State) :
    ((releaseReturn e q s).1).pending = s.pending ∧ ((releaseReturn e q s).1).choices = s.choices ∧
    ((releaseReturn e q s).1).phase = s.phase ∧ ((releaseReturn e q s).1).coldLine = s.coldLine ∧
    ((releaseReturn e q s).1).warmLine = s.warmLine ∧ ((releaseReturn e q s).1).resetKind = s.resetKind ∧
    ((releaseReturn e q s).1).resetCause = s.resetCause ∧ ((releaseReturn e q s).1).settle = s.settle ∧
    ((releaseReturn e q s).1).inputs = s.inputs ∧ ((releaseReturn e q s).1).plant = s.plant ∧
    ((releaseReturn e q s).1).dose = s.dose ∧ ((releaseReturn e q s).1).programmes = s.programmes ∧
    ((releaseReturn e q s).1).stations = s.stations ∧ ((releaseReturn e q s).1).merge = s.merge ∧
    ((releaseReturn e q s).1).interlock = s.interlock ∧ ((releaseReturn e q s).1).profile = s.profile ∧
    ((releaseReturn e q s).1).link.assembly = s.link.assembly ∧ ((releaseReturn e q s).1).link.gap = s.link.gap ∧
    ((releaseReturn e q s).1).link.buffer = s.link.buffer ∧ ((releaseReturn e q s).1).link.reply = s.link.reply ∧
    ((releaseReturn e q s).1).link.transmitter = s.link.transmitter ∧
    ((releaseReturn e q s).1).link.crcErrors = s.link.crcErrors ∧
    ((releaseReturn e q s).1).link.framingErrors = s.link.framingErrors ∧
    ((releaseReturn e q s).1).link.overflows = s.link.overflows ∧ ((releaseReturn e q s).1).link.mask = s.link.mask := by
  unfold releaseReturn
  try dsimp only
  simp

@[simp] theorem releaseRewash_frame (e : CleanEntry) (q : List CleanEntry) (s : State) :
    ((releaseRewash e q s).1).pending = s.pending ∧ ((releaseRewash e q s).1).choices = s.choices ∧
    ((releaseRewash e q s).1).phase = s.phase ∧ ((releaseRewash e q s).1).coldLine = s.coldLine ∧
    ((releaseRewash e q s).1).warmLine = s.warmLine ∧ ((releaseRewash e q s).1).resetKind = s.resetKind ∧
    ((releaseRewash e q s).1).resetCause = s.resetCause ∧ ((releaseRewash e q s).1).settle = s.settle ∧
    ((releaseRewash e q s).1).inputs = s.inputs ∧ ((releaseRewash e q s).1).plant = s.plant ∧
    ((releaseRewash e q s).1).dose = s.dose ∧ ((releaseRewash e q s).1).programmes = s.programmes ∧
    ((releaseRewash e q s).1).stations = s.stations ∧ ((releaseRewash e q s).1).merge = s.merge ∧
    ((releaseRewash e q s).1).interlock = s.interlock ∧ ((releaseRewash e q s).1).profile = s.profile ∧
    ((releaseRewash e q s).1).link.assembly = s.link.assembly ∧ ((releaseRewash e q s).1).link.gap = s.link.gap ∧
    ((releaseRewash e q s).1).link.buffer = s.link.buffer ∧ ((releaseRewash e q s).1).link.reply = s.link.reply ∧
    ((releaseRewash e q s).1).link.transmitter = s.link.transmitter ∧
    ((releaseRewash e q s).1).link.crcErrors = s.link.crcErrors ∧
    ((releaseRewash e q s).1).link.framingErrors = s.link.framingErrors ∧
    ((releaseRewash e q s).1).link.overflows = s.link.overflows ∧ ((releaseRewash e q s).1).link.mask = s.link.mask := by
  unfold releaseRewash
  try dsimp only
  (repeat' split) <;> simp

@[simp] theorem requestReleaseQuarantine_frame (a : Byte) (s : State) :
    ((requestReleaseQuarantine a s).1).pending = s.pending ∧ ((requestReleaseQuarantine a s).1).choices = s.choices ∧
    ((requestReleaseQuarantine a s).1).phase = s.phase ∧ ((requestReleaseQuarantine a s).1).coldLine = s.coldLine ∧
    ((requestReleaseQuarantine a s).1).warmLine = s.warmLine ∧
    ((requestReleaseQuarantine a s).1).resetKind = s.resetKind ∧
    ((requestReleaseQuarantine a s).1).resetCause = s.resetCause ∧
    ((requestReleaseQuarantine a s).1).settle = s.settle ∧ ((requestReleaseQuarantine a s).1).inputs = s.inputs ∧
    ((requestReleaseQuarantine a s).1).plant = s.plant ∧ ((requestReleaseQuarantine a s).1).dose = s.dose ∧
    ((requestReleaseQuarantine a s).1).programmes = s.programmes ∧
    ((requestReleaseQuarantine a s).1).stations = s.stations ∧ ((requestReleaseQuarantine a s).1).merge = s.merge ∧
    ((requestReleaseQuarantine a s).1).interlock = s.interlock ∧
    ((requestReleaseQuarantine a s).1).profile = s.profile ∧
    ((requestReleaseQuarantine a s).1).link.assembly = s.link.assembly ∧
    ((requestReleaseQuarantine a s).1).link.gap = s.link.gap ∧
    ((requestReleaseQuarantine a s).1).link.buffer = s.link.buffer ∧
    ((requestReleaseQuarantine a s).1).link.reply = s.link.reply ∧
    ((requestReleaseQuarantine a s).1).link.transmitter = s.link.transmitter ∧
    ((requestReleaseQuarantine a s).1).link.crcErrors = s.link.crcErrors ∧
    ((requestReleaseQuarantine a s).1).link.framingErrors = s.link.framingErrors ∧
    ((requestReleaseQuarantine a s).1).link.overflows = s.link.overflows ∧
    ((requestReleaseQuarantine a s).1).link.mask = s.link.mask := by
  unfold requestReleaseQuarantine
  try dsimp only
  (repeat' split) <;> simp

@[simp] theorem requestGetRecord_frame (i : RackId) (s : State) :
    ((requestGetRecord i s).1).pending = s.pending ∧ ((requestGetRecord i s).1).choices = s.choices ∧
    ((requestGetRecord i s).1).phase = s.phase ∧ ((requestGetRecord i s).1).coldLine = s.coldLine ∧
    ((requestGetRecord i s).1).warmLine = s.warmLine ∧ ((requestGetRecord i s).1).resetKind = s.resetKind ∧
    ((requestGetRecord i s).1).resetCause = s.resetCause ∧ ((requestGetRecord i s).1).settle = s.settle ∧
    ((requestGetRecord i s).1).inputs = s.inputs ∧ ((requestGetRecord i s).1).plant = s.plant ∧
    ((requestGetRecord i s).1).track = s.track ∧ ((requestGetRecord i s).1).dose = s.dose ∧
    ((requestGetRecord i s).1).programmes = s.programmes ∧ ((requestGetRecord i s).1).stations = s.stations ∧
    ((requestGetRecord i s).1).merge = s.merge ∧ ((requestGetRecord i s).1).ret = s.ret ∧
    ((requestGetRecord i s).1).interlock = s.interlock ∧ ((requestGetRecord i s).1).profile = s.profile ∧
    ((requestGetRecord i s).1).link = s.link := by
  unfold requestGetRecord
  try dsimp only
  (repeat' split) <;> simp

@[simp] theorem requestPutRecord_frame (i : RackId) (k : Byte) (w : Half) (sh : Byte) (d : Half) (s : State) :
    ((requestPutRecord i k w sh d s).1).pending = s.pending ∧
    ((requestPutRecord i k w sh d s).1).choices = s.choices ∧ ((requestPutRecord i k w sh d s).1).phase = s.phase ∧
    ((requestPutRecord i k w sh d s).1).coldLine = s.coldLine ∧
    ((requestPutRecord i k w sh d s).1).warmLine = s.warmLine ∧
    ((requestPutRecord i k w sh d s).1).resetKind = s.resetKind ∧
    ((requestPutRecord i k w sh d s).1).resetCause = s.resetCause ∧
    ((requestPutRecord i k w sh d s).1).settle = s.settle ∧ ((requestPutRecord i k w sh d s).1).inputs = s.inputs ∧
    ((requestPutRecord i k w sh d s).1).plant = s.plant ∧ ((requestPutRecord i k w sh d s).1).track = s.track ∧
    ((requestPutRecord i k w sh d s).1).dose = s.dose ∧
    ((requestPutRecord i k w sh d s).1).programmes = s.programmes ∧
    ((requestPutRecord i k w sh d s).1).stations = s.stations ∧ ((requestPutRecord i k w sh d s).1).merge = s.merge ∧
    ((requestPutRecord i k w sh d s).1).ret = s.ret ∧ ((requestPutRecord i k w sh d s).1).interlock = s.interlock ∧
    ((requestPutRecord i k w sh d s).1).profile = s.profile ∧
    ((requestPutRecord i k w sh d s).1).link.assembly = s.link.assembly ∧
    ((requestPutRecord i k w sh d s).1).link.gap = s.link.gap ∧
    ((requestPutRecord i k w sh d s).1).link.buffer = s.link.buffer ∧
    ((requestPutRecord i k w sh d s).1).link.reply = s.link.reply ∧
    ((requestPutRecord i k w sh d s).1).link.transmitter = s.link.transmitter ∧
    ((requestPutRecord i k w sh d s).1).link.crcErrors = s.link.crcErrors ∧
    ((requestPutRecord i k w sh d s).1).link.framingErrors = s.link.framingErrors ∧
    ((requestPutRecord i k w sh d s).1).link.overflows = s.link.overflows ∧
    ((requestPutRecord i k w sh d s).1).link.mask = s.link.mask := by
  unfold requestPutRecord
  dsimp only
  (repeat' split) <;> (try simp)
  rename_i h
  rcases allocate_taken h with ⟨rfl, -⟩ | ⟨x, -, -, -, -, rfl⟩ <;> simp

@[simp] theorem requestDropRecord_frame (i : RackId) (s : State) :
    ((requestDropRecord i s).1).pending = s.pending ∧ ((requestDropRecord i s).1).choices = s.choices ∧
    ((requestDropRecord i s).1).phase = s.phase ∧ ((requestDropRecord i s).1).coldLine = s.coldLine ∧
    ((requestDropRecord i s).1).warmLine = s.warmLine ∧ ((requestDropRecord i s).1).resetKind = s.resetKind ∧
    ((requestDropRecord i s).1).resetCause = s.resetCause ∧ ((requestDropRecord i s).1).settle = s.settle ∧
    ((requestDropRecord i s).1).inputs = s.inputs ∧ ((requestDropRecord i s).1).plant = s.plant ∧
    ((requestDropRecord i s).1).track = s.track ∧ ((requestDropRecord i s).1).dose = s.dose ∧
    ((requestDropRecord i s).1).programmes = s.programmes ∧ ((requestDropRecord i s).1).stations = s.stations ∧
    ((requestDropRecord i s).1).merge = s.merge ∧ ((requestDropRecord i s).1).ret = s.ret ∧
    ((requestDropRecord i s).1).interlock = s.interlock ∧ ((requestDropRecord i s).1).profile = s.profile ∧
    ((requestDropRecord i s).1).link = s.link := by
  unfold requestDropRecord
  try dsimp only
  (repeat' split) <;> simp

@[simp] theorem requestFlushDirectory_frame (s : State) :
    ((requestFlushDirectory s).1).pending = s.pending ∧ ((requestFlushDirectory s).1).choices = s.choices ∧
    ((requestFlushDirectory s).1).phase = s.phase ∧ ((requestFlushDirectory s).1).coldLine = s.coldLine ∧
    ((requestFlushDirectory s).1).warmLine = s.warmLine ∧ ((requestFlushDirectory s).1).resetKind = s.resetKind ∧
    ((requestFlushDirectory s).1).resetCause = s.resetCause ∧ ((requestFlushDirectory s).1).settle = s.settle ∧
    ((requestFlushDirectory s).1).inputs = s.inputs ∧ ((requestFlushDirectory s).1).plant = s.plant ∧
    ((requestFlushDirectory s).1).track = s.track ∧ ((requestFlushDirectory s).1).dose = s.dose ∧
    ((requestFlushDirectory s).1).programmes = s.programmes ∧ ((requestFlushDirectory s).1).stations = s.stations ∧
    ((requestFlushDirectory s).1).merge = s.merge ∧ ((requestFlushDirectory s).1).ret = s.ret ∧
    ((requestFlushDirectory s).1).interlock = s.interlock ∧ ((requestFlushDirectory s).1).profile = s.profile ∧
    ((requestFlushDirectory s).1).link.assembly = s.link.assembly ∧
    ((requestFlushDirectory s).1).link.gap = s.link.gap ∧ ((requestFlushDirectory s).1).link.buffer = s.link.buffer ∧
    ((requestFlushDirectory s).1).link.reply = s.link.reply ∧
    ((requestFlushDirectory s).1).link.transmitter = s.link.transmitter ∧
    ((requestFlushDirectory s).1).link.crcErrors = s.link.crcErrors ∧
    ((requestFlushDirectory s).1).link.framingErrors = s.link.framingErrors ∧
    ((requestFlushDirectory s).1).link.overflows = s.link.overflows ∧
    ((requestFlushDirectory s).1).link.mask = s.link.mask := by
  unfold requestFlushDirectory
  simp

@[simp] theorem requestReleaseInterlocks_frame (s : State) :
    ((requestReleaseInterlocks s).1).pending = s.pending ∧ ((requestReleaseInterlocks s).1).choices = s.choices ∧
    ((requestReleaseInterlocks s).1).phase = s.phase ∧ ((requestReleaseInterlocks s).1).coldLine = s.coldLine ∧
    ((requestReleaseInterlocks s).1).warmLine = s.warmLine ∧
    ((requestReleaseInterlocks s).1).resetKind = s.resetKind ∧
    ((requestReleaseInterlocks s).1).resetCause = s.resetCause ∧ ((requestReleaseInterlocks s).1).settle = s.settle ∧
    ((requestReleaseInterlocks s).1).inputs = s.inputs ∧ ((requestReleaseInterlocks s).1).plant = s.plant ∧
    ((requestReleaseInterlocks s).1).track = s.track ∧ ((requestReleaseInterlocks s).1).dose = s.dose ∧
    ((requestReleaseInterlocks s).1).programmes = s.programmes ∧
    ((requestReleaseInterlocks s).1).stations = s.stations ∧ ((requestReleaseInterlocks s).1).merge = s.merge ∧
    ((requestReleaseInterlocks s).1).directory = s.directory ∧ ((requestReleaseInterlocks s).1).ret = s.ret ∧
    ((requestReleaseInterlocks s).1).profile = s.profile ∧
    ((requestReleaseInterlocks s).1).link.assembly = s.link.assembly ∧
    ((requestReleaseInterlocks s).1).link.gap = s.link.gap ∧
    ((requestReleaseInterlocks s).1).link.buffer = s.link.buffer ∧
    ((requestReleaseInterlocks s).1).link.reply = s.link.reply ∧
    ((requestReleaseInterlocks s).1).link.transmitter = s.link.transmitter ∧
    ((requestReleaseInterlocks s).1).link.crcErrors = s.link.crcErrors ∧
    ((requestReleaseInterlocks s).1).link.framingErrors = s.link.framingErrors ∧
    ((requestReleaseInterlocks s).1).link.overflows = s.link.overflows ∧
    ((requestReleaseInterlocks s).1).link.mask = s.link.mask := by
  unfold requestReleaseInterlocks
  simp

@[simp] theorem requestRestart_frame (a : Byte) (s : State) :
    ((requestRestart a s).1).pending = s.pending ∧ ((requestRestart a s).1).choices = s.choices ∧
    ((requestRestart a s).1).phase = s.phase ∧ ((requestRestart a s).1).coldLine = s.coldLine ∧
    ((requestRestart a s).1).warmLine = s.warmLine ∧ ((requestRestart a s).1).resetKind = s.resetKind ∧
    ((requestRestart a s).1).resetCause = s.resetCause ∧ ((requestRestart a s).1).settle = s.settle ∧
    ((requestRestart a s).1).inputs = s.inputs ∧ ((requestRestart a s).1).plant = s.plant ∧
    ((requestRestart a s).1).track = s.track ∧ ((requestRestart a s).1).dose = s.dose ∧
    ((requestRestart a s).1).programmes = s.programmes ∧ ((requestRestart a s).1).stations = s.stations ∧
    ((requestRestart a s).1).merge = s.merge ∧ ((requestRestart a s).1).directory = s.directory ∧
    ((requestRestart a s).1).ret = s.ret ∧ ((requestRestart a s).1).interlock = s.interlock ∧
    ((requestRestart a s).1).profile = s.profile ∧ ((requestRestart a s).1).link = s.link := by
  unfold requestRestart
  try dsimp only
  (repeat' split) <;> simp

@[simp] theorem requestSetNotify_frame (m : Half) (s : State) :
    ((requestSetNotify m s).1).pending = s.pending ∧ ((requestSetNotify m s).1).choices = s.choices ∧
    ((requestSetNotify m s).1).phase = s.phase ∧ ((requestSetNotify m s).1).coldLine = s.coldLine ∧
    ((requestSetNotify m s).1).warmLine = s.warmLine ∧ ((requestSetNotify m s).1).resetKind = s.resetKind ∧
    ((requestSetNotify m s).1).resetCause = s.resetCause ∧ ((requestSetNotify m s).1).settle = s.settle ∧
    ((requestSetNotify m s).1).inputs = s.inputs ∧ ((requestSetNotify m s).1).plant = s.plant ∧
    ((requestSetNotify m s).1).track = s.track ∧ ((requestSetNotify m s).1).dose = s.dose ∧
    ((requestSetNotify m s).1).programmes = s.programmes ∧ ((requestSetNotify m s).1).stations = s.stations ∧
    ((requestSetNotify m s).1).merge = s.merge ∧ ((requestSetNotify m s).1).directory = s.directory ∧
    ((requestSetNotify m s).1).ret = s.ret ∧ ((requestSetNotify m s).1).interlock = s.interlock ∧
    ((requestSetNotify m s).1).profile = s.profile ∧ ((requestSetNotify m s).1).link.assembly = s.link.assembly ∧
    ((requestSetNotify m s).1).link.gap = s.link.gap ∧ ((requestSetNotify m s).1).link.buffer = s.link.buffer ∧
    ((requestSetNotify m s).1).link.reply = s.link.reply ∧
    ((requestSetNotify m s).1).link.transmitter = s.link.transmitter ∧
    ((requestSetNotify m s).1).link.crcErrors = s.link.crcErrors ∧
    ((requestSetNotify m s).1).link.framingErrors = s.link.framingErrors ∧
    ((requestSetNotify m s).1).link.overflows = s.link.overflows ∧
    ((requestSetNotify m s).1).link.discarded = s.link.discarded ∧
    ((requestSetNotify m s).1).link.notices = s.link.notices := by
  unfold requestSetNotify
  dsimp only
  split <;> simp

@[simp] theorem executeRequest_frame (r : Request) (s : State) :
    ((executeRequest r s).1).pending = s.pending ∧ ((executeRequest r s).1).choices = s.choices ∧
    ((executeRequest r s).1).phase = s.phase ∧ ((executeRequest r s).1).coldLine = s.coldLine ∧
    ((executeRequest r s).1).warmLine = s.warmLine ∧ ((executeRequest r s).1).resetKind = s.resetKind ∧
    ((executeRequest r s).1).resetCause = s.resetCause ∧ ((executeRequest r s).1).settle = s.settle ∧
    ((executeRequest r s).1).inputs = s.inputs ∧ ((executeRequest r s).1).plant = s.plant ∧
    ((executeRequest r s).1).profile = s.profile ∧ ((executeRequest r s).1).link.assembly = s.link.assembly ∧
    ((executeRequest r s).1).link.gap = s.link.gap ∧ ((executeRequest r s).1).link.buffer = s.link.buffer ∧
    ((executeRequest r s).1).link.reply = s.link.reply ∧
    ((executeRequest r s).1).link.transmitter = s.link.transmitter ∧
    ((executeRequest r s).1).link.crcErrors = s.link.crcErrors ∧
    ((executeRequest r s).1).link.framingErrors = s.link.framingErrors ∧
    ((executeRequest r s).1).link.overflows = s.link.overflows := by
  cases r <;> simp [executeRequest]

@[simp] theorem perform_frame (w : Waiting) (s : State) :
    ((perform w s).1).pending = s.pending ∧ ((perform w s).1).choices = s.choices ∧
    ((perform w s).1).phase = s.phase ∧ ((perform w s).1).coldLine = s.coldLine ∧
    ((perform w s).1).warmLine = s.warmLine ∧ ((perform w s).1).resetKind = s.resetKind ∧
    ((perform w s).1).resetCause = s.resetCause ∧ ((perform w s).1).settle = s.settle ∧
    ((perform w s).1).inputs = s.inputs ∧ ((perform w s).1).plant = s.plant ∧ ((perform w s).1).profile = s.profile ∧
    ((perform w s).1).link.assembly = s.link.assembly ∧ ((perform w s).1).link.gap = s.link.gap ∧
    ((perform w s).1).link.buffer = s.link.buffer ∧ ((perform w s).1).link.reply = s.link.reply ∧
    ((perform w s).1).link.transmitter = s.link.transmitter ∧ ((perform w s).1).link.crcErrors = s.link.crcErrors ∧
    ((perform w s).1).link.framingErrors = s.link.framingErrors ∧ ((perform w s).1).link.overflows = s.link.overflows := by
  unfold perform
  split <;> simp

@[simp] theorem executeOldest_frame (s : State) :
    (executeOldest s).pending = s.pending ∧ (executeOldest s).choices = s.choices ∧
    (executeOldest s).phase = s.phase ∧ (executeOldest s).coldLine = s.coldLine ∧
    (executeOldest s).warmLine = s.warmLine ∧ (executeOldest s).resetKind = s.resetKind ∧
    (executeOldest s).resetCause = s.resetCause ∧ (executeOldest s).settle = s.settle ∧
    (executeOldest s).inputs = s.inputs ∧ (executeOldest s).plant = s.plant ∧ (executeOldest s).profile = s.profile ∧
    (executeOldest s).link.assembly = s.link.assembly ∧ (executeOldest s).link.gap = s.link.gap ∧
    (executeOldest s).link.transmitter = s.link.transmitter ∧ (executeOldest s).link.crcErrors = s.link.crcErrors ∧
    (executeOldest s).link.framingErrors = s.link.framingErrors ∧ (executeOldest s).link.overflows = s.link.overflows := by
  unfold executeOldest
  dsimp only
  split <;> simp

@[simp] theorem submit_frame (r : Request) (s : State) :
    (submit r s).pending = s.pending ∧ (submit r s).choices = s.choices ∧ (submit r s).phase = s.phase ∧
    (submit r s).coldLine = s.coldLine ∧ (submit r s).warmLine = s.warmLine ∧ (submit r s).resetKind = s.resetKind ∧
    (submit r s).resetCause = s.resetCause ∧ (submit r s).settle = s.settle ∧ (submit r s).inputs = s.inputs ∧
    (submit r s).plant = s.plant ∧ (submit r s).profile = s.profile ∧ (submit r s).link.assembly = s.link.assembly ∧
    (submit r s).link.gap = s.link.gap ∧ (submit r s).link.transmitter = s.link.transmitter ∧
    (submit r s).link.crcErrors = s.link.crcErrors ∧ (submit r s).link.framingErrors = s.link.framingErrors := by
  unfold submit
  split <;> simp

@[simp] theorem chooseMessage_frame (s : State) :
    (chooseMessage s).pending = s.pending ∧ (chooseMessage s).choices = s.choices ∧
    (chooseMessage s).phase = s.phase ∧ (chooseMessage s).coldLine = s.coldLine ∧
    (chooseMessage s).warmLine = s.warmLine ∧ (chooseMessage s).resetKind = s.resetKind ∧
    (chooseMessage s).resetCause = s.resetCause ∧ (chooseMessage s).settle = s.settle ∧
    (chooseMessage s).inputs = s.inputs ∧ (chooseMessage s).plant = s.plant ∧ (chooseMessage s).track = s.track ∧
    (chooseMessage s).dose = s.dose ∧ (chooseMessage s).programmes = s.programmes ∧
    (chooseMessage s).stations = s.stations ∧ (chooseMessage s).merge = s.merge ∧
    (chooseMessage s).directory = s.directory ∧ (chooseMessage s).ret = s.ret ∧
    (chooseMessage s).interlock = s.interlock ∧ (chooseMessage s).profile = s.profile ∧
    (chooseMessage s).link.assembly = s.link.assembly ∧ (chooseMessage s).link.gap = s.link.gap ∧
    (chooseMessage s).link.buffer = s.link.buffer ∧ (chooseMessage s).link.reply = s.link.reply ∧
    (chooseMessage s).link.crcErrors = s.link.crcErrors ∧
    (chooseMessage s).link.framingErrors = s.link.framingErrors ∧
    (chooseMessage s).link.overflows = s.link.overflows ∧ (chooseMessage s).link.discarded = s.link.discarded ∧
    (chooseMessage s).link.mask = s.link.mask := by
  unfold chooseMessage
  split <;> simp

@[simp] theorem idleTimerHook_frame (b s : State) :
    (idleTimerHook b s).pending = s.pending ∧ (idleTimerHook b s).choices = s.choices ∧
    (idleTimerHook b s).phase = s.phase ∧ (idleTimerHook b s).coldLine = s.coldLine ∧
    (idleTimerHook b s).warmLine = s.warmLine ∧ (idleTimerHook b s).resetKind = s.resetKind ∧
    (idleTimerHook b s).resetCause = s.resetCause ∧ (idleTimerHook b s).settle = s.settle ∧
    (idleTimerHook b s).inputs = s.inputs ∧ (idleTimerHook b s).plant = s.plant ∧
    (idleTimerHook b s).track = s.track ∧ (idleTimerHook b s).dose = s.dose ∧
    (idleTimerHook b s).programmes = s.programmes ∧ (idleTimerHook b s).stations = s.stations ∧
    (idleTimerHook b s).merge = s.merge ∧ (idleTimerHook b s).directory = s.directory ∧
    (idleTimerHook b s).ret = s.ret ∧ (idleTimerHook b s).profile = s.profile ∧ (idleTimerHook b s).link = s.link := by
  unfold idleTimerHook
  dsimp only
  (repeat' split) <;> simp

@[simp] theorem conclude_frame (b s : State) :
    (conclude b s).pending = s.pending ∧ (conclude b s).choices = s.choices ∧ (conclude b s).phase = s.phase ∧
    (conclude b s).coldLine = s.coldLine ∧ (conclude b s).warmLine = s.warmLine ∧
    (conclude b s).resetKind = s.resetKind ∧ (conclude b s).resetCause = s.resetCause ∧
    (conclude b s).settle = s.settle ∧ (conclude b s).inputs = s.inputs ∧ (conclude b s).plant = s.plant ∧
    (conclude b s).dose = s.dose ∧ (conclude b s).programmes = s.programmes ∧ (conclude b s).ret = s.ret ∧
    (conclude b s).profile = s.profile ∧ (conclude b s).link.assembly = s.link.assembly ∧
    (conclude b s).link.gap = s.link.gap ∧ (conclude b s).link.buffer = s.link.buffer ∧
    (conclude b s).link.reply = s.link.reply ∧ (conclude b s).link.crcErrors = s.link.crcErrors ∧
    (conclude b s).link.framingErrors = s.link.framingErrors ∧ (conclude b s).link.overflows = s.link.overflows ∧
    (conclude b s).link.mask = s.link.mask := by
  unfold conclude
  split <;> simp

/-- A request that completes while the link listens is executed at once: its reply fills the slot (R181, R182). -/
theorem submit_listening (r : Request) {s : State} (hr : s.link.reply = none) (hb : s.link.buffer = []) :
    submit r s = { (perform ⟨r, !s.isRunning⟩ s).1 with link := { (perform ⟨r, !s.isRunning⟩ s).1.link with
      reply := some ⟨replyKind r.kindByte, (perform ⟨r, !s.isRunning⟩ s).2.1, (perform ⟨r, !s.isRunning⟩ s).2.2⟩ } } := by
  cases s
  rename_i l
  cases l
  dsimp only at hr hb
  subst hr hb
  rfl

/-- Once start-up has ended a request whose frame completed after it is executed (R183). -/
theorem perform_running {w : Waiting} {s : State} (h : s.phase = .running) (hw : w.starting = false) :
    perform w s = executeRequest w.request s := by
  simp [perform, h, hw]

/-- Every request whose frame completed during start-up is answered STARTING (R176). -/
theorem perform_marked {w : Waiting} (s : State) (hw : w.starting = true) : perform w s = (s, .starting, .empty) := by
  simp [perform, hw]

/-- During start-up every request is (R183). -/
theorem perform_starting (w : Waiting) {s : State} (h : s.phase ≠ .running) :
    perform w s = (s, .starting, .empty) := by
  simp [perform, h]

end Sys2Proof.Machine
end

