-- ==== Sys2Proof/Laws/Settled.lean ====
section
/-! SUPPORT. With nothing left to follow, the end of a command does nothing but let the transmitter choose. -/

namespace Sys2Proof.Machine
open Sys2Proof

/-- With nothing due a due evaluation changes nothing. -/
theorem dueEvaluation_of_nothingDue {s : State} (h : NothingDue s) : dueEvaluation s = s := by
  obtain ⟨hr, hh, hp⟩ := h
  unfold dueEvaluation
  split
  · next e => rcases hr e with h | h <;> simp [h]
  · next e =>
    obtain ⟨hx, hq, hn⟩ := hh e
    have h1 : startExtension s = s := by
      unfold startExtension
      rcases hx with h | h <;> simp [h]
    unfold evaluate
    simp only [h1]
    rw [← hq, if_neg hn, ← e]
  · next e =>
    split
    · next c =>
      simp only [Bool.and_eq_true, beq_iff_eq] at c
      obtain ⟨hf, hq⟩ := hp e c.1 c.2
      unfold purgeStep
      split
      · rfl
      · rw [hf, ← hq]; simp
    · rfl
  · rfl

/-- With no grant opportunity open nothing is granted. -/
theorem grantOpportunity_of_closed {s : State} (h : grantOpen s = false) : grantOpportunity s = s := by
  simp [grantOpportunity, h]

/-- The idle timer keeps as it is while READY and idle, and stays stopped otherwise. -/
theorem idleTimerHook_same {b s : State} (hb : idleInReady s = true → idleInReady b = true)
    (h : idleInReady s = true ∨ s.interlock.idle = .idle) : idleTimerHook b s = s := by
  unfold idleTimerHook
  dsimp only
  split
  · simp [hb ‹_›]
  · rcases h with h | h
    · contradiction
    · rw [← h]

/-- The end of a command that leaves a settled state (R185). -/
theorem conclude_settled {b s : State} (hs : Settled s) (hb : idleInReady s = true → idleInReady b = true) :
    conclude b s = chooseMessage s := by
  obtain ⟨h1, h2, h3⟩ := hs
  unfold conclude
  rw [dueEvaluation_of_nothingDue h1, grantOpportunity_of_closed h2, idleTimerHook_same hb h3]
  simp

/-- The end of a command before start-up has ended. -/
theorem conclude_not_running {b s : State} (h : s.phase ≠ .running) : conclude b s = chooseMessage s := by
  simp [conclude, h]

/-- What a settled state rests on: a change of the link, and of a block that plays no part in it, leaves it settled. -/
theorem Settled.congr {s t : State} (hs : Settled s) (h1 : t.track = s.track) (h2 : t.ret = s.ret)
    (h3 : t.merge = s.merge) (h4 : t.interlock = s.interlock) (h5 : t.stations = s.stations)
    (h6 : t.profile.values.stations = s.profile.values.stations) : Settled t := by
  have hf : f2Below t = f2Below s := by simp only [f2Below, h1]
  have hr : routeFound t = routeFound s := by
    simp only [routeFound, exitRoute, cleanHasPlace, cleanCount, laneCount, cleanReserved, laneReserved,
      State.reservation, h1, h2]
    rfl
  have hh : holdsNow t = holdsNow s := by simp only [holdsNow, transferInFlight, doseMet, hf, hr, h1, h3, h4]
  have hw : headWaiting t = headWaiting s := by funext n; simp only [headWaiting, fitted, h5, h6]
  have hg : grantOpen t = grantOpen s := by simp only [grantOpen, hw, h1, h2, h3]
  have hi : idleInReady t = idleInReady s := by
    simp only [idleInReady, partIdle, transferInFlight, h1, h2, h3, h5]
  simpa only [Settled, NothingDue, hf, hr, hh, hg, hi, h1, h4] using hs

end Sys2Proof.Machine
end

