-- ==== Sys2Proof/Laws/Exec.lean ====
section
/-! SUPPORT. What a request command does, said once for all of them. -/

namespace Sys2Proof.Machine
open Sys2Proof

/-- A request command hands its request to the link and then brings the command to its end. -/
theorem exec_request {c : Instr} {r : Request} (h : requestOf c = some r) (s : State) :
    exec c s = .next (conclude s (whenLinked (submit r) (withReadings c s))) := by
  cases c
  all_goals first | (obtain rfl := Option.some.inj h; rfl) | cases h

@[simp] theorem withReadings_phase (c : Instr) (s : State) : (withReadings c s).phase = s.phase := by cases c <;> rfl
@[simp] theorem withReadings_link (c : Instr) (s : State) : (withReadings c s).link = s.link := by cases c <;> rfl
@[simp] theorem withReadings_linkWorks (c : Instr) (s : State) : (withReadings c s).linkWorks = s.linkWorks := by
  simp [State.linkWorks]

/-- While the link listens, a request command executes its request and places the reply (R181, R182). -/
theorem exec_listening {c : Instr} {r : Request} {s : State} (h : requestOf c = some r) (hl : Listening s) :
    exec c s = .next (conclude s (answered r.kindByte (executeRequest r (withReadings c s)).2.1
      (executeRequest r (withReadings c s)).2.2 (executeRequest r (withReadings c s)).1)) := by
  obtain ⟨h1, h2, h3⟩ := hl
  have hw : (withReadings c s).linkWorks = true := by simp [State.linkWorks, h1]
  rw [exec_request h, whenLinked, if_pos hw, submit_listening r (by simpa using h2) (by simpa using h3),
    perform_running (by simpa using h1) (by simp [State.isRunning, h1])]
  rfl

/-- A settled state stays settled when the readings of the sensors are noted. -/
theorem Settled.withReadings {s : State} (h : Settled s) (c : Instr) : Settled (withReadings c s) := by
  cases c <;> exact h

/-- A request that changes nothing in a settled state is answered, and that is all (R183). -/
theorem exec_unchanged {c : Instr} {r : Request} {s : State} {res : Result} {body : ReplyBody}
    (h : requestOf c = some r) (hl : Listening s) (hs : Settled s)
    (he : executeRequest r (withReadings c s) = (withReadings c s, res, body)) :
    exec c s = .next (onlyAnswered r.kindByte res body (withReadings c s)) := by
  rw [exec_listening h hl, he]
  have hq : Settled (answered r.kindByte res body (Machine.withReadings c s)) :=
    (hs.withReadings c).congr rfl rfl rfl rfl rfl rfl
  rw [conclude_settled hq]
  · rfl
  · intro hi
    have : idleInReady (answered r.kindByte res body (Machine.withReadings c s)) = idleInReady s := by
      cases c <;> rfl
    rwa [this] at hi

end Sys2Proof.Machine
end

