-- ==== Sys2Proof/Laws/Layout.lean ====
section
/-! SUPPORT. What the frames of a message are: joined they give its payload, each but the last carries 58 bytes and the last
fewer, and every notice fits one frame (R184). -/

namespace Sys2Proof.Machine
open Sys2Proof

@[simp] theorem twoBytes_length (n : Nat) : (twoBytes n).length = 2 := rfl
@[simp] theorem halfBytes_length (w : Half) : (halfBytes w).length = 2 := rfl
@[simp] theorem blockBytes_length (b : EntryBlock) : (blockBytes b).length = 12 := rfl
@[simp] theorem descriptorBytes_length (d : DescriptorReport) : (descriptorBytes d).length = 7 := rfl
@[simp] theorem kindMapBytes_length (m : KindMap) : (kindMapBytes m).length = 5 := rfl
@[simp] theorem linkBytes_length (r : LinkReport) : (linkBytes r).length = 12 := rfl
@[simp] theorem identityBytes_length (r : IdentityReport) : (identityBytes r).length = 13 := rfl
@[simp] theorem groupBytes_length (m l : Members) (h : Bool) (n : Half) (c : LatchCause) :
    (groupBytes m l h n c).length = 6 := rfl

@[simp] theorem blockBytes?_length (b : Option EntryBlock) : (blockBytes? b).length = 12 := by cases b <;> rfl

@[simp] theorem positionBytes_length (r : Option TrackRecord) : (positionBytes r).length = 12 := by cases r <;> rfl

theorem flatMap_length_of_const {α β : Type} {f : α → List β} {n : Nat} (h : ∀ a, (f a).length = n) (l : List α) :
    (l.flatMap f).length = n * l.length := by
  induction l with
  | nil => simp
  | cons a l ih => simp [h, ih, Nat.mul_add, Nat.add_comm]

@[simp] theorem sanitationBytes_length (v : Sanitation) : (sanitationBytes v).length = 43 := by
  simp [sanitationBytes, flatMap_length_of_const twoBytes_length]

/-- The GET_TRACK reply has 220 bytes with its result byte (Table 46). -/
@[simp] theorem trackBytes_length (r : TrackReport) : (trackBytes r).length = 219 := by
  simp [trackBytes, flatMap_length_of_const positionBytes_length]

theorem freePart_length_le {α : Type} (room place : Nat) (m : α) : (freePart room place m).length ≤ room := by
  simp only [freePart, List.length_take]; omega

theorem halfOrFree_length_le {α : Type} {room : Nat} (h : 2 ≤ room) (place : Nat) (m : α) (w : Option Half) :
    (halfOrFree room place m w).length ≤ room := by
  cases w with
  | none => exact freePart_length_le room place m
  | some w => simpa [halfOrFree] using h

theorem sensorBytes_length_le (m : SensorReport) : (sensorBytes m).length ≤ 56 := by
  have h := halfOrFree_length_le (room := 47) (by omega) 1 m (m.codeB.map (·.setWidth 16))
  simp only [sensorBytes, List.length_append, halfBytes_length, twoBytes_length, List.length_cons, List.length_nil]
  omega

theorem FaultNotice.fields_length_le (f : FaultNotice) : f.fields.length ≤ 56 := by
  cases f with
  | jamTransfer r e =>
    have h := halfOrFree_length_le (room := 55) (by omega) 1 r e
    simp only [FaultNotice.fields, List.length_cons]; omega
  | recoveryFailed n t =>
    have h := halfOrFree_length_le (room := 55) (by omega) 1 n (t.map (BitVec.ofNat 16))
    simp only [FaultNotice.fields, List.length_cons]; omega
  | sensorDisagree m => exact sensorBytes_length_le m
  | sensorLost m => exact sensorBytes_length_le m
  | _ => simp [FaultNotice.fields]

/-- A SET_FULL notice carries four ids (R116); the others are short whatever they carry. -/
theorem AdmissionNotice.fields_length_le (a : AdmissionNotice)
    (h : ∀ id set n pinned, a = .setFull id set n pinned → pinned.length ≤ 4) : a.fields.length ≤ 56 := by
  cases a with
  | conflict n e q o =>
    have h := freePart_length_le 53 2 (AdmissionNotice.conflict n e q o)
    simp only [AdmissionNotice.fields, List.length_append, halfBytes_length, List.length_cons, List.length_nil]; omega
  | setFull id set n pinned =>
    have h := h _ _ _ _ rfl
    simp [AdmissionNotice.fields, flatMap_length_of_const halfBytes_length]; omega
  | _ => simp [AdmissionNotice.fields]

/-- Every notice fits one frame (R184). -/
theorem Notice.payload_length_le (n : Notice)
    (h : ∀ id set k pinned, n = .admission (.setFull id set k pinned) → pinned.length ≤ 4) : n.payload.length ≤ 57 := by
  cases n with
  | fault f => have := f.fields_length_le; simp only [Notice.payload, List.length_cons]; omega
  | admission a =>
    have := a.fields_length_le fun id set k p e => h id set k p (by rw [e])
    simp only [Notice.payload, List.length_cons]; omega
  | state r =>
    have := freePart_length_le 54 3 r
    simp only [Notice.payload, stateBytes, List.length_append, List.length_cons, List.length_nil]; omega
  | _ => simp [Notice.payload]

/-- A reply other than GET_TRACK, GET_RETURN, GET_STATION, GET_MERGE and GET_RINSE fits one frame (R184). -/
theorem Reply.payload_length_le (r : Reply) (h1 : ∀ x, r.body ≠ .track x) (h2 : ∀ x, r.body ≠ .returns x)
    (h3 : ∀ x, r.body ≠ .station x) (h4 : ∀ x, r.body ≠ .merge x) (h5 : ∀ x, r.body ≠ .rinse x) :
    r.payload.length ≤ 57 := by
  obtain ⟨kind, result, body⟩ := r
  cases body with
  | track x => exact absurd rfl (h1 x)
  | returns x => exact absurd rfl (h2 x)
  | station x => exact absurd rfl (h3 x)
  | merge x => exact absurd rfl (h4 x)
  | rinse x => exact absurd rfl (h5 x)
  | faultCleared c o =>
    have := freePart_length_le 55 1 (c, o)
    simp only [Reply.payload, ReplyBody.bytes, List.length_cons]; omega
  | sanitationRead v x l q =>
    have := freePart_length_le 12 2 (x, l, q)
    simp only [Reply.payload, ReplyBody.bytes, List.length_append, List.length_cons, List.length_nil, sanitationBytes_length]
    omega
  | head n e =>
    have := freePart_length_le 52 3 e
    simp only [Reply.payload, ReplyBody.bytes, List.length_append, List.length_cons, List.length_nil, halfBytes_length]
    omega
  | interlocks x =>
    have := freePart_length_le 50 5 x
    simp only [Reply.payload, ReplyBody.bytes, List.length_append, List.length_cons, groupBytes_length]
    omega
  | _ => simp [Reply.payload, ReplyBody.bytes]

/-- The frames of a message are one more than the whole runs of 58 bytes in it (R184). -/
@[simp] theorem framePayloads_length (p : List Byte) : (framePayloads p).length = p.length / 58 + 1 := by
  simp [framePayloads]

/-- Each frame but the last carries 58 bytes, and the last the rest, none for an exact multiple of 58 (R184). -/
theorem framePayloads_getElem_length (p : List Byte) (i : Nat) (h : i < (framePayloads p).length) :
    ((framePayloads p)[i]).length = if i < p.length / 58 then 58 else p.length % 58 := by
  have hi : i < p.length / 58 + 1 := by simpa using h
  simp only [framePayloads, List.getElem_map, List.getElem_range, List.length_take, List.length_drop,
    Config.framePayload]
  split <;> omega

/-- The payload of a message is that of its frames joined in order (R184). -/
theorem framePayloads_flatten (p : List Byte) : (framePayloads p).flatten = p := by
  have key : ∀ n, ((List.range n).map fun i => (p.drop (58 * i)).take 58).flatten = p.take (58 * n) := by
    intro n
    induction n with
    | zero => simp
    | succ n ih =>
      rw [List.range_succ, List.map_append, List.flatten_append, ih]
      simp only [List.map_cons, List.map_nil, List.flatten_cons, List.flatten_nil, List.append_nil, Nat.mul_succ]
      rw [List.take_add]
  simp only [framePayloads, Config.framePayload, key]
  exact List.take_of_length_le (by omega)

/-- A message of up to 57 bytes is one frame (R184). -/
theorem messageFrames_of_short (kind : Byte) (p : List Byte) (h : p.length ≤ 57) : messageFrames kind p = [frame kind p] := by
  have h0 : p.length / 58 = 0 := by omega
  have ht : p.take 58 = p := List.take_of_length_le (by omega)
  simp [messageFrames, framePayloads, h0, ht, List.range_succ]

end Sys2Proof.Machine
end

