-- ==== Sys2Proof/WellFormed.lean ====
section
/-! DEFINITION. The checks of a well-formed command: operands that agree with the event the command stands for. -/

namespace Sys2Proof

/-- A frame carries at most this many LOAD_STACK entries in its largest payload of 58 bytes (section 10.2). -/
abbrev maxLoadEntries : Nat := 18

/-- A command is well formed when its operands can stand together:
- STEP_COMPLETION reads the index sensor made, TRANSFER_COMPLETION the position-0 sensor (R15, R95);
- SPUR_HEAD_MADE reads its own sensor made (R76);
- PROFILE_READ_COMPLETE carries an image of 64 bytes (R169);
- LOAD_STACK carries as many entries as its count says, and no more than a frame holds (R183);
- DELIVERY_COMPLETION and TRAVEL_TIMER_EXPIRY name a place their lists can have (R69, R137). -/
def Instr.wellFormed : Instr → Bool
  | .stepCompletion p => p.index
  | .transferCompletion p => p.position0
  | .spurHeadMade n p => p.spurHead.get n
  | .profileReadComplete image => image.length == 64
  | .loadStack _ count entries => entries.length == count.toNat && entries.length ≤ maxLoadEntries
  | .deliveryCompletion _ i => i < 6
  | .travelTimerExpiry i => i < 12
  | _ => true

end Sys2Proof
end

