-- ==== Sys2Proof/Tests/Slice0.lean ====
section
/-! SUPPORT. Small tests: the well-formedness checks, the manual's worked examples one step at a time, and, for every
statement with hypotheses, states and operands that meet them. Expected values come from the manual. -/

namespace Sys2Proof.Tests
open Sys2Proof Sys2Proof.Machine

/-! ### States for the tests -/

/-- Start-up has ended with the built-in values; the track stands in OFF. -/
def off : State := { State.reset with phase := .running, profile := { Profile.fresh with reading := false, bits := 512 } }

/-- Change the track. -/
def track (f : Track → Track) (s : State) : State := { s with track := f s.track }
/-- Change the merge. -/
def merge (f : Merge → Merge) (s : State) : State := { s with merge := f s.merge }
/-- Change the return. -/
def ret (f : Return → Return) (s : State) : State := { s with ret := f s.ret }
/-- Change the interlock monitor. -/
def lock (f : Interlock → Interlock) (s : State) : State := { s with interlock := f s.interlock }
/-- Change the link. -/
def link (f : Link → Link) (s : State) : State := { s with link := f s.link }
/-- Change the dose unit. -/
def dose (f : Dose → Dose) (s : State) : State := { s with dose := f s.dose }
/-- Change a station. -/
def station (n : Quad) (f : StationUnit → StationUnit) (s : State) : State :=
  { s with stations := s.stations.set n (f (s.stations.get n)) }

/-- After the first RUN: the track in READY, empty, the settings locked. -/
def ready : State :=
  { track (fun t => { t with state := .ready, runEnable := true }) off with
    programmes := { off.programmes with lock := true } }

/-- Programme 1 as a snapshot (Table 17). -/
def snap : Snapshot := ⟨1, 179, 2400, 20, true, 1⟩
/-- A rack of programme 1 from station 1. -/
def rack (id : RackId) (d : Nat) (v : Verdict) : TrackRecord :=
  ⟨id, .plate, some snap, d, v, 0, .station 0, .tag, false, false, none⟩
/-- The sensors with the index and the position-0 sensor made, and every bay and spur-head sensor. -/
def allMade : Plant := ⟨true, true, false, Four.all true, Four.all true, Four.all .cutlery⟩
/-- What holds after a step, if it answers a next state. -/
def after {β : Type} (o : Answer) (f : State → β) : Option β :=
  match o with
  | .next t => some (f t)
  | _ => none

/-! ### Well-formed commands: one ill-formed term for each check -/

theorem test_stepCompletion_needs_index : (Instr.stepCompletion plantAtRest).wellFormed = false := by decide
theorem test_transferCompletion_needs_position0 : (Instr.transferCompletion plantAtRest).wellFormed = false := by decide
theorem test_spurHeadMade_needs_sensor : (Instr.spurHeadMade 2 plantAtRest).wellFormed = false := by decide
theorem test_profile_image_length : (Instr.profileReadComplete (List.replicate 63 0)).wellFormed = false := by decide
theorem test_loadStack_count : (Instr.loadStack 1 2 [⟨7, 1⟩]).wellFormed = false := by decide
theorem test_loadStack_frame : (Instr.loadStack 1 19 (List.replicate 19 ⟨0, 1⟩)).wellFormed = false := by decide
theorem test_delivery_place : (Instr.deliveryCompletion 0 6).wellFormed = false := by decide
theorem test_transit_place : (Instr.travelTimerExpiry 12).wellFormed = false := by decide
theorem test_wellFormed_accepts : (Instr.stepCompletion allMade).wellFormed = true ∧
    (Instr.transferCompletion allMade).wellFormed = true ∧ (Instr.spurHeadMade 2 allMade).wellFormed = true ∧
    (Instr.loadStack 1 1 [⟨7, 1⟩]).wellFormed = true ∧ (Instr.deliveryCompletion 3 5).wellFormed = true ∧
    (Instr.travelTimerExpiry 11).wellFormed = true := by decide
/-- No row of the opcode table gives bits, so no word spells a command. -/
theorem test_no_word_spells_a_command : decodeTableWord 8 1 = none := by decide

/-! ### Chapter 1: the worked step cycle (section 1.14) -/

/-- At 22.35 s the dose of rack 4117 is met and the step starts; the X record goes to quarantine. -/
def cycle : State :=
  track (fun t => { t with
    state := .hold, stepDue := true, stepTimer := .expired, extension := .running 1565,
    holds := { Holds.empty with dose := true },
    positions := (((t.positions.set 5 (some { rack 77 0 .none with kind := .tray, programme := some ⟨2, 119, 1800, 10, false, 0⟩ })).set
      11 (some (rack 902 1490 .none))).set 12 (some { rack 4117 2390 .none with kind := .cup })).set 16
      (some (rack 3310 2100 .short)) })
  (ret (fun r => { r with
    cleanEnd := [⟨rack 1 2400 .sanitised, false⟩, ⟨rack 2 2400 .sanitised, false⟩, ⟨rack 3 2400 .sanitised, false⟩],
    lane := [rack 4 2000 .short, rack 6 2000 .short] })
  (dose (fun d => { d with converter := .convertingB, pendingA := some 639, cycle := .running 15 }) ready))

theorem test_step_starts_when_the_dose_is_met :
    after (exec (.conversionBComplete 640) cycle) (fun t => (t.track.state, t.track.holds, t.track.motionTimer, t.reservation)) =
    some (.stepping, .empty, .running 600, some .quarantine) := by decide
theorem test_verdict_at_step_start :
    after (exec (.conversionBComplete 640) cycle) (fun t => (t.track.f1.map (·.dose), t.track.f2.map (·.dose),
      t.track.f2.map (·.verdict), t.track.f2.map (·.leaving))) =
    some (some 1500, some 2400, some .sanitised, some true) := by decide
theorem test_completion_moves_on :
    after (exec (.stepCompletion allMade) (track (fun t => { t with
        state := .stepping, motion := .inFlight, chainDrive := true, motionTimer := .running 210,
        positions := t.positions.set 16 (some { rack 3310 2100 .short with destination := some .quarantine }) })
        cycle))
      (fun t => (t.track.positions.toList.map (fun r => (r.map (·.id)).getD 0), t.track.stepTimer,
        t.ret.cleanEnd.map (·.quarantined))) =
    some ([0, 0, 0, 0, 0, 0, 77, 0, 0, 0, 0, 0, 902, 4117, 0, 0, 0], .running 1800, [false, false, false, true]) := by
  decide
/-- With the extension run out the rack leaves SHORT. -/
theorem test_extension_runs_out :
    after (exec .extensionExpiry cycle) (fun t => (t.track.state, t.track.f2.map (·.verdict), t.link.transmitter)) =
    some (.stepping, some .short, .notice (.shortDose 4117 1 2390 2400 0)) := by decide

/-! ### Chapter 2: Table 15 -/

/-- The figures of a sample: tA, tB, t and credit, the status, the band. -/
def figures (m : Sample) : List Nat × SampleStatus × Option Nat := ([m.tA, m.tB, m.t, m.credit], m.status, m.band)

theorem test_samples_that_agree :
    figures (sampleOf .builtIn true 660 (some 662)) = ([845, 846, 845, 16], .good, some 2) ∧
    figures (sampleOf .builtIn true 639 (some 640)) = ([824, 825, 824, 10], .good, some 0) ∧
    figures (sampleOf .builtIn true 722 (some 724)) = ([905, 907, 906, 63], .good, some 8) ∧
    figures (sampleOf .builtIn true 790 (some 792)) = ([971, 973, 972, 316], .good, some 15) := by decide
theorem test_samples_that_disagree_or_miss :
    figures (sampleOf .builtIn true 660 (some 700)) = ([845, 884, 845, 16], .disagree, some 2) ∧
    figures (sampleOf .builtIn true 1023 (some 662)) = ([0, 846, 846, 16], .single, some 2) ∧
    figures (sampleOf .builtIn true 0 (some 1023)) = ([0, 0, 0, 0], .invalid, none) ∧
    figures (sampleOf .builtIn true 630 (some 631)) = ([815, 816, 815, 0], .good, none) ∧
    figures (sampleOf .builtIn false 660 (some 662)) = ([845, 846, 845, 0], .good, none) := by decide
theorem test_other_calibration :
    figures (sampleOf { Sanitation.builtIn with aBase := 150, aSpan := 1100 } true 660 (some 662)) = ([859, 846, 852, 20], .good, some 3) := by decide

/-! ### Chapter 3: the worked programme edit (section 3.6) -/

theorem test_extension_limit_is_clamped :
    after (exec (.setProgramme 3 1 209 3000 90 1 2) ready) (fun t => (t.programmes.table[3], t.link.reply.map (·.result))) =
    some (some ⟨209, 3000, 60, true, 2⟩, some .clamped) := by decide
theorem test_absent_descriptor_reports_zeros :
    after (exec (.setProgramme 1 0 209 3000 90 1 2) ready) (fun t => t.link.reply.map (·.body)) =
    some (some (.programme ⟨false, 0, 0, 0, false, 0⟩)) := by decide
/-- UNKNOWN to programme 3: the refused head of station 4 becomes eligible and, with position 0 empty, is granted. -/
theorem test_kind_map_retests_refused_heads :
    after (exec (.setKindMap 1 1 1 1 1) (station 3 (fun u => { u with spur := [⟨0, .unknown, true, true, none⟩] }) ready))
      (fun t => (t.merge.state, t.merge.rotation, (t.stations.get 3).spur.map (·.refused))) =
    some (.transferring, 3, [false]) := by decide

/-! ### Chapter 4: the worked station (section 4.12) -/

/-- Station 2 at the start of the sequence. -/
def peak : State :=
  station 1 (fun u => { u with
    stack := [⟨311, .cup⟩, ⟨208, .plate⟩], deliveries := [⟨415, .plate, .router, .running 500⟩],
    spur := [⟨190, .plate, true, false, none⟩, ⟨0, .unknown, false, false, none⟩] }) off

theorem test_stack_lift : after (exec (.stackLift 1) peak) (fun t => ((t.stations.get 1).stack, (t.stations.get 1).bay)) =
    some ([⟨208, .plate⟩], some ⟨311, .cup⟩) := by decide
theorem test_send_joins_the_spur :
    after (exec (.sendButton 1 allMade) (station 1 (fun u => { u with stack := [], bay := some ⟨311, .cup⟩ }) peak))
      (fun t => ((t.stations.get 1).bay, (t.stations.get 1).spur.getLast?)) =
    some (none, some ⟨311, .unknown, false, false, none⟩) := by decide
theorem test_send_to_a_full_spur :
    after (exec (.sendButton 1 allMade) (station 1 (fun u => { u with
        bay := some ⟨208, .plate⟩, spur := u.spur ++ [⟨311, .unknown, false, false, none⟩] }) peak))
      (fun t => ((t.stations.get 1).bay, (t.stations.get 1).spur.length, spurFullLamp t 1)) =
    some (some ⟨208, .plate⟩, 3, true) := by decide
theorem test_delivery_completes :
    after (exec (.deliveryCompletion 1 0) peak) (fun t => ((t.stations.get 1).stack.map (·.id), (t.stations.get 1).deliveries)) =
    some ([415, 311, 208], []) := by decide

/-! ### Chapter 5: the worked admissions (section 5.9) -/

theorem test_identity_of_the_admissions :
    resolveIdentity 2 305 [⟨305, true⟩, ⟨305, true⟩] false = (305, .tag, []) ∧
    resolveIdentity 3 410 [⟨777, true⟩] false = (777, .tag, [.mismatch 3 410 777 false]) ∧
    resolveIdentity 0 120 [⟨120, true⟩, ⟨9120, false⟩, ⟨555, true⟩] false = (120, .expected, []) ∧
    resolveIdentity 1 0 [⟨555, true⟩, ⟨555, true⟩, ⟨555, false⟩] true = (555, .tag, []) := by decide
/-- Admission 2: the entry of 777 on the stack loses its id. -/
theorem test_transfer_of_a_rack_found_elsewhere :
    after (exec (.transferCompletion plantAtRest) (merge (fun m => { m with
          state := .transferring, grant := some (.spur 3 410 .tray snap), pusher := some (.spur 3), timer := .running 9,
          tags := [⟨777, true⟩] })
        (station 3 (fun u => { u with spur := [⟨410, .tray, true, false, none⟩] })
          (station 0 (fun u => { u with stack := [⟨777, .plate⟩, ⟨203, .plate⟩] }) off))))
      (fun t => (t.track.infeed.map (·.id), t.track.infeed.map (·.tracked), (t.stations.get 0).stack,
        (t.stations.get 3).spur, t.merge.state)) =
    some (some 777, some true, [⟨0, .plate⟩, ⟨203, .plate⟩], [], .idle) := by decide
/-- Admission 4: 555 is in return transit, so the record is anonymous. -/
theorem test_transfer_of_a_duplicate :
    after (exec (.transferCompletion plantAtRest) (merge (fun m => { m with
          state := .transferring, grant := some (.spur 1 0 .cup snap), pusher := some (.spur 1), timer := .running 9,
          tags := [⟨555, true⟩, ⟨555, true⟩, ⟨555, false⟩], overrun := true })
        (ret (fun r => { r with transit := [⟨rack 555 2400 .sanitised, .running 7⟩] })
          (station 1 (fun u => { u with spur := [⟨0, .cup, true, false, none⟩] }) off))))
      (fun t => (t.track.infeed.map (·.id), t.track.infeed.map (·.identity), t.link.transmitter)) =
    some (some 0, some .none, .notice (.admission (.duplicate 1 555 .onReturn true))) := by decide
/-- The check byte of a tag report is the exclusive-or of the lead and the id bytes (R100). -/
theorem test_tag_check_byte :
    after (exec (.tagByteReceived (0xC3#8 ^^^ 0x01#8 ^^^ 0x31#8)) (merge (fun m => { m with
        receiver := .assembling [0x01, 0x31], tagGap := .running 2 }) off)) (fun t => (t.merge.tags, t.merge.receiver)) =
    some ([⟨305, true⟩], .hunting) := by decide

/-! ### Chapter 6: the worked set (section 6.10) -/

/-- An entry as an admission leaves it. -/
def admitted (id : RackId) : DirEntry := ⟨id, .plate, 0, 0, 0, .track, true, true, true⟩
/-- Set 5 after row 4. -/
def fourPinned : DirSet := ⟨⟨some (admitted 69), some (admitted 133), some (admitted 197), some (admitted 261)⟩, false, false, false⟩
/-- Set 5 after row 11: way 0 is unpinned. -/
def firstUnpinned : DirSet := { fourPinned with
  ways := fourPinned.ways.set 0 (some { admitted 69 with pinned := false, washes := 1, last := 2450, location := .onReturn }),
  b0 := true, b1 := true }
/-- A part whose set 5 is given. -/
def withSet (d : DirSet) (s : State) : State := { s with directory := s.directory.set 5 d }

theorem test_bits_of_the_four_admissions :
    let d1 := DirSet.fresh.put 0 (admitted 69)
    let d2 := d1.put 1 (admitted 133)
    let d3 := d2.put 2 (admitted 197)
    (d1.b0, d1.b1, d1.b2) = (true, true, false) ∧ (d2.b0, d2.b1, d2.b2) = (true, false, false) ∧
    (d3.b0, d3.b1, d3.b2) = (false, false, true) ∧ d3.put 3 (admitted 261) = fourPinned := by decide
theorem test_fifth_admission_finds_the_set_full :
    (admissionRequest 325 .plate 0 (withSet fourPinned off)).2 = false ∧
    (admissionRequest 325 .plate 0 (withSet fourPinned off)).1.link.notices =
      [.admission (.setFull 325 5 0 [69, 133, 197, 261])] ∧
    (admissionRequest 325 .plate 0 (withSet fourPinned off)).1.directory[5] = fourPinned := by decide
theorem test_dirty_victim_is_spilled :
    (admissionRequest 389 .plate 0 (withSet firstUnpinned off)).1.link.notices = [.spill
      ⟨⟨69, .plate, 1, 0, 2450, .onReturn, true, false, true⟩, 5, 0⟩ .replaced] ∧
    (admissionRequest 389 .plate 0 (withSet firstUnpinned off)).1.directory[5] =
      { firstUnpinned with ways := firstUnpinned.ways.set 0 (some (admitted 389)) } := by decide
theorem test_put_record_completes_a_partial_entry :
    after (exec (.putRecord 389 1 40 2 2500) (withSet { firstUnpinned with
        ways := firstUnpinned.ways.set 0 (some { admitted 389 with dirty := false }) } off))
      (fun t => (t.directory[5]).ways.get 0) = some (some ⟨389, .plate, 40, 2, 2500, .track, false, true, true⟩) := by decide

/-! ### Chapter 7: the worked return (section 7.9) -/

/-- The return at 6.80 s: 612 is due, the spacing timer runs out, stations 1 and 3 are full, station 2 takes plates. -/
def evening : State :=
  { ret (fun r => { r with
      transit := [⟨{ rack 612 2400 .sanitised with kind := .cutlery }, .expired⟩, ⟨{ rack 613 2400 .sanitised with kind := .tray }, .running 270⟩],
      spacing := .running 0, surplus := ⟨700, .plate⟩ :: ⟨701, .cup⟩ :: List.replicate 6 ⟨0, .plate⟩ })
    (station 0 (fun u => { u with stack := List.replicate 6 ⟨0, .plate⟩ })
    (station 1 (fun u => { u with stack := List.replicate 3 ⟨0, .plate⟩, mask := ⟨true, false, false, false⟩ })
    (station 2 (fun u => { u with stack := List.replicate 6 ⟨0, .plate⟩ })
    (station 3 (fun u => { u with mode := .closed }) off)))) with inputs := ⟨false, false, false, false, true⟩ }

theorem test_head_is_held_at_the_router :
    after (exec .spacingTimerExpiry evening) (fun t => (t.ret.held, t.ret.transit.length, t.link.transmitter)) =
    some (true, 2, .notice (.returnHold 612 .cutlery 8 1)) := by decide
/-- The pop at station 3 lets 612 in there and feeds 700 to station 2. -/
theorem test_pop_retries_the_head_and_feeds :
    after (exec (.stackLift 2) (ret (fun r => { r with held := true, spacing := .expired }) evening))
      (fun t => ((t.stations.get 2).deliveries.map (·.id), (t.stations.get 1).deliveries, t.ret.transit.length,
        t.ret.spacing)) =
    some ([612], [⟨700, .plate, .surplus, .running 800⟩], 1, .running 300) := by decide
/-- 613 joins surplus, and 701 is fed whatever the mask. -/
theorem test_arrival_in_surplus_feeds_one :
    after (exec .spacingTimerExpiry (ret (fun r => { r with
        transit := [⟨{ rack 613 2400 .sanitised with kind := .tray }, .expired⟩],
        surplus := ⟨701, .cup⟩ :: List.replicate 6 ⟨0, .plate⟩ }) evening))
      (fun t => (t.ret.surplus.length, (t.stations.get 1).deliveries.map (·.id), t.ret.diverter)) =
    some (7, [701], .surplus) := by decide
/-- 610 is retired at 1210 washes, and 520 takes the freed place of transit. -/
theorem test_retirement_completes_the_confirm :
    after (exec (.routerArrivalSensor true) (ret (fun r => { r with
          transit := ⟨rack 610 2400 .sanitised, .expired⟩ :: List.replicate 11 ⟨rack 0 2400 .sanitised, .running 2000⟩,
          cleanEnd := [⟨rack 520 2400 .sanitised, false⟩], confirm := true, inspections := 14 })
        { off with directory := off.directory.set 34 (DirSet.fresh.put 0 ⟨610, .cup, 1210, 0, 0, .onReturn, false, false, true⟩),
                   profile := { off.profile with values := { off.profile.values with retireLimit := 1200 } } }))
      (fun t => (t.ret.inspections, t.ret.diverter, t.ret.confirm,
        (t.ret.transit.map (·.record.id)).getLast?, t.ret.transit.length)) =
    some (15, .inspect, false, some 520, 12) := by decide

/-! ### Chapter 8: the worked lull (section 8.7) -/

theorem test_idle_limit_leads_to_standby :
    after (exec .idleTimerExpiry (lock (fun i => { i with idle := .running 0 }) ready))
      (fun t => (t.track.state, t.interlock.heat, t.link.transmitter)) =
    some (.standby, true, .notice (.state ⟨.standby, .empty, none, false, false, true, 0, 0, none⟩)) := by decide
theorem test_door_stops_the_recovery :
    after (exec (.doorChainChange true) (lock (fun i => { i with limit := .running 65000, count := 5 })
        (track (fun t => { t with state := .recovery }) ready)))
      (fun t => (t.track.state, t.track.recoveryPending, t.interlock.limit, t.interlock.count)) =
    some (.stopped, true, .idle, 6) := by decide
theorem test_release_latches_again :
    after (exec .releaseInterlocks (lock (fun i => { i with
        latched := true, count := 4, snapshot := ⟨false, false, false, true, false⟩ }) off))
      (fun t => (t.interlock.latched, t.interlock.count, t.interlock.cause, t.interlock.snapshot)) =
    some (true, 5, .release, ⟨false, false, false, false, false⟩) := by decide
theorem test_eighth_hot_sample_ends_the_recovery :
    after (exec (.conversionBComplete 662) (dose (fun d => { d with
          converter := .convertingB, pendingA := some 660, recoveryRun := 7 })
        (lock (fun i => { i with limit := .running 80000 }) (track (fun t => { t with state := .recovery })
          { ready with profile := { ready.profile with values := { ready.profile.values with recoveryMode := .temperature } } }))))
      (fun t => (t.track.state, t.interlock.limit, t.dose.recoveryRun)) = some (.ready, .idle, 8) := by decide

/-! ### Chapter 9: the worked profiles (section 9.4) -/

/-- The default profile. -/
def defaultImage : List Byte :=
  [1, 0x42, 7, 6, 8, 60, 0, 9, 90, 20, 40, 12, 12, 12, 12, 8, 3, 0, 0, 0, 0xC8, 3, 0xE8, 0, 0xC8, 3, 0xE8, 3, 0x34, 20] ++
  [0, 10, 0, 13, 0, 16, 0, 20, 0, 25, 0, 32, 0, 40, 0, 50, 0, 63, 0, 79, 0, 100, 0, 126, 0, 158, 0, 200, 0, 251, 1, 0x3C] ++
  [0x09, 0xFB]
/-- Rinse floor 980 and motion limit 25. -/
def outOfRange : List Byte :=
  (((((defaultImage.set 3 25).set 27 0x03).set 28 0xD4).set 62 0x0A).set 63 0xAE)

theorem test_default_profile :
    after (exec (.profileReadComplete defaultImage) State.reset) (fun t => (t.profile.status, t.profile.values,
      t.programmes.sanitation, t.programmes.source)) = some (.ok, .builtIn, .builtIn, .profile) := by decide +kernel
theorem test_clamped_profile :
    after (exec (.profileReadComplete outOfRange) State.reset) (fun t => (t.profile.status, t.profile.values.motionLimit,
      t.programmes.sanitation.floor, t.programmes.required)) = some (.clamped, 20, 950, false) := by decide
theorem test_corrupt_profile :
    after (exec (.profileReadComplete (defaultImage.set 45 0x72)) State.reset) (fun t => (t.profile.status, t.profile.values,
      t.programmes.source, t.programmes.required)) = some (.fault, .builtIn, .builtIn, true) := by decide

/-! ### Chapter 10: the worked session and the full queue (sections 10.2, 10.11 and 10.12) -/

theorem test_identify_frame : frame 0x01 [] = [0x5A, 0x01, 0x00, 0x2E, 0x3E] := by decide +kernel
theorem test_identify_during_start_up :
    after (exec .identify State.reset) (fun t => (t.link.reply, t.link.transmitter)) =
    some (some ⟨0x81, .starting, .empty⟩, .reply) := by decide
theorem test_end_of_start_up :
    after (exec (.endOfStartUp plantAtRest) { State.reset with phase := .settling, settle := .running 0 })
      (fun t => (t.link.transmitter, t.link.notices, t.track.state)) =
    some (.notice (.startUp .powerOn .supply .ok),
      [.interlock ⟨false, false, false, false, false⟩ ⟨false, false, false, false, false⟩ 1 .start], .off) := by decide +kernel
/-- A rack at the router stop when a power-on start-up ends is a stray (R150); one whose sensor stays made is reported once
(R139). -/
theorem test_stray_at_the_end_of_start_up :
    after (exec (.endOfStartUp plantAtRest) { State.reset with phase := .settling, inputs := ⟨false, false, false, false, true⟩ })
      (fun t => (t.link.notices.map Notice.priority).getLast?) = some (some 3) := by decide +kernel
theorem test_stray_needs_the_sensor_clear :
    after (exec (.routerArrivalSensor true) { off with inputs := ⟨false, false, false, false, true⟩ })
      (fun t => t.link.transmitter) = some .idle ∧
    after (exec (.routerArrivalSensor true) off) (fun t => t.link.transmitter) =
      some (.notice (.fault (.strayRack 0 0))) := by decide
/-- A RESTART received during start-up whose turn comes after it is answered STARTING (R175, R176). -/
theorem test_restart_received_in_start_up :
    after (exec (.transmitComplete plantAtRest) (link (fun l => { l with
        transmitter := .reply, reply := some ⟨0x81, .starting, .empty⟩, buffer := [⟨.restart 1, true⟩] }) off))
      (fun t => (t.phase, t.link.reply, t.link.buffer)) = some (.running, some ⟨0x84, .starting, .empty⟩, []) := by decide
/-- A warm reset taken during a power-on start-up begins it again with its kind and keeps the counters (R174, Table 53). -/
theorem test_warm_reset_in_start_up :
    after (exec .warmRestartLine (link (fun l => { l with crcErrors := 3, buffer := [⟨.identify, true⟩] }) State.reset))
      (fun t => (t.phase, t.resetKind, t.link.crcErrors, t.link.buffer, t.link.mask)) =
    some (.held, .powerOn, 3, [], 0x01FF) := by decide
/-- A bad length byte is taken again: 0x5A as a length starts a frame (R180, log entry 41). -/
theorem test_bad_length_is_taken_again :
    after (exec (.supervisoryByteReceived 0x5A true plantAtRest) (link (fun l => { l with assembly := [0x5A, 3] }) off))
      (fun t => (t.link.assembly, t.link.framingErrors)) = some ([0x5A], 1) := by decide
/-- GET_TRACK: 220 bytes in frames of 58, 58, 58 and 46. -/
theorem test_track_reply_frames :
    (framePayloads (Reply.payload ⟨0x8C, .ok, .track (trackReport off)⟩)).map (·.length) = [58, 58, 58, 46] := by
  decide +kernel
theorem test_link_status_reply :
    Reply.payload ⟨0x82, .ok, .linkStatus ⟨0, 0, 1, 0, 1, 0x01FF, .ok⟩⟩ = [0, 0, 0, 0, 0, 0, 1, 0, 0, 1, 1, 0xFF, 0] := by decide
/-- The cause opens a FAULT notice, and JAM_MOTION carries nothing else (section 10.5); SET_NOTIFY carries the mask (R188). -/
theorem test_cause_and_mask_payloads :
    Notice.payload (.fault .jamMotion) = [1] ∧
    Notice.payload (.fault (.missingRack 0x0102 .rewash)) = [4, 1, 2, 5] ∧
    Notice.payload (.admission (.spillBlocked 0x0105 5 1 0x0145)) = [7, 1, 5, 5, 2, 1, 0x45] ∧
    Reply.payload ⟨0x83, .ok, .notify 0x01FF⟩ = [0, 1, 0xFF] := by decide
/-- Section 10.11: START_UP takes 8 bytes on the line, the release reply 12 with snapshot and live DOOR, latched, count 2 and
cause RELEASE. -/
theorem test_start_up_session_frames :
    (messageFrames 0x40 (Notice.payload (.startUp .powerOn .supply .ok))).map (·.length) = [8] ∧
    (messageFrames 0xB1 (Reply.payload ⟨0xB1, .ok, .interlocksReleased ⟨false, true, false, false, false⟩
      ⟨false, true, false, false, false⟩ true 2 .release⟩)).map (·.length) = [12] ∧
    Reply.payload ⟨0xB1, .ok, .interlocksReleased ⟨false, true, false, false, false⟩ ⟨false, true, false, false, false⟩ true 2
      .release⟩ = [0, 2, 2, 1, 0, 2, 2] := by decide +kernel

/-- A state notice. -/
def stateNotice : Notice := .state (stateReport none off)
/-- A spill notice. -/
def spillNotice : Notice := .spill ⟨admitted 69, 5, 0⟩ .flushed
/-- An admission notice. -/
def admissionNotice : Notice := .admission (.setFull 1 1 0 [])
/-- The queue of section 10.12. -/
def fullQueue : State := link (fun l => { l with
  transmitter := .reply, reply := some ⟨0x8C, .ok, .empty⟩,
  notices := List.replicate 10 spillNotice ++ List.replicate 4 admissionNotice ++ List.replicate 2 stateNotice }) off
/-- The three notices that arrive first. -/
def afterThree : State :=
  enqueue (.fault (.jamTransfer .rewash none)) (enqueue (.shortDose 1 1 0 0 0) (enqueue (.fault (.missingRack 1 .rewash)) fullQueue))

theorem test_full_queue_by_priority :
    afterThree.link.notices.map Notice.priority = [3, 3, 4] ++ List.replicate 10 5 ++ List.replicate 3 6 ∧
    afterThree.link.discarded = 3 := by decide +kernel
theorem test_full_queue_keeps_its_own :
    (enqueue (.returnHold 1 .cup 8 0) (enqueue admissionNotice afterThree)).link.notices = afterThree.link.notices ∧
    (enqueue (.returnHold 1 .cup 8 0) (enqueue admissionNotice afterThree)).link.discarded = 5 := by decide +kernel

/-! ### The statements of the queue and the link: states and operands that meet their hypotheses -/

theorem witness_EmptyQueueLetsTheClockRun :
    off.pending = [] ∧
    runOut off = [] :=
  ⟨by decide, by decide⟩
theorem witness_EmptyQueueLetsTheClockRun_expiry :
    (track (fun t => { t with stepTimer := .running 0 }) off).pending = [] ∧
    runOut (track (fun t => { t with stepTimer := .running 0 }) off) ≠ [] :=
  ⟨by decide, by decide⟩
theorem witness_RequestPayloadsRoundTrip :
    (Request.loadStack 255 18 (List.replicate 18 ⟨0xFFFF, 255⟩)).wellFormed = true ∧
    (Request.setSanitation 0 0xFFFF 0 0xFFFF 0xFFFF 255 (Vector.replicate 16 0xFFFF)).wellFormed = true :=
  ⟨by decide, by decide⟩
theorem witness_ReadPayloadsAreTheirRequests :
    (decodeRequest 0x31 []).wellFormed = true ∧
    (decodeRequest 0x28 [0xFF, 0x00]).wellFormed = true :=
  ⟨by decide, by decide⟩
theorem witness_FrameBytesMakeTheirRequest :
    (List.replicate 58 (0x5A : Byte)).length ≤ Config.framePayload ∧
    off.linkWorks = true ∧
    off.link.assembly = [] ∧
    LinkSound off ∧
    (off.phase = .running → Settled off) :=
  ⟨by decide, by decide, by decide, by unfold LinkSound; decide, by unfold Settled NothingDue; decide⟩
/-- The link with these bytes in assembly and the gap timer running. -/
def assembling (bytes : List Byte) : State := link (fun l => { l with assembly := bytes, gap := .running 1 }) off
/-- The gap timer runs with no frame in assembly. -/
def gapOnly : State := assembling []
theorem witness_DroppedFramesAreCounted_gap :
    State.linkWorks (assembling [0x5A, 0x31]) = true ∧
    LinkSound (assembling [0x5A, 0x31]) ∧
    (State.phase (assembling [0x5A, 0x31]) = .running → Settled (assembling [0x5A, 0x31])) ∧
    (assembling [0x5A, 0x31]).link.gap = .running 1 ∧
    (assembling [0x5A, 0x31]).link.assembly ≠ [] :=
  ⟨by decide, by unfold LinkSound; decide, by unfold Settled NothingDue; decide, by decide, by decide⟩
theorem witness_DroppedFramesAreCounted_empty :
    State.linkWorks gapOnly = true ∧
    LinkSound gapOnly ∧
    (State.phase gapOnly = .running → Settled gapOnly) ∧
    gapOnly.link.gap = .running 1 ∧
    gapOnly.link.assembly = [] :=
  ⟨by decide, by unfold LinkSound; decide, by unfold Settled NothingDue; decide, by decide, by decide⟩
theorem witness_DroppedFramesAreCounted_length :
    State.linkWorks (assembling [0x5A, 0x31]) = true ∧
    LinkSound (assembling [0x5A, 0x31]) ∧
    (State.phase (assembling [0x5A, 0x31]) = .running → Settled (assembling [0x5A, 0x31])) ∧
    (assembling [0x5A, 0x31]).link.assembly = [0x5A, 0x31] ∧
    58 < (59 : Byte).toNat ∧
    58 < (0x5A : Byte).toNat :=
  ⟨by decide, by unfold LinkSound; decide, by unfold Settled NothingDue; decide, by decide, by decide, by decide⟩
theorem witness_DroppedFramesAreCounted_crc :
    State.linkWorks (assembling [0x5A, 0x01, 0x00, 0x2E]) = true ∧
    LinkSound (assembling [0x5A, 0x01, 0x00, 0x2E]) ∧
    (State.phase (assembling [0x5A, 0x01, 0x00, 0x2E]) = .running → Settled (assembling [0x5A, 0x01, 0x00, 0x2E])) ∧
    (assembling [0x5A, 0x01, 0x00, 0x2E]).link.assembly = 0x5A :: 0x01 :: BitVec.ofNat 8 ([] : List Byte).length :: [] ++ [0x2E] ∧
    ([] : List Byte).length ≤ Config.framePayload ∧
    halfOf 0x2E 0x3F ≠ crc16 (0x01 :: BitVec.ofNat 8 ([] : List Byte).length :: []) ∧
    0x5A#8 ∉ 0x01 :: BitVec.ofNat 8 ([] : List Byte).length :: [] ++ [0x2E, 0x3F] :=
  ⟨by decide, by unfold LinkSound; decide, by unfold Settled NothingDue; decide, by decide, by decide,
    by decide +kernel, by decide⟩
theorem witness_DroppedFramesAreCounted_lead :
    State.linkWorks (assembling [0x5A, 0x01, 0x02, 0x5A, 0x07, 0x00]) = true ∧
    LinkSound (assembling [0x5A, 0x01, 0x02, 0x5A, 0x07, 0x00]) ∧
    (State.phase (assembling [0x5A, 0x01, 0x02, 0x5A, 0x07, 0x00]) = .running → Settled (assembling [0x5A, 0x01, 0x02, 0x5A, 0x07, 0x00])) ∧
    (assembling [0x5A, 0x01, 0x02, 0x5A, 0x07, 0x00]).link.assembly = 0x5A :: 0x01 :: BitVec.ofNat 8 ([0x5A, 0x07] : List Byte).length :: [0x5A, 0x07] ++ [0x00] ∧
    halfOf 0x00 0x00 ≠ crc16 (0x01 :: BitVec.ofNat 8 ([0x5A, 0x07] : List Byte).length :: [0x5A, 0x07]) ∧
    (0x01 :: BitVec.ofNat 8 ([0x5A, 0x07] : List Byte).length :: [0x5A, 0x07] ++ [0x00, 0x00] : List Byte) = [0x01, 0x02] ++ 0x5A :: [0x07, 0x00, 0x00] ∧
    0x5A#8 ∉ ([0x01, 0x02] : List Byte) ∧
    ([0x07, 0x00, 0x00] : List Byte)[1]? = some 0x00 ∧
    (0x00 : Byte).toNat ≤ 58 ∧
    ([0x07, 0x00, 0x00] : List Byte).length < (0x00 : Byte).toNat + 4 :=
  ⟨by decide, by unfold LinkSound; decide, by unfold Settled NothingDue; decide, by decide, by decide +kernel,
    by decide, by decide, by decide, by decide, by decide⟩
theorem witness_DroppedFramesAreCounted_frame :
    State.linkWorks (assembling [0x5A, 0x01, 0x03, 0x5A, 0x01, 0x00, 0x2E]) = true ∧
    LinkSound (assembling [0x5A, 0x01, 0x03, 0x5A, 0x01, 0x00, 0x2E]) ∧
    (State.phase (assembling [0x5A, 0x01, 0x03, 0x5A, 0x01, 0x00, 0x2E]) = .running → Settled (assembling [0x5A, 0x01, 0x03, 0x5A, 0x01, 0x00, 0x2E])) ∧
    (assembling [0x5A, 0x01, 0x03, 0x5A, 0x01, 0x00, 0x2E]).link.assembly = 0x5A :: 0x01 :: BitVec.ofNat 8 ([0x5A, 0x01, 0x00] : List Byte).length :: [0x5A, 0x01, 0x00] ++ [0x2E] ∧
    halfOf 0x2E 0x3E ≠ crc16 (0x01 :: BitVec.ofNat 8 ([0x5A, 0x01, 0x00] : List Byte).length :: [0x5A, 0x01, 0x00]) ∧
    (0x01 :: BitVec.ofNat 8 ([0x5A, 0x01, 0x00] : List Byte).length :: [0x5A, 0x01, 0x00] ++ [0x2E, 0x3E] : List Byte) = [0x01, 0x03] ++ frame 0x01 [] :=
  ⟨by decide, by unfold LinkSound; decide, by unfold Settled NothingDue; decide, by decide, by decide +kernel,
    by decide +kernel⟩
/-- A frame whose stored bytes hold a frame whose check fails too: after its bytes both are dropped (R180). -/
theorem witness_DroppedFramesAreCounted_twice :
    State.linkWorks (assembling [0x5A, 0x5A, 0x01, 0x00, 0x00]) = true ∧
    LinkSound (assembling [0x5A, 0x5A, 0x01, 0x00, 0x00]) ∧
    (State.phase (assembling [0x5A, 0x5A, 0x01, 0x00, 0x00]) = .running → Settled (assembling [0x5A, 0x5A, 0x01, 0x00, 0x00])) ∧
    (State.link (assembling [0x5A, 0x5A, 0x01, 0x00, 0x00])).assembly = 0x5A :: 0x5A :: BitVec.ofNat 8 ([0x00] : List Byte).length :: [0x00] ++ [0x00] ∧
    halfOf 0x00 0x00 ≠ crc16 (0x5A :: BitVec.ofNat 8 ([0x00] : List Byte).length :: [0x00]) ∧
    after (feedBytes plantAtRest [0x5A, 0x01, 0x00, 0x00, 0x00] (link (fun l => { l with
        gap := .preset Config.gapTime, assembly := [], crcErrors := 1 }) (assembling [0x5A, 0x5A, 0x01, 0x00, 0x00])))
      (fun u => (u.link.reply, u.link.buffer, u.link.overflows, u.link.assembly, u.link.crcErrors)) =
        some (none, [], 0, [], 2) ∧
    after (exec (.supervisoryByteReceived 0x00 true plantAtRest) (assembling [0x5A, 0x5A, 0x01, 0x00, 0x00])) (fun u => (u.link.assembly, u.link.crcErrors)) =
      some ([], 2) :=
  ⟨by decide, by unfold LinkSound; decide, by unfold Settled NothingDue; decide, by decide, by decide +kernel,
    by decide +kernel, by decide +kernel⟩
/-- A sound frame behind two bytes that start none, with one byte after it, in a frame whose check fails (R180). -/
def framed : State := assembling [0x5A, 0x01, 0x04, 0x5A, 0x01, 0x00, 0x2E, 0x3E]
theorem witness_DroppedFramesAreCounted_behind :
    State.linkWorks framed = true ∧
    LinkSound framed ∧
    (State.phase framed = .running → Settled framed) ∧
    framed.link.assembly = 0x5A :: 0x01 :: BitVec.ofNat 8 ([0x5A, 0x01, 0x00, 0x2E] : List Byte).length :: [0x5A, 0x01, 0x00, 0x2E] ++ [0x3E] ∧
    halfOf 0x3E 0x00 ≠ crc16 (0x01 :: BitVec.ofNat 8 ([0x5A, 0x01, 0x00, 0x2E] : List Byte).length :: [0x5A, 0x01, 0x00, 0x2E]) ∧
    (0x01 :: 0x04 :: [0x5A, 0x01, 0x00, 0x2E] ++ [0x3E, 0x00] : List Byte) = [0x01, 0x04] ++ (frame 0x01 [] ++ [0x00]) ∧
    after (feedBytes plantAtRest [0x01, 0x04] (link (fun l => { l with
        gap := .preset Config.gapTime, assembly := [], crcErrors := 1 }) framed))
      (fun u => (u.link.reply, u.link.buffer, u.link.overflows, u.link.assembly)) = some (none, [], 0, []) ∧
    after (exec (.supervisoryByteReceived 0x00 true plantAtRest) framed) (fun u => (u.link.reply.map (·.kind), u.link.crcErrors)) =
      some (some 0x81, 1) :=
  ⟨by decide, by unfold LinkSound; decide, by unfold Settled NothingDue; decide, by decide, by decide +kernel,
    by decide +kernel, by decide +kernel, by decide +kernel⟩
/-- A reply is being sent while these requests wait. -/
def replying (q : List Request) : State :=
  link (fun l => { l with transmitter := .reply, reply := some ⟨0x8C, .ok, .empty⟩, buffer := q.map (⟨·, false⟩) }) off
/-- The settling stage. -/
def settling : State := { State.reset with phase := .settling, settle := .running 5 }
/-- One request waits that was received during start-up. -/
def overtaken : State := link (fun l => { l with buffer := [⟨.restart 0, true⟩] }) (replying [])
/-- Held in reset, and without supply. -/
def heldPart : State := { State.reset with phase := .held, coldLine := true }
def unsupplied : State := { State.reset with phase := .noSupply }
/-- The payload lengths of the kinds of Table 41, for a payload. -/
def payloadSizes (q : List Byte) : List (Nat × Nat) :=
  [(0x01, 0), (0x02, 0), (0x03, 2), (0x04, 1), (0x08, 0), (0x09, 0), (0x0A, 0), (0x0B, 0), (0x0C, 0), (0x0D, 0),
    (0x10, 8), (0x11, 1), (0x12, 5), (0x13, 0), (0x14, 43), (0x15, 0), (0x16, 0), (0x18, 1), (0x19, 3),
    (0x1A, 2 + 3 * (q.getD 1 0).toNat), (0x1B, 1), (0x1C, 0), (0x1D, 2), (0x20, 0), (0x21, 1), (0x28, 2), (0x29, 8),
    (0x2A, 2), (0x2B, 0), (0x30, 0), (0x31, 0)]
theorem witness_EmptyQueueLetsTheClockRun_phases :
    off.phase = .running ∧
    settling.phase = .settling ∧
    State.reset.phase = .profileRead ∧
    heldPart.phase = .held ∧
    unsupplied.phase = .noSupply := by
  and_intros <;> decide
theorem witness_RequestsWaitOrAreTurnedAway_waits :
    requestOf .releaseInterlocks = some .releaseInterlocks ∧
    State.linkWorks (replying [.getTrack]) = true ∧
    (replying [.getTrack]).link.reply ≠ none ∧
    LinkSound (replying [.getTrack]) ∧
    (State.phase (replying [.getTrack]) = .running → Settled (replying [.getTrack])) ∧
    (replying [.getTrack]).link.buffer.length < Config.requestPlaces :=
  ⟨by decide, by decide, by decide, by unfold LinkSound; decide, by unfold Settled NothingDue; decide, by decide⟩
theorem witness_RequestsWaitOrAreTurnedAway_overflow :
    requestOf .releaseInterlocks = some .releaseInterlocks ∧
    State.linkWorks (replying [.getTrack, .linkStatus]) = true ∧
    (replying [.getTrack, .linkStatus]).link.reply ≠ none ∧
    LinkSound (replying [.getTrack, .linkStatus]) ∧
    (State.phase (replying [.getTrack, .linkStatus]) = .running → Settled (replying [.getTrack, .linkStatus])) ∧
    (replying [.getTrack, .linkStatus]).link.buffer.length = Config.requestPlaces :=
  ⟨by decide, by decide, by decide, by unfold LinkSound; decide, by unfold Settled NothingDue; decide, by decide⟩
theorem witness_RequestsWaitOrAreTurnedAway_starting :
    requestOf .identify = some .identify ∧
    LinkSound State.reset ∧
    State.reset.phase = .profileRead ∧
    State.reset.link.reply = none ∧
    LinkSound settling ∧
    settling.phase = .settling ∧
    settling.link.reply = none :=
  ⟨by decide, by unfold LinkSound; decide, by decide, by decide, by unfold LinkSound; decide, by decide, by decide⟩
theorem witness_RequestsWaitOrAreTurnedAway_deaf :
    requestOf (.run allMade) = some .run ∧
    LinkSound heldPart ∧
    heldPart.phase = .held ∧
    LinkSound unsupplied ∧
    unsupplied.phase = .noSupply :=
  ⟨by decide, by unfold LinkSound; decide, by decide, by unfold LinkSound; decide, by decide⟩
theorem witness_RefusedRequestsChangeNothing :
    requestOf (.setNotify 0x0200) = some (.setNotify 0x0200) ∧
    Listening ready ∧
    Settled ready ∧
    (executeRequest (.setNotify 0x0200) (withReadings (.setNotify 0x0200) ready)).2.1 ≠ .ok ∧
    (executeRequest (.setNotify 0x0200) (withReadings (.setNotify 0x0200) ready)).2.1 ≠ .clamped :=
  ⟨by decide, by unfold Listening; decide, by unfold Settled NothingDue; decide, by decide, by decide⟩
theorem witness_RefusedRequestsChangeNothing_frames :
    Listening ready ∧
    Settled ready ∧
    LinkSound ready ∧
    ready.link.assembly = [] ∧
    ([] : List Byte).length ≤ Config.framePayload ∧
    (∀ n, ((0x07 : Byte).toNat, n) ∉ payloadSizes []) ∧
    (∀ n, ((0xFF : Byte).toNat, n) ∉ payloadSizes []) ∧
    ((0x1A : Byte).toNat, 8) ∈ payloadSizes [1, 2] ∧
    ([1, 2] : List Byte).length ≠ 8 :=
  ⟨by unfold Listening; decide, by unfold Settled NothingDue; decide, by unfold LinkSound; decide, by decide,
    by decide, by intro n; simp [payloadSizes], by intro n; simp [payloadSizes], by decide, by decide⟩
/-- A notice is being sent, with this reply and these notices waiting. -/
def sending (r : Option Reply) (q : List Notice) : State :=
  link (fun l => { l with transmitter := .notice stateNotice, reply := r, notices := q }) off
theorem witness_SentMessagesLeaveTheLink_quiet :
    State.linkWorks (sending none []) = true ∧
    LinkSound (sending none []) ∧
    (State.phase (sending none []) = .running → Settled (sending none [])) ∧
    (sending none []).link.transmitter = .notice stateNotice ∧
    (sending none []).link.reply = none ∧
    (sending none []).link.notices = [] :=
  ⟨by decide, by unfold LinkSound; decide, by unfold Settled NothingDue; decide, by decide, by decide, by decide⟩
theorem witness_SentMessagesLeaveTheLink_next :
    State.linkWorks (sending none [spillNotice, stateNotice]) = true ∧
    LinkSound (sending none [spillNotice, stateNotice]) ∧
    (State.phase (sending none [spillNotice, stateNotice]) = .running → Settled (sending none [spillNotice, stateNotice])) ∧
    (sending none [spillNotice, stateNotice]).link.transmitter = .notice stateNotice ∧
    (sending none [spillNotice, stateNotice]).link.reply = none ∧
    (sending none [spillNotice, stateNotice]).link.notices = spillNotice :: [stateNotice] :=
  ⟨by decide, by unfold LinkSound; decide, by unfold Settled NothingDue; decide, by decide, by decide, by decide⟩
theorem witness_SentMessagesLeaveTheLink_reply :
    State.linkWorks (sending (some ⟨0x8C, .ok, .empty⟩) [spillNotice]) = true ∧
    LinkSound (sending (some ⟨0x8C, .ok, .empty⟩) [spillNotice]) ∧
    (State.phase (sending (some ⟨0x8C, .ok, .empty⟩) [spillNotice]) = .running → Settled (sending (some ⟨0x8C, .ok, .empty⟩) [spillNotice])) ∧
    (sending (some ⟨0x8C, .ok, .empty⟩) [spillNotice]).link.transmitter = .notice stateNotice ∧
    (sending (some ⟨0x8C, .ok, .empty⟩) [spillNotice]).link.reply = some ⟨0x8C, .ok, .empty⟩ :=
  ⟨by decide, by unfold LinkSound; decide, by unfold Settled NothingDue; decide, by decide, by decide⟩
theorem witness_SentMessagesLeaveTheLink_replied :
    State.linkWorks (replying []) = true ∧
    LinkSound (replying []) ∧
    (State.phase (replying []) = .running → Settled (replying [])) ∧
    (replying []).link.transmitter = .reply ∧
    (replying []).link.reply = some ⟨0x8C, .ok, .empty⟩ ∧
    Reply.restartKind ⟨0x8C, .ok, .empty⟩ = none ∧
    (replying []).link.buffer = [] ∧
    (replying []).link.notices = [] :=
  ⟨by decide, by unfold LinkSound; decide, by unfold Settled NothingDue; decide, by decide, by decide, by decide,
    by decide, by decide⟩
theorem witness_SentMessagesLeaveTheLink_notice :
    State.linkWorks (link (fun l => { l with notices := [stateNotice] }) (replying [])) = true ∧
    LinkSound (link (fun l => { l with notices := [stateNotice] }) (replying [])) ∧
    (State.phase (link (fun l => { l with notices := [stateNotice] }) (replying [])) = .running → Settled (link (fun l => { l with notices := [stateNotice] }) (replying []))) ∧
    (link (fun l => { l with notices := [stateNotice] }) (replying [])).link.transmitter = .reply ∧
    (link (fun l => { l with notices := [stateNotice] }) (replying [])).link.reply = some ⟨0x8C, .ok, .empty⟩ ∧
    Reply.restartKind ⟨0x8C, .ok, .empty⟩ = none ∧
    (link (fun l => { l with notices := [stateNotice] }) (replying [])).link.buffer = [] ∧
    (link (fun l => { l with notices := [stateNotice] }) (replying [])).link.notices = stateNotice :: [] :=
  ⟨by decide, by unfold LinkSound; decide, by unfold Settled NothingDue; decide, by decide, by decide, by decide,
    by decide, by decide⟩
theorem witness_SentMessagesLeaveTheLink_request :
    State.linkWorks (replying [.getTrack, .halt]) = true ∧
    LinkSound (replying [.getTrack, .halt]) ∧
    (State.phase (replying [.getTrack, .halt]) = .running → Settled (replying [.getTrack, .halt])) ∧
    (replying [.getTrack, .halt]).link.transmitter = .reply ∧
    (replying [.getTrack, .halt]).link.reply = some ⟨0x8C, .ok, .empty⟩ ∧
    Reply.restartKind ⟨0x8C, .ok, .empty⟩ = none ∧
    (replying [.getTrack, .halt]).link.buffer = ⟨.getTrack, false⟩ :: [⟨.halt, false⟩] :=
  ⟨by decide, by unfold LinkSound; decide, by unfold Settled NothingDue; decide, by decide, by decide, by decide,
    by decide⟩
theorem witness_SentMessagesLeaveTheLink_starting :
    State.linkWorks overtaken = true ∧
    LinkSound overtaken ∧
    (State.phase overtaken = .running → Settled overtaken) ∧
    overtaken.link.transmitter = .reply ∧
    overtaken.link.reply = some ⟨0x8C, .ok, .empty⟩ ∧
    Reply.restartKind ⟨0x8C, .ok, .empty⟩ = none ∧
    overtaken.link.buffer = ⟨.restart 0, true⟩ :: [] ∧
    (⟨.restart 0, true⟩ : Waiting).starting = true :=
  ⟨by decide, by unfold LinkSound; decide, by unfold Settled NothingDue; decide, by decide, by decide, by decide,
    by decide, by decide⟩
/-- The queue of section 10.12 with all but RACK_RETIRED and START_UP, SPILL masked. -/
def masked : State := link (fun l => { l with mask := 0x0061 }) fullQueue
theorem witness_NoticesTakeTheirPlace_masked :
    masked.link.notices.length ≤ 16 ∧
    masked.link.notices.Pairwise (fun a b => a.priority ≤ b.priority) ∧
    stateNotice.enabled masked.link.mask = false :=
  ⟨by decide, by decide, by decide⟩
theorem witness_NoticesTakeTheirPlace_room :
    (link (fun l => { l with notices := l.notices.tail }) fullQueue).link.notices.length ≤ 16 ∧
    (link (fun l => { l with notices := l.notices.tail }) fullQueue).link.notices.Pairwise (fun a b => a.priority ≤ b.priority) ∧
    admissionNotice.enabled (link (fun l => { l with notices := l.notices.tail }) fullQueue).link.mask = true ∧
    (link (fun l => { l with notices := l.notices.tail }) fullQueue).link.notices.length < 16 ∧
    (link (fun l => { l with notices := l.notices.tail }) fullQueue).link.notices.length = 15 := by
  and_intros <;> decide
theorem witness_NoticesTakeTheirPlace_larger :
    fullQueue.link.notices.length ≤ 16 ∧
    fullQueue.link.notices.Pairwise (fun a b => a.priority ≤ b.priority) ∧
    admissionNotice.enabled fullQueue.link.mask = true ∧
    fullQueue.link.notices.length = 16 ∧
    (∃ m ∈ fullQueue.link.notices, admissionNotice.priority < m.priority) := by
  and_intros <;> decide
theorem witness_NoticesTakeTheirPlace_lost :
    fullQueue.link.notices.length ≤ 16 ∧
    fullQueue.link.notices.Pairwise (fun a b => a.priority ≤ b.priority) ∧
    stateNotice.enabled fullQueue.link.mask = true ∧
    fullQueue.link.notices.length = 16 ∧
    (∀ m ∈ fullQueue.link.notices, m.priority ≤ stateNotice.priority) := by
  and_intros <;> decide
theorem witness_LinkAndReadRequestsAnswer :
    Listening ready ∧
    Settled ready ∧
    (0x0200#16 : Half) &&& 0xFE00#16 ≠ 0 ∧
    (0x01FF#16 : Half) &&& 0xFE00#16 = 0 ∧
    1 < (2 : Byte).toNat ∧
    ready.profile.values.tableLimit < (8 : Byte).toNat ∧
    (7 : Byte) ≠ 0 ∧
    (7 : Byte).toNat ≤ ready.profile.values.tableLimit ∧
    ready.profile.values.stations < (5 : Byte).toNat ∧
    (4 : Byte).toNat = (3 : Quad).val + 1 ∧
    (4 : Byte).toNat ≤ ready.profile.values.stations :=
  ⟨by unfold Listening; decide, by unfold Settled NothingDue; decide, by decide, by decide, by decide, by decide,
    by decide, by decide, by decide, by decide, by decide⟩
theorem witness_LinkSoundIsKept :
    LinkSound fullQueue ∧
    (∃ t, step { fullQueue with pending := [.halt] } = .next t) := by
  unfold LinkSound; exact ⟨by decide, _, rfl⟩

/-! ### The wash track and the interlocks -/

/-- A chain is open; the track in FAULT, in PURGING; settings awaited. -/
def doorOpen : State := lock (fun i => { i with live := { i.live with door := true } }) off
def estopOpen : State := lock (fun i => { i with live := { i.live with estop := true } }) off
def jammed : State := track (fun t => { t with state := .fault, fault := some .jamMotion, motion := .interrupted }) off
def purging : State :=
  track (fun t => { t with state := .purging, motion := .inFlight, chainDrive := true, motionTimer := .running 9, purgeCount := 18 }) off
def awaiting : State := { off with programmes := { off.programmes with required := true } }
/-- The track in another state, or stopped with an interrupted motion or a pending recovery. -/
def stateIs (x : TrackState) : State := track (fun t => { t with state := x, stepDue := false }) off
def interrupted (x : TrackState) : State := track (fun t => { t with motion := .interrupted }) (stateIs x)
def recovering : State := track (fun t => { t with recoveryPending := true }) (stateIs .stopped)
theorem witness_RunIsRefusedOrMovesTheTrack_refused :
    Listening doorOpen ∧
    Settled doorOpen ∧
    doorOpen.interlock.live.door = true ∧
    Listening estopOpen ∧
    Settled estopOpen ∧
    estopOpen.interlock.live.estop = true ∧
    Listening jammed ∧
    Settled jammed ∧
    jammed.track.state = .fault :=
  ⟨by unfold Listening; decide, by unfold Settled NothingDue; decide, by decide, by unfold Listening; decide,
    by unfold Settled NothingDue; decide, by decide, by unfold Listening; decide,
    by unfold Settled NothingDue; decide, by decide⟩
theorem witness_RunIsRefusedOrMovesTheTrack_busy :
    Listening purging ∧
    Settled purging ∧
    purging.track.state = .purging ∧
    Listening awaiting ∧
    Settled awaiting ∧
    awaiting.programmes.required = true :=
  ⟨by unfold Listening; decide, by unfold Settled NothingDue; decide, by decide, by unfold Listening; decide,
    by unfold Settled NothingDue; decide, by decide⟩
theorem witness_RunIsRefusedOrMovesTheTrack_ready :
    Listening (stateIs .ready) ∧
    (stateIs .ready).interlock.live.estop = false ∧
    (stateIs .ready).interlock.live.door = false ∧
    (stateIs .ready).programmes.required = false ∧
    (stateIs .ready).merge.state ≠ .interrupted ∧
    (stateIs .ready).track.state = .ready :=
  ⟨by unfold Listening; decide, by decide, by decide, by decide, by decide, by decide⟩
theorem witness_RunIsRefusedOrMovesTheTrack_hold :
    Listening (stateIs .hold) ∧
    (stateIs .hold).interlock.live.estop = false ∧
    (stateIs .hold).interlock.live.door = false ∧
    (stateIs .hold).programmes.required = false ∧
    (stateIs .hold).merge.state ≠ .interrupted ∧
    (stateIs .hold).track.state = .hold :=
  ⟨by unfold Listening; decide, by decide, by decide, by decide, by decide, by decide⟩
theorem witness_RunIsRefusedOrMovesTheTrack_stepping :
    Listening (stateIs .stepping) ∧
    (stateIs .stepping).interlock.live.estop = false ∧
    (stateIs .stepping).interlock.live.door = false ∧
    (stateIs .stepping).programmes.required = false ∧
    (stateIs .stepping).merge.state ≠ .interrupted ∧
    (stateIs .stepping).track.state = .stepping :=
  ⟨by unfold Listening; decide, by decide, by decide, by decide, by decide, by decide⟩
theorem witness_RunIsRefusedOrMovesTheTrack_recovery :
    Listening (stateIs .recovery) ∧
    (stateIs .recovery).interlock.live.estop = false ∧
    (stateIs .recovery).interlock.live.door = false ∧
    (stateIs .recovery).programmes.required = false ∧
    (stateIs .recovery).merge.state ≠ .interrupted ∧
    (stateIs .recovery).track.state = .recovery :=
  ⟨by unfold Listening; decide, by decide, by decide, by decide, by decide, by decide⟩
theorem witness_RunIsRefusedOrMovesTheTrack_off :
    Listening (stateIs .off) ∧
    (stateIs .off).interlock.live.estop = false ∧
    (stateIs .off).interlock.live.door = false ∧
    (stateIs .off).programmes.required = false ∧
    (stateIs .off).merge.state ≠ .interrupted ∧
    (stateIs .off).track.motion ≠ .interrupted ∧
    (stateIs .off).track.state = .off ∧
    (stateIs .off).track.recoveryPending = false :=
  ⟨by unfold Listening; decide, by decide, by decide, by decide, by decide, by decide, by decide, by decide⟩
theorem witness_RunIsRefusedOrMovesTheTrack_off_interrupted :
    Listening (interrupted .off) ∧
    (interrupted .off).interlock.live.estop = false ∧
    (interrupted .off).interlock.live.door = false ∧
    (interrupted .off).programmes.required = false ∧
    (interrupted .off).merge.state ≠ .interrupted ∧
    (interrupted .off).track.motion = .interrupted ∧
    (interrupted .off).track.state = .off ∧
    plantAtRest.index = false ∧
    allMade.index = true :=
  ⟨by unfold Listening; decide, by decide, by decide, by decide, by decide, by decide, by decide, by decide,
    by decide⟩
theorem witness_RunIsRefusedOrMovesTheTrack_stopped :
    Listening (stateIs .stopped) ∧
    (stateIs .stopped).interlock.live.estop = false ∧
    (stateIs .stopped).interlock.live.door = false ∧
    (stateIs .stopped).programmes.required = false ∧
    (stateIs .stopped).merge.state ≠ .interrupted ∧
    (stateIs .stopped).track.motion ≠ .interrupted ∧
    (stateIs .stopped).track.state = .stopped ∧
    (stateIs .stopped).track.recoveryPending = false :=
  ⟨by unfold Listening; decide, by decide, by decide, by decide, by decide, by decide, by decide, by decide⟩
theorem witness_RunIsRefusedOrMovesTheTrack_stopped_interrupted :
    Listening (interrupted .stopped) ∧
    (interrupted .stopped).interlock.live.estop = false ∧
    (interrupted .stopped).interlock.live.door = false ∧
    (interrupted .stopped).programmes.required = false ∧
    (interrupted .stopped).merge.state ≠ .interrupted ∧
    (interrupted .stopped).track.motion = .interrupted ∧
    (interrupted .stopped).track.state = .stopped ∧
    plantAtRest.index = false ∧
    allMade.index = true :=
  ⟨by unfold Listening; decide, by decide, by decide, by decide, by decide, by decide, by decide, by decide,
    by decide⟩
theorem witness_RunIsRefusedOrMovesTheTrack_pending :
    Listening recovering ∧
    recovering.interlock.live.estop = false ∧
    recovering.interlock.live.door = false ∧
    recovering.programmes.required = false ∧
    recovering.merge.state ≠ .interrupted ∧
    recovering.track.motion ≠ .interrupted ∧
    recovering.track.state = .stopped ∧
    recovering.track.recoveryPending = true :=
  ⟨by unfold Listening; decide, by decide, by decide, by decide, by decide, by decide, by decide, by decide⟩
theorem witness_RunIsRefusedOrMovesTheTrack_standby :
    Listening (stateIs .standby) ∧
    (stateIs .standby).interlock.live.estop = false ∧
    (stateIs .standby).interlock.live.door = false ∧
    (stateIs .standby).programmes.required = false ∧
    (stateIs .standby).merge.state ≠ .interrupted ∧
    (stateIs .standby).track.state = .standby :=
  ⟨by unfold Listening; decide, by decide, by decide, by decide, by decide, by decide⟩
theorem witness_HaltStandbyAndPurgeMoveTheTrack_fault :
    Listening jammed ∧
    Settled jammed ∧
    jammed.track.state = .fault :=
  ⟨by unfold Listening; decide, by unfold Settled NothingDue; decide, by decide⟩
theorem witness_HaltStandbyAndPurgeMoveTheTrack_off :
    Listening (stateIs .off) ∧
    (stateIs .off).track.state = .off :=
  ⟨by unfold Listening; decide, by decide⟩
theorem witness_HaltStandbyAndPurgeMoveTheTrack_stepping :
    Listening (stateIs .stepping) ∧
    (stateIs .stepping).track.state = .stepping :=
  ⟨by unfold Listening; decide, by decide⟩
theorem witness_HaltStandbyAndPurgeMoveTheTrack_ready :
    Listening (stateIs .ready) ∧
    (stateIs .ready).track.state = .ready :=
  ⟨by unfold Listening; decide, by decide⟩
theorem witness_HaltStandbyAndPurgeMoveTheTrack_hold :
    Listening (stateIs .hold) ∧
    (stateIs .hold).track.state = .hold :=
  ⟨by unfold Listening; decide, by decide⟩
theorem witness_HaltStandbyAndPurgeMoveTheTrack_stopped :
    Listening (stateIs .stopped) ∧
    (stateIs .stopped).track.state = .stopped :=
  ⟨by unfold Listening; decide, by decide⟩
theorem witness_HaltStandbyAndPurgeMoveTheTrack_standby :
    Listening (stateIs .standby) ∧
    (stateIs .standby).track.state = .standby :=
  ⟨by unfold Listening; decide, by decide⟩
theorem witness_HaltStandbyAndPurgeMoveTheTrack_recovery :
    Listening (stateIs .recovery) ∧
    (stateIs .recovery).track.state = .recovery :=
  ⟨by unfold Listening; decide, by decide⟩
theorem witness_HaltStandbyAndPurgeMoveTheTrack_purging :
    Listening (stateIs .purging) ∧
    (stateIs .purging).track.state = .purging ∧
    (stateIs .purging).track.motion = .none ∧
    Listening purging ∧
    purging.track.state = .purging ∧
    purging.track.motion ≠ .none :=
  ⟨by unfold Listening; decide, by decide, by decide, by unfold Listening; decide, by decide, by decide⟩
theorem witness_HaltStandbyAndPurgeMoveTheTrack_idle :
    Listening ready ∧
    ready.track.state = .ready ∧
    ready.track.records = 0 ∧
    ready.ret.lane = [] ∧
    (∀ n, (ready.stations.get n).spur = []) ∧
    ready.merge.state = .idle :=
  ⟨by unfold Listening; decide, by decide, by decide, by decide, by decide, by decide⟩
theorem witness_HaltStandbyAndPurgeMoveTheTrack_still :
    Listening off ∧
    off.track.state = .off ∧
    off.track.motion = .none ∧
    off.merge.state = .idle ∧
    off.interlock.live.estop = false ∧
    off.interlock.live.door = false ∧
    (¬ (off.track.state = .ready ∧ off.track.records = 0 ∧ off.ret.lane = [] ∧ (∀ n, (off.stations.get n).spur = []) ∧ off.merge.state = .idle)) ∧
    Settled off :=
  ⟨by unfold Listening; decide, by decide, by decide, by decide, by decide, by decide, by decide,
    by unfold Settled NothingDue; decide⟩
theorem witness_HaltStandbyAndPurgeMoveTheTrack_notStill :
    Listening doorOpen ∧
    (¬ (doorOpen.track.state = .off ∧ doorOpen.track.motion = .none ∧ doorOpen.merge.state = .idle ∧ doorOpen.interlock.live.estop = false ∧ doorOpen.interlock.live.door = false)) ∧
    Settled doorOpen :=
  ⟨by unfold Listening; decide, by decide, by unfold Settled NothingDue; decide⟩
/-- A due step with its conditions met: in READY, in HOLD, in PURGING. -/
def dueReady : State :=
  track (fun t => { t with positions := (t.positions.set 12 (some (rack 5 2400 .none))).set 16 (some (rack 6 2400 .sanitised)) }) ready
def dueHold : State :=
  track (fun t => { t with state := .hold, extension := .expired, positions := t.positions.set 12 (some (rack 5 2399 .none)) }) ready
def duePurge : State := track (fun t => { t with state := .purging, purgeCount := 18, stepDue := true }) off
theorem witness_DueStepsStart_ready :
    dueReady.phase = .running ∧
    dueReady.interlock.live.estop = false ∧
    dueReady.interlock.live.door = false ∧
    routeFound dueReady = true ∧
    dueReady.track.state = .ready ∧
    dueReady.track.stepDue = true ∧
    dueReady.track.records ≠ 0 ∧
    dueReady.merge.state = .idle ∧
    dueReady.interlock.live.tank = false ∧
    (∀ r, dueReady.track.positions[12] = some r → r.required ≤ r.dose ∨ dueReady.track.extension = .expired ∨ (dueReady.track.extension = .idle ∧ (r.programme.map (·.limit)).getD 0 = 0)) := by
  and_intros <;> decide
theorem witness_DueStepsStart_hold :
    dueHold.phase = .running ∧
    dueHold.interlock.live.estop = false ∧
    dueHold.interlock.live.door = false ∧
    routeFound dueHold = true ∧
    dueHold.track.state = .hold ∧
    dueHold.merge.state = .idle ∧
    dueHold.interlock.live.tank = false ∧
    (∀ r, dueHold.track.positions[12] = some r → r.required ≤ r.dose ∨ dueHold.track.extension = .expired ∨ (dueHold.track.extension = .idle ∧ (r.programme.map (·.limit)).getD 0 = 0)) := by
  and_intros <;> decide
theorem witness_DueStepsStart_purging :
    duePurge.phase = .running ∧
    duePurge.interlock.live.estop = false ∧
    duePurge.interlock.live.door = false ∧
    routeFound duePurge = true ∧
    duePurge.track.state = .purging ∧
    duePurge.track.stepDue = true ∧
    duePurge.track.motion = .none := by
  and_intros <;> decide
/-- A due step with every condition unmet, and a purge step with no place for the X record. -/
def unmet : State :=
  lock (fun i => { i with live := { i.live with tank := true } })
  (merge (fun m => { m with state := .transferring, grant := some (.spur 0 9 .plate snap) })
  (ret (fun r => { r with cleanEnd := List.replicate 4 ⟨rack 0 2400 .sanitised, false⟩ })
    (track (fun t => { t with positions := (t.positions.set 12 (some (rack 5 2399 .none))).set 16 (some (rack 6 2400 .sanitised)) }) ready)))
def unmetPurge : State :=
  ret (fun r => { r with cleanEnd := List.replicate 4 ⟨rack 0 2400 .sanitised, false⟩ })
    (track (fun t => { t with positions := t.positions.set 16 (some (rack 6 2400 .sanitised)) }) duePurge)
theorem witness_UnmetStepsAreHeld :
    unmet.phase = .running ∧
    unmet.interlock.live.estop = false ∧
    unmet.interlock.live.door = false ∧
    unmet.track.state = .ready ∧
    unmet.track.stepDue = true ∧
    unmet.track.records ≠ 0 ∧
    ({ transfer := unmet.merge.state != .idle, tank := unmet.interlock.live.tank, exit := !routeFound unmet, dose := f2Below unmet } : Holds) = ⟨true, true, true, true⟩ ∧
    grantOpen { unmet with track := { unmet.track with state := .hold } } = false := by
  and_intros <;> decide
theorem witness_UnmetStepsAreHeld_purge :
    unmetPurge.phase = .running ∧
    unmetPurge.interlock.live.estop = false ∧
    unmetPurge.interlock.live.door = false ∧
    unmetPurge.track.state = .purging ∧
    unmetPurge.track.stepDue = true ∧
    unmetPurge.track.motion = .none ∧
    routeFound unmetPurge = false := by
  and_intros <;> decide
/-- A clean end or a lane with one place left, and with none. -/
def cleanLeft (k : Nat) : State := ret (fun r => { r with cleanEnd := List.replicate k ⟨rack 0 2400 .sanitised, false⟩ }) off
def laneLeft (k : Nat) : State := ret (fun r => { r with lane := List.replicate k (rack 0 9 .short) }) off
/-- The places the clean end and the lane have taken. -/
def cleanTaken (s : State) : Nat :=
  s.ret.cleanEnd.length + (if s.reservation = some .clean ∨ s.reservation = some .quarantine then 1 else 0)
def laneTaken (s : State) : Nat := s.ret.lane.length + (if s.reservation = some .rewash then 1 else 0)
theorem witness_ExitRoutingFollowsTheVerdict_clean :
    (rack 5 2400 .sanitised).verdict = .sanitised ∧
    cleanTaken (cleanLeft 3) < 4 ∧
    4 ≤ cleanTaken (cleanLeft 4) :=
  ⟨by decide, by decide, by decide⟩
theorem witness_ExitRoutingFollowsTheVerdict_again :
    (rack 5 9 .short).verdict = .short ∧
    (rack 5 9 .short).programme = some snap ∧
    snap.allowed = true ∧
    (rack 5 9 .short).rewashCount < snap.rewash ∧
    laneTaken (laneLeft 1) < 2 := by
  and_intros <;> decide
theorem witness_ExitRoutingFollowsTheVerdict_full :
    (rack 5 9 .short).verdict = .short ∧
    ¬ laneTaken (laneLeft 2) < 2 ∧
    cleanTaken (laneLeft 2) < 4 ∧
    ({ rack 5 9 .short with rewashCount := 1 } : TrackRecord).verdict = .short ∧
    ¬ ({ rack 5 9 .short with rewashCount := 1 } : TrackRecord).rewashCount < snap.rewash ∧
    4 ≤ cleanTaken (cleanLeft 4) := by
  and_intros <;> decide
theorem witness_ExitRoutingFollowsTheVerdict_exit :
    dueReady.track.positions[16] = some (rack 6 2400 .sanitised) ∧
    ready.track.positions[16] = none :=
  ⟨by decide, by decide⟩
theorem witness_StepCompletionMovesTheRecords :
    purging.phase = .running ∧
    purging.track.motion = .inFlight ∧
    (track (fun t => { t with state := .stepping, motion := .inFlight }) dueReady).phase = .running ∧
    (track (fun t => { t with state := .stepping, motion := .inFlight }) dueReady).track.motion = .inFlight ∧
    (track (fun t => { t with state := .stepping, motion := .inFlight }) dueReady).track.state = .stepping := by
  and_intros <;> decide
theorem witness_StepCompletionMovesTheRecords_missing :
    (track (fun t => { t with positions := t.positions.set 15 (some (rack 8 2400 .sanitised)) }) purging).phase = .running ∧
    (track (fun t => { t with positions := t.positions.set 15 (some (rack 8 2400 .sanitised)) }) purging).track.motion = .inFlight ∧
    (track (fun t => { t with positions := t.positions.set 15 (some (rack 8 2400 .sanitised)) }) purging).track.positions[15] = some (rack 8 2400 .sanitised) ∧
    plantAtRest.exitEye = false ∧
    (track (fun t => { t with positions := t.positions.set 15 (some (rack 8 2400 .sanitised)) }) purging).link.mask.getLsbD 2 = true ∧
    (track (fun t => { t with positions := t.positions.set 15 (some (rack 8 2400 .sanitised)) }) purging).link.notices.length < 16 := by
  and_intros <;> decide
theorem witness_PeriodIsFixedByTheSlowest :
    2 ≤ (12 : Fin 17).val ∧
    (12 : Fin 17).val ≤ 12 ∧
    dueReady.track.positions[(12 : Fin 17)] = some (rack 5 2400 .none) ∧
    (rack 5 2400 .none).programme = some snap :=
  ⟨by decide, by decide, by decide, by decide⟩
theorem witness_PeriodIsFixedByTheSlowest_default :
    (∀ i : Fin 17, 2 ≤ i.val → i.val ≤ 12 → off.track.positions[i] = none) := by decide
/-- The three timers of the track run; a motion is in flight. -/
def timed : State := track (fun t => { t with
  stepTimer := .running 0, extension := .running 0, motionTimer := .running 0, motion := .inFlight, state := .stepping }) off
theorem witness_TrackTimersExpire :
    timed.phase = .running ∧
    timed.track.stepTimer = .running 0 ∧
    timed.track.extension = .running 0 ∧
    timed.track.motionTimer = .running 0 ∧
    timed.track.motion = .inFlight := by
  and_intros <;> decide
theorem witness_TrackTimersExpire_stopped :
    off.phase = .running ∧
    Settled off ∧
    LinkSound off ∧
    off.track.stepTimer.isRunning = false ∧
    off.track.extension.isRunning = false ∧
    off.track.motionTimer.isRunning = false :=
  ⟨by decide, by unfold Settled NothingDue; decide, by unfold LinkSound; decide, by decide, by decide, by decide⟩
/-- A recovery runs. -/
def recovery : State := lock (fun i => { i with recovery := .running 0 }) (track (fun t => { t with state := .recovery, stepDue := false }) ready)
theorem witness_ChainOpeningsStopTheParts :
    timed.phase = .running ∧
    timed.interlock.live.estop = false ∧
    timed.interlock.live.door = false ∧
    recovery.phase = .running ∧
    recovery.track.state = .recovery := by
  and_intros <;> decide
/-- A latched group with its member set. -/
def estopOpenLatched : State := lock (fun i => { i with latched := true, snapshot := i.live, count := 1 }) estopOpen
theorem witness_ChainClosingsReleaseTheReturn_estop :
    estopOpenLatched.phase = .running ∧
    Moving estopOpenLatched ∧
    estopOpenLatched.interlock.live.estop = true := by
  refine ⟨by decide, ⟨by unfold RecordsConsistent; decide, fun _ => ⟨?_, ?_⟩, fun h => absurd rfl h⟩, by decide⟩
  · unfold DrivesConsistent; decide
  · unfold MarksConsistent
    and_intros <;> decide
/-- A latched group with its member set. -/
def doorOpenLatched : State := lock (fun i => { i with latched := true, snapshot := i.live, count := 1 }) doorOpen
theorem witness_ChainClosingsReleaseTheReturn_door :
    doorOpenLatched.phase = .running ∧
    Moving doorOpenLatched ∧
    doorOpenLatched.interlock.live.door = true := by
  refine ⟨by decide, ⟨by unfold RecordsConsistent; decide, fun _ => ⟨?_, ?_⟩, fun h => absurd rfl h⟩, by decide⟩
  · unfold DrivesConsistent; decide
  · unfold MarksConsistent
    and_intros <;> decide
theorem witness_MembersAreLatchedAndReleased_changes :
    off.phase = .running ∧
    off.interlock.live.rinse ≠ !false ∧
    off.interlock.live.rinse = !true ∧
    off.interlock.live.tank ≠ true ∧
    off.interlock.live.tank = false ∧
    (lock (fun i => { i with live := { i.live with tank := true, rinse := true } }) off).phase = .running ∧
    (lock (fun i => { i with live := { i.live with tank := true, rinse := true } }) off).interlock.live.rinse ≠ !true ∧
    (lock (fun i => { i with live := { i.live with tank := true, rinse := true } }) off).interlock.live.tank ≠ false := by
  and_intros <;> decide
theorem witness_MembersAreLatchedAndReleased_release :
    Listening off ∧
    Settled off ∧
    off.interlock.latched = false ∧
    Listening doorOpenLatched ∧
    Settled doorOpenLatched ∧
    doorOpenLatched.interlock.latched = true ∧
    doorOpenLatched.interlock.live = doorOpenLatched.interlock.snapshot :=
  ⟨by unfold Listening; decide, by unfold Settled NothingDue; decide, by decide, by unfold Listening; decide,
    by unfold Settled NothingDue; decide, by decide, by decide⟩
theorem witness_MembersAreLatchedAndReleased_again :
    Listening (lock (fun i => { i with latched := true }) doorOpen) ∧
    Settled (lock (fun i => { i with latched := true }) doorOpen) ∧
    (lock (fun i => { i with latched := true }) doorOpen).interlock.latched = true ∧
    (lock (fun i => { i with latched := true }) doorOpen).interlock.live ≠ (lock (fun i => { i with latched := true }) doorOpen).interlock.snapshot :=
  ⟨by unfold Listening; decide, by unfold Settled NothingDue; decide, by decide, by decide⟩
/-- An INTERLOCK notice waits before another; another INTERLOCK notice. -/
def groupNotice (count : BitVec 16) : Notice := .interlock off.interlock.live off.interlock.live count .change
def groupWaits : State := link (fun l => { l with transmitter := .reply, reply := some ⟨0x8C, .ok, .empty⟩, notices := [groupNotice 1, stateNotice] }) off
theorem witness_MembersAreLatchedAndReleased_notice :
    (groupNotice 2).enabled groupWaits.link.mask = true ∧
    groupWaits.link.notices = [] ++ groupNotice 1 :: [stateNotice] ∧
    (groupNotice 1).isInterlock = true ∧
    (∀ x ∈ ([] ++ [stateNotice] : List Notice), x.isInterlock = false) ∧
    (∀ x ∈ fullQueue.link.notices, x.isInterlock = false) ∧
    ((groupNotice 2).enabled masked.link.mask = true ∨ (groupNotice 2).enabled (link (fun l => { l with mask := 0x0021 }) off).link.mask = false) := by
  and_intros <;> decide
theorem witness_IdleAndRecoveryTimersExpire_preset :
    ready.phase = .running ∧
    NothingDue ready ∧
    grantOpen ready = false ∧
    idleInReady ready = true ∧
    idleInReady off = false ∧
    NothingDue off ∧
    grantOpen off = false :=
  ⟨by decide, by unfold NothingDue; decide, by decide, by decide, by decide, by unfold NothingDue; decide,
    by decide⟩
theorem witness_IdleAndRecoveryTimersExpire_idle :
    (lock (fun i => { i with idle := .running 0 }) ready).phase = .running ∧
    (lock (fun i => { i with idle := .running 0 }) ready).interlock.idle = .running 0 ∧
    idleInReady (lock (fun i => { i with idle := .running 0 }) ready) = true ∧
    (lock (fun i => { i with idle := .running 0 }) off).phase = .running ∧
    (lock (fun i => { i with idle := .running 0 }) off).interlock.idle = .running 0 ∧
    idleInReady (lock (fun i => { i with idle := .running 0 }) off) = false := by
  and_intros <;> decide
theorem witness_IdleAndRecoveryTimersExpire_recovery :
    recovery.phase = .running ∧
    recovery.interlock.recovery = .running 0 ∧
    recovery.track.state = .recovery ∧
    (lock (fun i => { i with recovery := .idle, limit := .running 0 }) recovery).interlock.limit = .running 0 ∧
    (lock (fun i => { i with recovery := .idle, limit := .running 0 }) recovery).track.state = .recovery := by
  and_intros <;> decide
theorem witness_IdleAndRecoveryTimersExpire_late :
    (lock (fun i => { i with recovery := .running 0, limit := .running 0 }) off).phase = .running ∧
    (lock (fun i => { i with recovery := .running 0, limit := .running 0 }) off).interlock.recovery = .running 0 ∧
    (lock (fun i => { i with recovery := .running 0, limit := .running 0 }) off).interlock.limit = .running 0 ∧
    (lock (fun i => { i with recovery := .running 0, limit := .running 0 }) off).track.state ≠ .recovery ∧
    off.phase = .running ∧
    Settled off ∧
    LinkSound off ∧
    off.interlock.idle.isRunning = false :=
  ⟨by decide, by decide, by decide, by decide, by decide, by unfold Settled NothingDue; decide,
    by unfold LinkSound; decide, by decide⟩
/-- Recovery failed; a transfer is jammed with this grant. -/
def failed : State := track (fun t => { t with state := .fault, fault := some .recoveryFailed }) off
def jammedTransfer (g : Grant) : State :=
  merge (fun m => { m with state := .jammed, grant := some g })
    (track (fun t => { t with state := .fault, fault := some .jamTransfer }) off)
/-- A jam with a chain open. -/
def jammedOpen : State := lock (fun i => { i with live := { i.live with door := true } }) jammed
theorem witness_FaultsAreCleared_none :
    Listening off ∧
    (off.track.fault.isSome ↔ off.track.state = .fault) ∧
    off.track.state ≠ .fault ∧
    Settled off :=
  ⟨by unfold Listening; decide, by decide, by decide, by unfold Settled NothingDue; decide⟩
theorem witness_FaultsAreCleared_open :
    Listening jammedOpen ∧
    (jammedOpen.track.fault.isSome ↔ jammedOpen.track.state = .fault) ∧
    jammedOpen.track.fault = some .jamMotion ∧
    (¬ (jammedOpen.interlock.live.estop = false ∧ jammedOpen.interlock.live.door = false)) ∧
    Settled jammedOpen :=
  ⟨by unfold Listening; decide, by decide, by decide, by decide, by unfold Settled NothingDue; decide⟩
theorem witness_FaultsAreCleared_recovery :
    Listening failed ∧
    (failed.track.fault.isSome ↔ failed.track.state = .fault) ∧
    failed.track.fault = some .recoveryFailed :=
  ⟨by unfold Listening; decide, by decide, by decide⟩
theorem witness_FaultsAreCleared_motion :
    Listening jammed ∧
    (jammed.track.fault.isSome ↔ jammed.track.state = .fault) ∧
    jammed.track.fault = some .jamMotion ∧
    jammed.interlock.live.estop = false ∧
    jammed.interlock.live.door = false ∧
    plantAtRest.index = false ∧
    allMade.index = true :=
  ⟨by unfold Listening; decide, by decide, by decide, by decide, by decide, by decide, by decide⟩
theorem witness_FaultsAreCleared_spur :
    Listening (jammedTransfer (.spur 0 9 .plate snap)) ∧
    ((jammedTransfer (.spur 0 9 .plate snap)).track.fault.isSome ↔ (jammedTransfer (.spur 0 9 .plate snap)).track.state = .fault) ∧
    (jammedTransfer (.spur 0 9 .plate snap)).track.fault = some .jamTransfer ∧
    (jammedTransfer (.spur 0 9 .plate snap)).interlock.live.estop = false ∧
    (jammedTransfer (.spur 0 9 .plate snap)).interlock.live.door = false ∧
    (jammedTransfer (.spur 0 9 .plate snap)).merge.grant = some (.spur 0 9 .plate snap) ∧
    allMade.position0 = true ∧
    plantAtRest.position0 = false ∧
    plantAtRest.spurHead.get 0 = false ∧
    ({ allMade with position0 := false } : Plant).spurHead.get 0 = true :=
  ⟨by unfold Listening; decide, by decide, by decide, by decide, by decide, by decide, by decide, by decide,
    by decide, by decide⟩
theorem witness_FaultsAreCleared_rewash :
    Listening (jammedTransfer (.rewash (rack 9 9 .short))) ∧
    ((jammedTransfer (.rewash (rack 9 9 .short))).track.fault.isSome ↔ (jammedTransfer (.rewash (rack 9 9 .short))).track.state = .fault) ∧
    (jammedTransfer (.rewash (rack 9 9 .short))).track.fault = some .jamTransfer ∧
    (jammedTransfer (.rewash (rack 9 9 .short))).interlock.live.estop = false ∧
    (jammedTransfer (.rewash (rack 9 9 .short))).interlock.live.door = false ∧
    (jammedTransfer (.rewash (rack 9 9 .short))).merge.grant = some (.rewash (rack 9 9 .short)) ∧
    allMade.position0 = true ∧
    plantAtRest.position0 = false ∧
    plantAtRest.spurHead.get 0 = false ∧
    ({ allMade with position0 := false } : Plant).spurHead.get 0 = true :=
  ⟨by unfold Listening; decide, by decide, by decide, by decide, by decide, by decide, by decide, by decide,
    by decide, by decide⟩

/-! ### The rinse dose unit -/

/-- A conversion of channel A, of channel B, and a part with one sensor. -/
def convertingA : State := dose (fun d => { d with converter := .convertingA, cycle := .running 0 }) off
def convertingB : State := dose (fun d => { d with converter := .convertingB, pendingA := some 660, recoveryRun := 7 }) (stateIs .recovery)
def oneSensor : State := { convertingA with profile := { off.profile with values := { off.profile.values with sensors := 1, recoveryMode := .temperature } } }
theorem witness_SamplesAreFormedAndCredited_timing :
    convertingA.phase = .running ∧
    convertingA.dose.cycle = .running 0 ∧
    convertingA.dose.converter = .convertingA ∧
    convertingA.profile.values.sensors ≠ 1 :=
  ⟨by decide, by decide, by decide, by decide⟩
theorem witness_SamplesAreFormedAndCredited_stopped :
    off.phase = .running ∧
    Settled off ∧
    LinkSound off ∧
    off.dose.cycle.isRunning = false ∧
    off.dose.converter ≠ .convertingA ∧
    off.dose.converter ≠ .convertingB :=
  ⟨by decide, by unfold Settled NothingDue; decide, by unfold LinkSound; decide, by decide, by decide, by decide⟩
theorem witness_SamplesAreFormedAndCredited_one :
    oneSensor.phase = .running ∧
    oneSensor.dose.converter = .convertingA ∧
    oneSensor.profile.values.sensors = 1 :=
  ⟨by decide, by decide, by decide⟩
theorem witness_SamplesAreFormedAndCredited_two :
    convertingB.phase = .running ∧
    convertingB.dose.converter = .convertingB ∧
    convertingB.dose.pendingA = some 660 ∧
    convertingB.track.state = .recovery ∧
    (sampleOf convertingB.programmes.sanitation (!convertingB.interlock.live.rinse) 660 (some 660)).status ≠ .invalid ∧
    convertingB.programmes.sanitation.floor + convertingB.profile.values.recoveryMargin ≤ (sampleOf convertingB.programmes.sanitation (!convertingB.interlock.live.rinse) 660 (some 660)).t ∧
    convertingB.dose.recoveryRun = 7 ∧
    ({ convertingB with profile := oneSensor.profile } : State).profile.values.recoveryMode = .temperature ∧
    ({ convertingB with profile := oneSensor.profile } : State).track.state = .recovery ∧
    convertingB.profile.values.recoveryMode ≠ .temperature := by
  and_intros <;> decide
theorem witness_RunsOfBadSamplesAreReported :
    (dose (fun d => { d with disagreeRun := 7, invalidRun := 7 }) off).dose.disagreeRun ≤ 8 ∧
    (dose (fun d => { d with disagreeRun := 7, invalidRun := 7 }) off).dose.invalidRun ≤ 8 ∧
    (sampleOf (dose (fun d => { d with disagreeRun := 7, invalidRun := 7 }) off).programmes.sanitation (!(dose (fun d => { d with disagreeRun := 7, invalidRun := 7 }) off).interlock.live.rinse) 660 (some 700)).status = .disagree ∧
    (dose (fun d => { d with disagreeRun := 7, invalidRun := 7 }) off).dose.disagreeRun = 7 ∧
    (sampleOf (dose (fun d => { d with disagreeRun := 7, invalidRun := 7 }) off).programmes.sanitation (!(dose (fun d => { d with disagreeRun := 7, invalidRun := 7 }) off).interlock.live.rinse) 0 (some 1023)).status = .invalid ∧
    (dose (fun d => { d with disagreeRun := 7, invalidRun := 7 }) off).dose.invalidRun = 7 ∧
    (sampleOf (dose (fun d => { d with disagreeRun := 7, invalidRun := 7 }) off).programmes.sanitation (!(dose (fun d => { d with disagreeRun := 7, invalidRun := 7 }) off).interlock.live.rinse) 660 none).status ≠ .disagree ∧
    (sampleOf (dose (fun d => { d with disagreeRun := 7, invalidRun := 7 }) off).programmes.sanitation (!(dose (fun d => { d with disagreeRun := 7, invalidRun := 7 }) off).interlock.live.rinse) 660 none).status ≠ .invalid := by
  and_intros <;> decide
theorem witness_TemperaturesAgreeByTheTable :
    Sanitation.builtIn.aBase ≤ 999 ∧
    Sanitation.builtIn.aSpan ≤ 2000 ∧
    Sanitation.builtIn.bBase ≤ 999 ∧
    Sanitation.builtIn.bSpan ≤ 2000 ∧
    (1 ≤ (1 : Code).toNat ∧ (1 : Code).toNat ≤ 1022) ∧
    (1 ≤ (1022 : Code).toNat ∧ (1022 : Code).toNat ≤ 1022) ∧
    (¬ (1 ≤ (0 : Code).toNat ∧ (0 : Code).toNat ≤ 1022)) ∧
    (¬ (1 ≤ (1023 : Code).toNat ∧ (1023 : Code).toNat ≤ 1022)) ∧
    (Sanitation.builtIn.bBase + ((680 : Code).toNat * Sanitation.builtIn.bSpan + 512) / 1024) - (Sanitation.builtIn.aBase + ((660 : Code).toNat * Sanitation.builtIn.aSpan + 512) / 1024) ≤ Sanitation.builtIn.agree ∧
    Sanitation.builtIn.agree < (Sanitation.builtIn.bBase + ((682 : Code).toNat * Sanitation.builtIn.bSpan + 512) / 1024) - (Sanitation.builtIn.aBase + ((660 : Code).toNat * Sanitation.builtIn.aSpan + 512) / 1024) := by
  and_intros <;> decide
theorem witness_CreditFollowsTheBand :
    (sampleOf Sanitation.builtIn true 0 (some 1023)).status = .invalid ∧
    (sampleOf Sanitation.builtIn true 630 (some 631)).t < Sanitation.builtIn.floor ∧
    (sampleOf Sanitation.builtIn true 635 (some 635)).status ≠ .invalid ∧
    Sanitation.builtIn.floor ≤ (sampleOf Sanitation.builtIn true 635 (some 635)).t ∧
    (sampleOf Sanitation.builtIn true 635 (some 635)).t = 820 := by
  and_intros <;> decide

/-! ### Settings, stations and the merge -/

theorem witness_SettingsAreStored_programmes :
    Listening ready ∧
    Settled ready ∧
    ready.profile.values.tableLimit < (8 : Byte).toNat ∧
    (1 : Byte) ≠ 0 ∧
    (7 : Byte).toNat ≤ ready.profile.values.tableLimit ∧
    (255 : Byte) ≠ 0 ∧
    60 < (61 : Byte).toNat ∧
    (¬ (60 < (60 : Byte).toNat ∨ 3 < (3 : Byte).toNat)) ∧
    (¬ (ready.profile.values.tableLimit < (0 : Byte).toNat ∨ ready.profile.values.tableLimit < (7 : Byte).toNat)) :=
  ⟨by unfold Listening; decide, by unfold Settled NothingDue; decide, by decide, by decide, by decide, by decide,
    by decide, by decide, by decide⟩
theorem witness_SettingsAreStored_sanitation :
    Listening ready ∧
    Settled ready ∧
    ready.programmes.lock = true ∧
    Listening off ∧
    Settled off ∧
    off.programmes.lock = false ∧
    ¬ (100 ≤ (99 : Half).toNat) ∧
    ¬ ((4096 : Half).toNat ≤ 4095) ∧
    (999 : Half).toNat ≤ 999 ∧
    100 ≤ (100 : Half).toNat ∧
    (2000 : Half).toNat ≤ 2000 ∧
    (600 ≤ (600 : Half).toNat ∧ (950 : Half).toNat ≤ 950) ∧
    (100 : Byte).toNat ≤ 100 ∧
    (∀ i : Fin 16, ((Vector.replicate 16 4095 : Vector Half 16)[i]).toNat ≤ 4095) :=
  ⟨by unfold Listening; decide, by unfold Settled NothingDue; decide, by decide, by unfold Listening; decide,
    by unfold Settled NothingDue; decide, by decide, by decide, by decide, by decide, by decide, by decide,
    by decide, by decide, by decide⟩
theorem witness_StationsAreSetClearedAndLoaded_range :
    Listening off ∧
    Settled off ∧
    off.profile.values.stations < (5 : Byte).toNat ∧
    1 < (2 : Byte).toNat ∧
    (0xF0#8 : Byte) &&& 0x0F = 0 :=
  ⟨by unfold Listening; decide, by unfold Settled NothingDue; decide, by decide, by decide, by decide⟩
theorem witness_StationsAreSetClearedAndLoaded_set :
    Listening peak ∧
    (2 : Byte).toNat = (1 : Quad).val + 1 ∧
    (4 : Byte).toNat = (3 : Quad).val + 1 ∧
    (4 : Byte).toNat ≤ peak.profile.values.stations ∧
    (0x08#8 : Byte) &&& 0x0F ≠ 0 :=
  ⟨by unfold Listening; decide, by decide, by decide, by decide, by decide⟩
/-- Six racks with ids, and six without; station 2 with one place left. -/
def six : List LoadEntry := [⟨1, 0⟩, ⟨2, 4⟩, ⟨3, 1⟩, ⟨4, 1⟩, ⟨5, 1⟩, ⟨6, 1⟩]
def unnamed : List LoadEntry := List.replicate 6 ⟨0, 1⟩
def oneLeft : State := station 1 (fun u => { u with stack := List.replicate 4 ⟨0, .plate⟩ }) peak
theorem off_ids : heldIds off = [] := by decide
theorem oneLeft_ids : heldIds oneLeft = [190, 415] := by decide
theorem witness_StationsAreSetClearedAndLoaded_load :
    Listening off ∧
    Settled off ∧
    six.length = (6 : Byte).toNat ∧
    (6 : Byte) ≠ 0 ∧
    (6 : Byte).toNat ≤ 6 ∧
    (∀ e ∈ six, e.kind.toNat ≤ 4) ∧
    (off.stations.get 1).stack.length + (off.stations.get 1).deliveries.length + six.length ≤ 6 ∧
    (((six : List LoadEntry).map (·.id)).filter (· != 0)).Nodup ∧
    (∀ i ∈ ((six : List LoadEntry).map (·.id)).filter (· != 0), i ∉ heldIds off) :=
  ⟨by unfold Listening; decide, by unfold Settled NothingDue; decide, by decide, by decide, by decide, by decide,
    by decide, by decide, by intro i _ h; rw [off_ids] at h; cases h⟩
theorem witness_StationsAreSetClearedAndLoaded_full :
    Listening oneLeft ∧
    Settled oneLeft ∧
    ([⟨7, 1⟩, ⟨8, 1⟩] : List LoadEntry).length = (2 : Byte).toNat ∧
    6 < (oneLeft.stations.get 1).stack.length + (oneLeft.stations.get 1).deliveries.length + ([⟨7, 1⟩, ⟨8, 1⟩] : List LoadEntry).length ∧
    (oneLeft.stations.get 1).stack.length + (oneLeft.stations.get 1).deliveries.length + ([⟨415, 1⟩] : List LoadEntry).length ≤ 6 ∧
    (∃ i ∈ (([⟨415, 1⟩] : List LoadEntry).map (·.id)).filter (· != 0), i ∈ heldIds oneLeft) ∧
    ¬ ((([⟨7, 1⟩, ⟨7, 1⟩] : List LoadEntry).map (·.id)).filter (· != 0)).Nodup ∧
    (∃ e ∈ ([⟨7, 5⟩] : List LoadEntry), 4 < e.kind.toNat) :=
  ⟨by unfold Listening; decide, by unfold Settled NothingDue; decide, by decide, by decide, by decide,
    ⟨415, by decide, by rw [oneLeft_ids]; exact .tail _ (.head _)⟩, by decide, by decide⟩
theorem witness_StationsAreSetClearedAndLoaded_repeated :
    Listening off ∧
    Settled off ∧
    (2 : Byte).toNat = (1 : Quad).val + 1 ∧
    (([⟨7, 1⟩, ⟨0, 1⟩, ⟨7, 1⟩] : List LoadEntry)).length = (3 : Byte).toNat ∧
    (3 : Byte) ≠ 0 ∧
    (3 : Byte).toNat ≤ 6 ∧
    (∀ e ∈ ([⟨7, 1⟩, ⟨0, 1⟩, ⟨7, 1⟩] : List LoadEntry), e.kind.toNat ≤ 4) ∧
    (off.stations.get 1).stack.length + (off.stations.get 1).deliveries.length + (([⟨7, 1⟩, ⟨0, 1⟩, ⟨7, 1⟩] : List LoadEntry)).length ≤ 6 ∧
    ¬ ((([⟨7, 1⟩, ⟨0, 1⟩, ⟨7, 1⟩] : List LoadEntry).map (·.id)).filter (· != 0)).Nodup :=
  ⟨by unfold Listening; decide, by unfold Settled NothingDue; decide, by decide, by decide, by decide, by decide,
    by decide, by decide, by decide⟩
theorem witness_StationsAreSetClearedAndLoaded_held :
    Listening oneLeft ∧
    Settled oneLeft ∧
    (2 : Byte).toNat = (1 : Quad).val + 1 ∧
    (([⟨415, 1⟩] : List LoadEntry)).length = (1 : Byte).toNat ∧
    (1 : Byte) ≠ 0 ∧
    (1 : Byte).toNat ≤ 6 ∧
    (∀ e ∈ ([⟨415, 1⟩] : List LoadEntry), e.kind.toNat ≤ 4) ∧
    (oneLeft.stations.get 1).stack.length + (oneLeft.stations.get 1).deliveries.length + (([⟨415, 1⟩] : List LoadEntry)).length ≤ 6 ∧
    (∃ i ∈ (([⟨415, 1⟩] : List LoadEntry).map (·.id)).filter (· != 0), i ∈ heldIds oneLeft) :=
  ⟨by unfold Listening; decide, by unfold Settled NothingDue; decide, by decide, by decide, by decide, by decide,
    by decide, by decide, ⟨415, by decide, by rw [oneLeft_ids]; exact .tail _ (.head _)⟩⟩
theorem witness_StationsAreSetClearedAndLoaded_unnamed :
    Listening off ∧
    Settled off ∧
    (2 : Byte).toNat = (1 : Quad).val + 1 ∧
    (unnamed).length = (6 : Byte).toNat ∧
    (6 : Byte) ≠ 0 ∧
    (6 : Byte).toNat ≤ 6 ∧
    (∀ e ∈ unnamed, e.kind.toNat ≤ 4) ∧
    (off.stations.get 1).stack.length + (off.stations.get 1).deliveries.length + (unnamed).length ≤ 6 ∧
    (((unnamed : List LoadEntry).map (·.id)).filter (· != 0)).Nodup ∧
    (∀ i ∈ ((unnamed : List LoadEntry).map (·.id)).filter (· != 0), i ∉ heldIds off) :=
  ⟨by unfold Listening; decide, by unfold Settled NothingDue; decide, by decide, by decide, by decide, by decide,
    by decide, by decide, by decide, by intro i h; cases h⟩
/-- A repeated id and a held id are refused, six racks without ids are taken (R81). -/
theorem test_load_duplicates :
    after (exec (.loadStack 2 3 [⟨7, 1⟩, ⟨0, 1⟩, ⟨7, 1⟩]) off) (fun t => t.link.reply) = some (some ⟨0x9A, .duplicate, .empty⟩) ∧
    after (exec (.loadStack 2 1 [⟨415, 1⟩]) oneLeft) (fun t => t.link.reply) = some (some ⟨0x9A, .duplicate, .empty⟩) ∧
    after (exec (.loadStack 2 6 unnamed) off) (fun t => (t.link.reply, (t.stations.get 1).stack.length)) =
      some (some ⟨0x9A, .ok, .empty⟩, 6) := by decide
theorem witness_RacksAreLiftedAndSent_fitted :
    peak.phase = .running ∧
    (3 : Quad).val + 1 ≤ peak.profile.values.stations ∧
    (peak.stations.get 1).stack = ⟨311, .cup⟩ :: [⟨208, .plate⟩] ∧
    (peak.stations.get 3).stack = [] ∧
    (peak.stations.get 1).mode = .openMode ∧
    allMade.bay.get 1 = true ∧
    (peak.stations.get 1).spur.length < 3 ∧
    3 ≤ ((station 1 (fun u => { u with mode := .closed, spur := u.spur ++ [⟨311, .unknown, false, false, none⟩] }) peak).stations.get 1).spur.length ∧
    ((station 1 (fun u => { u with mode := .closed, spur := u.spur ++ [⟨311, .unknown, false, false, none⟩] }) peak).stations.get 1).mode = .closed ∧
    plantAtRest.bay.get 1 = false := by
  and_intros <;> decide
theorem witness_RacksAreLiftedAndSent_unfitted :
    ({ off with profile := { off.profile with values := { off.profile.values with stations := 3 } } } : State).phase = .running ∧
    Settled ({ off with profile := { off.profile with values := { off.profile.values with stations := 3 } } } : State) ∧
    LinkSound ({ off with profile := { off.profile with values := { off.profile.values with stations := 3 } } } : State) ∧
    ({ off with profile := { off.profile with values := { off.profile.values with stations := 3 } } } : State).profile.values.stations < (3 : Quad).val + 1 :=
  ⟨by decide, by unfold Settled NothingDue; decide, by unfold LinkSound; decide, by decide⟩
/-- A spur whose head is as given, with the SPUR FULL lamp lit. -/
def spurHead (profiled refused : Bool) (s : State) : State :=
  station 1 (fun u => { u with spur := [⟨190, .plate, profiled, refused, none⟩], spurFull := .running 0 }) s
/-- The transfer from spur 2 is in flight. -/
def granted : State :=
  merge (fun m => { m with state := .transferring, grant := some (.spur 1 190 .plate snap), pusher := some (.spur 1), timer := .running 0 })
    (spurHead true false off)
theorem witness_StationEventsChangeTheirQueue_spur :
    off.phase = .running ∧
    (1 : Quad).val + 1 ≤ off.profile.values.stations ∧
    transferFrom (spurHead false false off) 1 = false ∧
    ((spurHead false false off).stations.get 1).spur = ⟨190, .plate, false, false, none⟩ :: [] ∧
    ((spurHead true false off).stations.get 1).spur = ⟨190, .plate, true, false, none⟩ :: [] ∧
    (off.stations.get 1).spur = [] ∧
    transferFrom granted 1 = true := by
  and_intros <;> decide
theorem witness_StationEventsChangeTheirQueue_timers :
    peak.phase = .running ∧
    (peak.stations.get 1).deliveries[0]? = some ⟨415, .plate, .router, .running 500⟩ ∧
    peak.interlock.live.estop = false ∧
    estopOpen.interlock.live.estop = true ∧
    ((spurHead true false off).stations.get 1).spurFull = .running 0 := by
  and_intros <;> decide
theorem witness_ProgrammesAreForced_refused :
    Listening off ∧
    Settled off ∧
    off.profile.values.stations < (5 : Byte).toNat ∧
    (2 : Byte).toNat = (1 : Quad).val + 1 ∧
    off.profile.values.tableLimit < (8 : Byte).toNat ∧
    (7 : Byte).toNat ≤ off.profile.values.tableLimit ∧
    (off.stations.get 1).spur = [] ∧
    Listening granted ∧
    Settled granted ∧
    transferFrom granted 1 = true :=
  ⟨by unfold Listening; decide, by unfold Settled NothingDue; decide, by decide, by decide, by decide, by decide,
    by decide, by unfold Listening; decide, by unfold Settled NothingDue; decide, by decide⟩
theorem witness_ProgrammesAreForced_taken :
    Listening (spurHead true true off) ∧
    Settled (spurHead true true off) ∧
    (2 : Byte).toNat = (1 : Quad).val + 1 ∧
    (2 : Byte).toNat ≤ (spurHead true true off).profile.values.stations ∧
    ((spurHead true true off).stations.get 1).spur = ⟨190, .plate, true, true, none⟩ :: [] ∧
    transferFrom (spurHead true true off) 1 = false ∧
    descriptor (spurHead true true off) (programmeOf 7) = none ∧
    descriptor (spurHead true true off) (programmeOf 1) ≠ none :=
  ⟨by unfold Listening; decide, by unfold Settled NothingDue; decide, by decide, by decide, by decide, by decide,
    by decide, by decide⟩
/-- READY with heads at every spur, of which spur 3 is full, and with a rack in the lane. -/
def waitingHeads : State :=
  station 0 (fun u => { u with spur := [⟨120, .plate, true, false, none⟩, ⟨0, .unknown, false, false, none⟩] })
  (station 2 (fun u => { u with spur := [⟨305, .cutlery, true, false, none⟩, ⟨306, .unknown, false, false, none⟩, ⟨307, .unknown, false, false, none⟩] })
  (station 3 (fun u => { u with spur := [⟨410, .tray, true, false, none⟩] }) (merge (fun m => { m with rotation := 1 }) ready)))
def noneFull : State := station 2 (fun u => { u with spur := [] }) waitingHeads
def laneWaits : State := ret (fun r => { r with lane := [rack 9 9 .short] }) waitingHeads
/-- Only a head of unknown kind, which resolves to no programme. -/
def noneEligible : State := station 0 (fun u => { u with spur := [⟨120, .unknown, true, false, none⟩] }) ready
/-- The place of a spur after the rotation pointer. -/
def rank (s : State) (m : Quad) : Nat := (m - s.merge.rotation - 1).val
theorem witness_GrantsFollowTheOrder_lane :
    laneWaits.phase = .running ∧
    NothingDue laneWaits ∧
    grantOpen laneWaits = true ∧
    laneWaits.merge.retest = false ∧
    laneWaits.ret.lane = rack 9 9 .short :: [] :=
  ⟨by decide, by unfold NothingDue; decide, by decide, by decide, by decide⟩
theorem witness_GrantsFollowTheOrder_full :
    waitingHeads.phase = .running ∧
    NothingDue waitingHeads ∧
    grantOpen waitingHeads = true ∧
    waitingHeads.merge.retest = false ∧
    waitingHeads.ret.lane = [] ∧
    eligible waitingHeads 2 = true ∧
    (waitingHeads.stations.get 2).spur.length = 3 ∧
    (∀ m : Quad, eligible waitingHeads m = true → (waitingHeads.stations.get m).spur.length = 3 → rank waitingHeads 2 ≤ rank waitingHeads m) :=
  ⟨by decide, by unfold NothingDue; decide, by decide, by decide, by decide, by decide, by decide, by decide⟩
theorem witness_GrantsFollowTheOrder_rotation :
    noneFull.phase = .running ∧
    NothingDue noneFull ∧
    grantOpen noneFull = true ∧
    noneFull.merge.retest = false ∧
    noneFull.ret.lane = [] ∧
    eligible noneFull 3 = true ∧
    (∀ m : Quad, eligible noneFull m = true → ¬ (noneFull.stations.get m).spur.length = 3) ∧
    (∀ m : Quad, eligible noneFull m = true → rank noneFull 3 ≤ rank noneFull m) :=
  ⟨by decide, by unfold NothingDue; decide, by decide, by decide, by decide, by decide, by decide, by decide⟩
theorem witness_GrantsFollowTheOrder_none :
    noneEligible.phase = .running ∧
    NothingDue noneEligible ∧
    grantOpen noneEligible = true ∧
    noneEligible.merge.retest = false ∧
    noneEligible.ret.lane = [] ∧
    (∀ m : Quad, eligible noneEligible m = false) ∧
    (noneEligible.stations.get 0).spur = ⟨120, .unknown, true, false, none⟩ :: [] :=
  ⟨by decide, by unfold NothingDue; decide, by decide, by decide, by decide, by decide, by decide⟩
theorem witness_GrantsFollowTheOrder_retest :
    (merge (fun m => { m with retest := true }) (station 1 (fun u => { u with spur := [⟨190, .plate, true, true, none⟩] }) waitingHeads)).phase = .running ∧
    NothingDue (merge (fun m => { m with retest := true }) (station 1 (fun u => { u with spur := [⟨190, .plate, true, true, none⟩] }) waitingHeads)) ∧
    grantOpen (merge (fun m => { m with retest := true }) (station 1 (fun u => { u with spur := [⟨190, .plate, true, true, none⟩] }) waitingHeads)) = true ∧
    (merge (fun m => { m with retest := true }) (station 1 (fun u => { u with spur := [⟨190, .plate, true, true, none⟩] }) waitingHeads)).merge.retest = true :=
  ⟨by decide, by unfold NothingDue; decide, by decide, by decide⟩
theorem witness_IdentityFollowsTheTags :
    (∃ r ∈ ([⟨305, true⟩, ⟨305, true⟩] : List TagRead), r.good = true ∧ r.id = 305) ∧
    (∀ r ∈ ([⟨305, true⟩, ⟨305, true⟩] : List TagRead), r.good = true → r.id = 305) ∧
    (410 : RackId) ≠ 305 ∧
    (410 : RackId) ≠ 0 ∧
    (∀ r ∈ ([⟨9120, false⟩] : List TagRead), ¬ r.good = true) ∧
    (∃ r ∈ ([⟨120, true⟩, ⟨555, true⟩] : List TagRead), r.good = true ∧ r.id = 120) ∧
    (∃ r ∈ ([⟨120, true⟩, ⟨555, true⟩] : List TagRead), r.good = true ∧ r.id = 555) ∧
    (120 : RackId) ≠ 555 ∧
    (¬ ∃ r ∈ ([⟨120, true⟩, ⟨555, true⟩] : List TagRead), r.good = true ∧ r.id = 410) := by
  and_intros <;> decide
/-- A rewash transfer is in flight. -/
def rewashing : State :=
  merge (fun m => { m with state := .transferring, grant := some (.rewash (rack 9 9 .short)), pusher := some .rewash, timer := .running 0 })
    (ret (fun r => { r with lane := [rack 9 9 .short] }) off)
def transferStopped : State := merge (fun m => { m with state := .interrupted, pusher := none, timer := .idle }) (track (fun t => { t with state := .stopped }) granted)
theorem witness_TransfersCompleteFailAndResume_spur :
    granted.phase = .running ∧
    granted.merge.state = .transferring ∧
    granted.merge.grant = some (.spur 1 190 .plate snap) ∧
    granted.track.motion = .none ∧
    (resolveIdentity 1 190 granted.merge.tags granted.merge.overrun).1 ≠ 0 ∧
    holderOf 1 (resolveIdentity 1 190 granted.merge.tags granted.merge.overrun).1 granted = none ∧
    plantAtRest.spurHead.get 1 = false := by
  and_intros <;> decide
theorem witness_TransfersCompleteFailAndResume_clash :
    (ret (fun r => { r with transit := [⟨rack 190 2400 .sanitised, .running 7⟩] }) granted).phase = .running ∧
    (ret (fun r => { r with transit := [⟨rack 190 2400 .sanitised, .running 7⟩] }) granted).merge.state = .transferring ∧
    (holderOf 1 190 (ret (fun r => { r with transit := [⟨rack 190 2400 .sanitised, .running 7⟩] }) granted)).map (·.resting) = some false :=
  ⟨by decide, by decide, by decide⟩
/-- Rack 190, which is granted at spur 2, is held elsewhere; another tag was read. -/
def onStack : State := station 0 (fun u => { u with stack := [⟨190, .cup⟩] }) granted
def inBay : State := station 0 (fun u => { u with bay := some ⟨190, .cup⟩ }) granted
def atTail : State := station 1 (fun u => { u with spur := u.spur ++ [⟨190, .plate, false, false, none⟩] }) granted
def onSpur : State := station 2 (fun u => { u with spur := [⟨190, .plate, false, false, none⟩] }) granted
def inSurplus : State := ret (fun r => { r with surplus := [⟨190, .cup⟩] }) granted
def mistagged : State := merge (fun m => { m with tags := [⟨777, true⟩] }) granted
theorem witness_TransfersCompleteFailAndResume_onStack :
    onStack.phase = .running ∧
    onStack.merge.state = .transferring ∧
    onStack.merge.grant = some (.spur 1 190 .plate snap) ∧
    (resolveIdentity 1 190 onStack.merge.tags onStack.merge.overrun).1 = 190 ∧
    holderOf 1 190 onStack = some (.stack 0) ∧
    plantAtRest.spurHead.get 1 = false := by
  and_intros <;> decide
theorem witness_TransfersCompleteFailAndResume_inBay :
    inBay.phase = .running ∧
    inBay.merge.state = .transferring ∧
    inBay.merge.grant = some (.spur 1 190 .plate snap) ∧
    (resolveIdentity 1 190 inBay.merge.tags inBay.merge.overrun).1 = 190 ∧
    holderOf 1 190 inBay = some (.bay 0) ∧
    plantAtRest.spurHead.get 1 = false := by
  and_intros <;> decide
theorem witness_TransfersCompleteFailAndResume_atTail :
    atTail.phase = .running ∧
    atTail.merge.state = .transferring ∧
    atTail.merge.grant = some (.spur 1 190 .plate snap) ∧
    (resolveIdentity 1 190 atTail.merge.tags atTail.merge.overrun).1 = 190 ∧
    holderOf 1 190 atTail = some (.spur 1) ∧
    plantAtRest.spurHead.get 1 = false := by
  and_intros <;> decide
theorem witness_TransfersCompleteFailAndResume_onSpur :
    onSpur.phase = .running ∧
    onSpur.merge.state = .transferring ∧
    onSpur.merge.grant = some (.spur 1 190 .plate snap) ∧
    (resolveIdentity 1 190 onSpur.merge.tags onSpur.merge.overrun).1 = 190 ∧
    holderOf 1 190 onSpur = some (.spur 2) ∧
    plantAtRest.spurHead.get 1 = false := by
  and_intros <;> decide
theorem witness_TransfersCompleteFailAndResume_inSurplus :
    inSurplus.phase = .running ∧
    inSurplus.merge.state = .transferring ∧
    inSurplus.merge.grant = some (.spur 1 190 .plate snap) ∧
    (resolveIdentity 1 190 inSurplus.merge.tags inSurplus.merge.overrun).1 = 190 ∧
    holderOf 1 190 inSurplus = some (.surplus) ∧
    plantAtRest.spurHead.get 1 = false := by
  and_intros <;> decide
theorem witness_TransfersCompleteFailAndResume_notices :
    mistagged.merge.grant = some (.spur 1 190 .plate snap) ∧
    mistagged.link.mask.getLsbD 4 = true ∧
    mistagged.link.notices.length ≤ 12 ∧
    AdmissionNotice.mismatch 1 190 777 false ∈ (resolveIdentity 1 190 mistagged.merge.tags mistagged.merge.overrun).2.2 ∧
    (holderOf 1 190 onStack).map (·.resting) = some true := by
  and_intros <;> decide
theorem witness_TransfersCompleteFailAndResume_rewash :
    rewashing.phase = .running ∧
    rewashing.merge.state = .transferring ∧
    rewashing.merge.grant = some (.rewash (rack 9 9 .short)) ∧
    rewashing.ret.lane = rack 9 9 .short :: [] ∧
    rewashing.track.motion = .none := by
  and_intros <;> decide
/-- A mistagged rack sends LOOSE for the id its station expected (R104). -/
theorem test_expected_id_is_loose :
    after (exec (.transferCompletion plantAtRest) { mistagged with directory := off.directory.set 62 (DirSet.fresh.put 0 (admitted 190)) })
      (fun t => (lookup t 190).map fun x => x.2.location) = some (some .loose) := by decide +kernel
theorem witness_TransfersCompleteFailAndResume_jam :
    granted.phase = .running ∧
    granted.merge.timer = .running 0 ∧
    granted.merge.state = .transferring ∧
    granted.merge.grant = some (.spur 1 190 .plate snap) :=
  ⟨by decide, by decide, by decide, by decide⟩
theorem witness_TransfersCompleteFailAndResume_run :
    Listening transferStopped ∧
    transferStopped.interlock.live.estop = false ∧
    transferStopped.interlock.live.door = false ∧
    transferStopped.programmes.required = false ∧
    transferStopped.merge.state = .interrupted ∧
    transferStopped.track.motion = .none ∧
    transferStopped.track.recoveryPending = false ∧
    transferStopped.track.state = .stopped ∧
    allMade.position0 = true ∧
    plantAtRest.position0 = false :=
  ⟨by unfold Listening; decide, by decide, by decide, by decide, by decide, by decide, by decide, by decide,
    by decide, by decide⟩
/-- The tag receiver with these bytes taken and this queue. -/
def tagged (r : Receiver) (q : List TagRead) : State := merge (fun m => { m with receiver := r, tagGap := .running 0, tags := q }) off
theorem witness_TagReportsAreQueued_hunting :
    off.phase = .running ∧
    Settled off ∧
    LinkSound off ∧
    off.merge.receiver = .hunting ∧
    (0xC2 : Byte) ≠ 0xC3 :=
  ⟨by decide, by unfold Settled NothingDue; decide, by unfold LinkSound; decide, by decide, by decide⟩
theorem witness_TagReportsAreQueued_byte :
    (tagged (.assembling [1]) []).phase = .running ∧
    Settled (tagged (.assembling [1]) []) ∧
    LinkSound (tagged (.assembling [1]) []) ∧
    (tagged (.assembling [1]) []).merge.receiver = .assembling [1] ∧
    ([1] : List Byte).length < 2 ∧
    (tagged (.assembling [1]) []).merge.tagGap = .running 0 :=
  ⟨by decide, by unfold Settled NothingDue; decide, by unfold LinkSound; decide, by decide, by decide, by decide⟩
theorem witness_TagReportsAreQueued_check :
    (tagged (.assembling [1, 2]) (List.replicate 2 ⟨7, true⟩)).phase = .running ∧
    Settled (tagged (.assembling [1, 2]) (List.replicate 2 ⟨7, true⟩)) ∧
    LinkSound (tagged (.assembling [1, 2]) (List.replicate 2 ⟨7, true⟩)) ∧
    (tagged (.assembling [1, 2]) (List.replicate 2 ⟨7, true⟩)).merge.receiver = .assembling [1, 2] ∧
    (tagged (.assembling [1, 2]) (List.replicate 2 ⟨7, true⟩)).merge.tags.length < 3 :=
  ⟨by decide, by unfold Settled NothingDue; decide, by unfold LinkSound; decide, by decide, by decide⟩
theorem witness_TagReportsAreQueued_overrun :
    (tagged (.assembling [1, 2]) (List.replicate 3 ⟨7, true⟩)).phase = .running ∧
    Settled (tagged (.assembling [1, 2]) (List.replicate 3 ⟨7, true⟩)) ∧
    LinkSound (tagged (.assembling [1, 2]) (List.replicate 3 ⟨7, true⟩)) ∧
    (tagged (.assembling [1, 2]) (List.replicate 3 ⟨7, true⟩)).merge.receiver = .assembling [1, 2] ∧
    (tagged (.assembling [1, 2]) (List.replicate 3 ⟨7, true⟩)).merge.tags.length = 3 :=
  ⟨by decide, by unfold Settled NothingDue; decide, by unfold LinkSound; decide, by decide, by decide⟩

/-! ### The rack directory -/

/-- Set 5 with room, full of pinned entries, and with an unpinned dirty, clean or complete way. -/
def roomy : State := withSet (DirSet.fresh.put 0 { admitted 69 with pinned := false }) off
def complete : State := withSet { fourPinned with ways := fourPinned.ways.set 0 (some { admitted 69 with partialHistory := false }) } off
theorem witness_RecordsAreReadAndWritten_range :
    Listening off ∧
    Settled off ∧
    (4 : Nat) < (5 : Byte).toNat ∧
    ¬ (4 : Nat) < (4 : Byte).toNat :=
  ⟨by unfold Listening; decide, by unfold Settled NothingDue; decide, by decide, by decide⟩
theorem witness_RecordsAreReadAndWritten_miss :
    Listening roomy ∧
    Settled roomy ∧
    (133 : RackId) ≠ 0 ∧
    lookup roomy 133 = none ∧
    kindCode .tray = (4 : Byte).toNat :=
  ⟨by unfold Listening; decide, by unfold Settled NothingDue; decide, by decide, by decide, by decide⟩
theorem witness_RecordsAreReadAndWritten_missFull :
    Listening (withSet fourPinned off) ∧
    Settled (withSet fourPinned off) ∧
    lookup (withSet fourPinned off) 325 = none ∧
    (withSet fourPinned off).directory[setOf 325].invalidWay = none ∧
    (withSet fourPinned off).directory[setOf 325].walk = none :=
  ⟨by unfold Listening; decide, by unfold Settled NothingDue; decide, by decide, by decide, by decide⟩
theorem witness_RecordsAreReadAndWritten_hit :
    Listening roomy ∧
    Settled roomy ∧
    lookup roomy 69 = some (0, { admitted 69 with pinned := false }) ∧
    Listening (withSet fourPinned off) ∧
    Settled (withSet fourPinned off) ∧
    lookup (withSet fourPinned off) 69 = some (0, admitted 69) ∧
    (admitted 69).pinned = true ∧
    (admitted 69).partialHistory = true ∧
    Listening complete ∧
    Settled complete ∧
    lookup complete 69 = some (0, { admitted 69 with partialHistory := false }) :=
  ⟨by unfold Listening; decide, by unfold Settled NothingDue; decide, by decide, by unfold Listening; decide,
    by unfold Settled NothingDue; decide, by decide, by decide, by decide, by unfold Listening; decide,
    by unfold Settled NothingDue; decide, by decide⟩
theorem witness_FlushesCarryDirtyEntriesOut :
    Listening roomy ∧
    Settled roomy ∧
    roomy.link.notices.length ≤ 16 ∧
    Settled fullQueue ∧
    fullQueue.link.notices.length ≤ 16 :=
  ⟨by unfold Listening; decide, by unfold Settled NothingDue; decide, by decide,
    by unfold Settled NothingDue; decide, by decide⟩
theorem witness_TheWalkFindsTheVictim :
    (∀ w : Quad, (firstUnpinned.ways.get w).isSome = true) ∧
    (∀ w : Quad, ((fourPinned.ways.get w).map (·.pinned)) = some true) ∧
    firstUnpinned.walk = some 0 ∧
    fourPinned.walk = none ∧
    (firstUnpinned.ways.get 0).map (·.pinned) = some false ∧
    firstUnpinned.b0 = true ∧
    firstUnpinned.b1 = true := by
  and_intros <;> decide
theorem witness_AllocationsTakeAWay_invalid :
    roomy.directory[setOf 133].ways.get 1 = none ∧
    (∀ v : Quad, v < 1 → roomy.directory[setOf 133].ways.get v ≠ none) :=
  ⟨by decide, by decide⟩
theorem witness_AllocationsTakeAWay_spill :
    (∀ u : Quad, (withSet firstUnpinned off).directory[setOf 389].ways.get u ≠ none) ∧
    (withSet firstUnpinned off).directory[setOf 389].walk = some 0 ∧
    ((withSet firstUnpinned off).directory[setOf 389].ways.get 0).map (·.dirty) = some true ∧
    (withSet firstUnpinned off).link.notices.length < 16 ∧
    (∀ u : Quad, (withSet firstUnpinned fullQueue).directory[setOf 389].ways.get u ≠ none) ∧
    (withSet firstUnpinned fullQueue).directory[setOf 389].walk = some 0 ∧
    16 ≤ (withSet firstUnpinned fullQueue).link.notices.length := by
  and_intros <;> decide
theorem witness_AllocationsTakeAWay_clean :
    (∀ u : Quad, (withSet { firstUnpinned with ways := firstUnpinned.ways.set 0 (some { admitted 69 with pinned := false, dirty := false }) } off).directory[setOf 389].ways.get u ≠ none) ∧
    (withSet { firstUnpinned with ways := firstUnpinned.ways.set 0 (some { admitted 69 with pinned := false, dirty := false }) } off).directory[setOf 389].walk = some 0 ∧
    ((withSet { firstUnpinned with ways := firstUnpinned.ways.set 0 (some { admitted 69 with pinned := false, dirty := false }) } off).directory[setOf 389].ways.get 0).map (·.dirty) = some false ∧
    lookup roomy 69 = some (0, { admitted 69 with pinned := false }) :=
  ⟨by decide, by decide, by decide, by decide⟩
theorem witness_AllocationsTakeAWay_admitted :
    (133 : RackId) ≠ 0 ∧
    lookup roomy 133 = none ∧
    (∃ w t v, allocate 133 ⟨133, .plate, 0, 0, 0, .track, true, true, true⟩ roomy = .taken w t v) ∧
    lookup (withSet fourPinned off) 325 = none ∧
    (∃ held, allocate 325 ⟨325, .plate, 0, 0, 0, .track, true, true, true⟩ (withSet fourPinned off) = .setFull held) ∧
    lookup (withSet firstUnpinned fullQueue) 325 = none ∧
    (∃ v, allocate 325 ⟨325, .plate, 0, 0, 0, .track, true, true, true⟩ (withSet firstUnpinned fullQueue) = .spillBlocked v) :=
  ⟨by decide, by decide, ⟨_, _, _, rfl⟩, by decide, ⟨_, rfl⟩, by decide, ⟨_, rfl⟩⟩

/-! ### The clean end and return -/

/-- The clean end's head, with so many records in transit. -/
def unload (quarantined : Bool) (k : Nat) : State :=
  ret (fun r => { r with cleanEnd := [⟨rack 520 2400 .short, quarantined⟩], transit := List.replicate k ⟨rack 0 2400 .sanitised, .running 9⟩ }) off
def phantomHead : State := ret (fun r => { r with cleanEnd := [⟨{ rack 0 0 .short with programme := none }, true⟩] }) off
def laneFull : State := ret (fun r => { r with lane := List.replicate 2 (rack 0 9 .short) }) (unload true 0)
theorem witness_CleanRacksAreUnloaded_button :
    off.phase = .running ∧
    off.ret.cleanEnd = [] ∧
    (unload false 11).ret.cleanEnd = ⟨rack 520 2400 .short, false⟩ :: [] ∧
    (unload false 12).ret.cleanEnd = ⟨rack 520 2400 .short, false⟩ :: [] ∧
    (unload true 0).ret.cleanEnd = ⟨rack 520 2400 .short, true⟩ :: [] ∧
    (unload false 11).ret.confirm = false ∧
    (unload false 11).ret.transit.length < 12 ∧
    12 ≤ (unload false 12).ret.transit.length := by
  and_intros <;> decide
theorem witness_CleanRacksAreUnloaded_refused :
    Listening (unload false 0) ∧
    Settled (unload false 0) ∧
    1 < (2 : Byte).toNat ∧
    (1 : Byte).toNat ≤ 1 ∧
    (∀ e ∈ (unload false 0).ret.cleanEnd, e.quarantined = false) ∧
    Listening phantomHead ∧
    Settled phantomHead ∧
    phantomHead.ret.cleanEnd = ⟨{ rack 0 0 .short with programme := none }, true⟩ :: [] ∧
    Listening laneFull ∧
    Settled laneFull ∧
    2 ≤ laneCount laneFull :=
  ⟨by unfold Listening; decide, by unfold Settled NothingDue; decide, by decide, by decide, by decide,
    by unfold Listening; decide, by unfold Settled NothingDue; decide, by decide, by unfold Listening; decide,
    by unfold Settled NothingDue; decide, by decide⟩
theorem witness_CleanRacksAreUnloaded_release :
    Listening (unload true 11) ∧
    (unload true 11).ret.transit.length < 12 ∧
    (rack 520 2400 .short).programme ≠ none ∧
    laneCount (unload true 11) < 2 ∧
    Listening (unload true 12) ∧
    12 ≤ (unload true 12).ret.transit.length :=
  ⟨by unfold Listening; decide, by decide, by decide, by decide, by unfold Listening; decide, by decide⟩
/-- Two records in transit and the spacing timer running. -/
def moving : State := ret (fun r => { r with transit := [⟨rack 7 2400 .sanitised, .running 0⟩, ⟨rack 8 2400 .sanitised, .running 9⟩], spacing := .running 0 }) off
/-- A head that may arrive. -/
def arriving (s : State) : State :=
  { ret (fun r => { r with transit := [⟨rack 610 2400 .sanitised, .expired⟩], spacing := .expired }) s with inputs := ⟨false, false, false, false, true⟩ }
/-- An entry of 610 at the inspect limit; surplus full; no station open; only masks against plates. -/
def atLimit : State := arriving { off with directory := off.directory.set 34 (DirSet.fresh.put 0 ⟨610, .plate, 9, 3, 0, .onReturn, false, false, true⟩) }
def stationsAre (f : StationUnit → StationUnit) (s : State) : State := station 0 f (station 1 f (station 2 f (station 3 f s)))
def closed : State := arriving (stationsAre (fun u => { u with mode := .closed }) off)
def masksPlates : State := arriving (stationsAre (fun u => { u with mask := ⟨false, true, false, false⟩ }) off)
def surplusIs (k : Nat) (s : State) : State := ret (fun r => { r with surplus := List.replicate k ⟨0, .plate⟩ }) s
/-- The tests of an arrival: it may be taken; its counts reach no limit; the committed counts; the stations that are open
and those that take plates. -/
def mayArrive (s : State) (x : Timer) : Bool :=
  x == .expired && s.ret.spacing == .expired && s.inputs.arrival && !s.interlock.live.estop && !s.ret.held
def count (s : State) (n : Quad) : Nat := (s.stations.get n).stack.length + (s.stations.get n).deliveries.length
def opened (s : State) (n : Quad) : Prop :=
  n.val + 1 ≤ s.profile.values.stations ∧ (s.stations.get n).mode = .openMode ∧ count s n < 6
def takes (s : State) (n : Quad) : Prop := opened s n ∧ (s.stations.get n).mask.plate = true
theorem witness_ReturnEventsLetTheHeadArrive :
    moving.phase = .running ∧
    moving.ret.transit[0]? = some ⟨rack 7 2400 .sanitised, .running 0⟩ ∧
    moving.interlock.live.estop = false ∧
    moving.ret.spacing = .running 0 ∧
    estopOpen.phase = .running ∧
    estopOpen.interlock.live.estop = true ∧
    moving.ret.transit ≠ [] ∧
    moving.inputs.arrival = false ∧
    off.ret.transit = [] ∧
    off.inputs.arrival = false ∧
    (arriving off).phase = .running ∧
    (arriving off).inputs.arrival = true := by
  and_intros <;> decide
theorem witness_ArrivalsAreRouted_due :
    atLimit.ret.transit = ⟨rack 610 2400 .sanitised, .expired⟩ :: [] ∧
    mayArrive atLimit .expired = true ∧
    atLimit.ret.confirm = false ∧
    lookup atLimit 610 = some (0, ⟨610, .plate, 9, 3, 0, .onReturn, false, false, true⟩) ∧
    (atLimit.profile.values.inspectLimit ≠ 0 ∧ atLimit.profile.values.inspectLimit ≤ 3) ∧
    mayArrive moving (.running 0) = false ∧
    atLimit.profile.values.retireLimit = 0 ∧
    (ret (fun r => { r with confirm := true }) atLimit).ret.confirm = true ∧
    ([] : List Transit).length < 12 := by
  and_intros <;> decide
theorem witness_ArrivalsAreRouted_station :
    (arriving peak).ret.transit = ⟨rack 610 2400 .sanitised, .expired⟩ :: [] ∧
    mayArrive (arriving peak) .expired = true ∧
    (arriving peak).ret.confirm = false ∧
    lookup (arriving peak) 610 = none ∧
    takes (arriving peak) 0 ∧
    (∀ m, takes (arriving peak) m → count (arriving peak) 0 < count (arriving peak) m ∨ (count (arriving peak) 0 = count (arriving peak) m ∧ 0 ≤ m)) :=
  ⟨by decide, by decide, by decide, by decide, by unfold takes opened; decide, by unfold takes opened; decide⟩
theorem witness_ArrivalsAreRouted_surplus :
    (surplusIs 7 closed).ret.transit = ⟨rack 610 2400 .sanitised, .expired⟩ :: [] ∧
    mayArrive (surplusIs 7 closed) .expired = true ∧
    (surplusIs 7 closed).ret.confirm = false ∧
    lookup (surplusIs 7 closed) 610 = none ∧
    (∀ n, ¬ takes (surplusIs 7 closed) n) ∧
    (surplusIs 7 closed).ret.surplus.length < 8 ∧
    (∀ n, ¬ opened (surplusIs 7 closed) n) :=
  ⟨by decide, by decide, by decide, by decide, by unfold takes opened; decide, by decide, by unfold opened; decide⟩
theorem witness_ArrivalsAreRouted_feed :
    masksPlates.ret.transit = ⟨rack 610 2400 .sanitised, .expired⟩ :: [] ∧
    mayArrive masksPlates .expired = true ∧
    masksPlates.ret.confirm = false ∧
    lookup masksPlates 610 = none ∧
    (∀ n, ¬ takes masksPlates n) ∧
    masksPlates.ret.surplus.length < 8 ∧
    opened masksPlates 0 ∧
    (∀ m, opened masksPlates m → count masksPlates 0 < count masksPlates m ∨ (count masksPlates 0 = count masksPlates m ∧ 0 ≤ m)) :=
  ⟨by decide, by decide, by decide, by decide, by unfold takes opened; decide, by decide, by unfold opened; decide, by unfold opened; decide⟩
theorem witness_ArrivalsAreRouted_held :
    (surplusIs 8 masksPlates).ret.transit = ⟨rack 610 2400 .sanitised, .expired⟩ :: [] ∧
    mayArrive (surplusIs 8 masksPlates) .expired = true ∧
    (surplusIs 8 masksPlates).ret.confirm = false ∧
    lookup (surplusIs 8 masksPlates) 610 = none ∧
    (∀ n, ¬ takes (surplusIs 8 masksPlates) n) ∧
    8 ≤ (surplusIs 8 masksPlates).ret.surplus.length :=
  ⟨by decide, by decide, by decide, by decide, by unfold takes opened; decide, by decide⟩
theorem witness_PromptsFeedAndRetry_feed :
    estopOpen.interlock.live.estop = true ∧
    off.interlock.live.estop = false ∧
    off.ret.held = false ∧
    off.ret.surplus = [] ∧
    closed.ret.held = false ∧
    (∀ n, ¬ opened closed n) ∧
    (surplusIs 1 off).ret.surplus = ⟨0, .plate⟩ :: [] ∧
    opened (surplusIs 1 off) 0 ∧
    (∀ m, opened (surplusIs 1 off) m → count (surplusIs 1 off) 0 < count (surplusIs 1 off) m ∨ (count (surplusIs 1 off) 0 = count (surplusIs 1 off) m ∧ 0 ≤ m)) :=
  ⟨by decide, by decide, by decide, by decide, by decide, by unfold opened; decide, by decide, by unfold opened; decide, by unfold opened; decide⟩
theorem witness_PromptsFeedAndRetry_retry :
    (ret (fun r => { r with held := true }) (surplusIs 8 closed)).interlock.live.estop = false ∧
    (ret (fun r => { r with held := true }) (surplusIs 8 closed)).ret.held = true ∧
    (ret (fun r => { r with held := true }) (surplusIs 8 closed)).ret.transit = ⟨rack 610 2400 .sanitised, .expired⟩ :: [] ∧
    (∀ n, ¬ opened (ret (fun r => { r with held := true }) (surplusIs 8 closed)) n) ∧
    8 ≤ (ret (fun r => { r with held := true }) (surplusIs 8 closed)).ret.surplus.length ∧
    (ret (fun r => { r with held := true }) (surplusIs 7 closed)).ret.held = true ∧
    (ret (fun r => { r with held := true }) (surplusIs 7 closed)).ret.transit = ⟨rack 610 2400 .sanitised, .expired⟩ :: [] ∧
    (∀ n, ¬ opened (ret (fun r => { r with held := true }) (surplusIs 7 closed)) n) ∧
    (ret (fun r => { r with held := true }) (surplusIs 7 closed)).ret.surplus.length < 8 ∧
    (ret (fun r => { r with held := true }) (surplusIs 7 closed)).ret.confirm = false :=
  ⟨by decide, by decide, by decide, by unfold opened; decide, by decide, by decide, by decide, by unfold opened; decide, by decide, by decide⟩
theorem witness_PromptsFeedAndRetry_taken :
    (ret (fun r => { r with held := true, confirm := true }) (arriving peak)).ret.held = true ∧
    (ret (fun r => { r with held := true, confirm := true }) (arriving peak)).ret.transit = ⟨rack 610 2400 .sanitised, .expired⟩ :: [] ∧
    ([] : List Transit).length < 12 ∧
    takes (ret (fun r => { r with held := true, confirm := true }) (arriving peak)) 0 ∧
    (∀ m, takes (ret (fun r => { r with held := true, confirm := true }) (arriving peak)) m → count (ret (fun r => { r with held := true, confirm := true }) (arriving peak)) 0 < count (ret (fun r => { r with held := true, confirm := true }) (arriving peak)) m ∨ (count (ret (fun r => { r with held := true, confirm := true }) (arriving peak)) 0 = count (ret (fun r => { r with held := true, confirm := true }) (arriving peak)) m ∧ 0 ≤ m)) :=
  ⟨by decide, by decide, by decide, by unfold takes opened; decide, by unfold takes opened; decide⟩
theorem witness_PromptsFeedAndRetry_room :
    (ret (fun r => { r with held := true }) (surplusIs 8 masksPlates)).ret.held = true ∧
    (ret (fun r => { r with held := true }) (surplusIs 8 masksPlates)).ret.transit = ⟨rack 610 2400 .sanitised, .expired⟩ :: [] ∧
    (∀ n, ¬ takes (ret (fun r => { r with held := true }) (surplusIs 8 masksPlates)) n) ∧
    (ret (fun r => { r with held := true }) (surplusIs 8 masksPlates)).ret.surplus = ⟨0, .plate⟩ :: List.replicate 7 ⟨0, .plate⟩ ∧
    (List.replicate 7 (⟨0, .plate⟩ : RackEntry)).length = 7 ∧
    opened (ret (fun r => { r with held := true }) (surplusIs 8 masksPlates)) 0 ∧
    (∀ m, opened (ret (fun r => { r with held := true }) (surplusIs 8 masksPlates)) m → count (ret (fun r => { r with held := true }) (surplusIs 8 masksPlates)) 0 < count (ret (fun r => { r with held := true }) (surplusIs 8 masksPlates)) m ∨ (count (ret (fun r => { r with held := true }) (surplusIs 8 masksPlates)) 0 = count (ret (fun r => { r with held := true }) (surplusIs 8 masksPlates)) m ∧ 0 ≤ m)) :=
  ⟨by decide, by decide, by unfold takes opened; decide, by decide, by decide, by unfold opened; decide, by unfold opened; decide⟩

/-! ### Resets and start-up -/

/-- The reply to a RESTART is being sent. -/
def restarting (k : ResetKind) : State := link (fun l => { l with transmitter := .reply, reply := some ⟨0x84, .ok, .restart k⟩ }) off
/-- Held by the warm line; held with the cold line as well. -/
def heldWarm : State := { off with phase := .held, warmLine := true, resetKind := .warm }
theorem witness_ColdResetsStartAfresh_lines :
    off.coldLine = false ∧
    off.warmLine = false ∧
    heldPart.coldLine = true ∧
    off.phase ≠ .noSupply ∧
    unsupplied.phase = .noSupply ∧
    heldWarm.warmLine = true := by
  and_intros <;> decide
theorem witness_ColdResetsStartAfresh_request :
    (restarting .cold).linkWorks = true ∧
    (restarting .cold).coldLine = false ∧
    (restarting .cold).warmLine = false ∧
    (restarting .cold).link.transmitter = .reply ∧
    (restarting .cold).link.reply = some ⟨0x84, .ok, .restart .cold⟩ := by
  and_intros <;> decide
theorem witness_ColdResetsStartAfresh_release :
    heldPart.phase = .held ∧
    heldPart.warmLine = false ∧
    heldPart.resetKind ≠ .warm ∧
    heldWarm.phase = .held ∧
    heldWarm.coldLine = false ∧
    heldWarm.resetKind = .warm ∧
    ({ heldPart with warmLine := true } : State).warmLine ≠ false := by
  and_intros <;> decide
theorem witness_WarmResetsKeepTheRecords_line :
    off.warmLine = false ∧
    off.coldLine = false ∧
    off.phase = .running ∧
    settling.warmLine = false ∧
    settling.coldLine = false ∧
    settling.phase ≠ .running ∧
    settling.phase ≠ .noSupply ∧
    settling.resetKind ≠ .warm ∧
    ({ settling with resetKind := .warm } : State).resetKind = .warm ∧
    heldPart.coldLine = true := by
  and_intros <;> decide
theorem witness_WarmResetsKeepTheRecords_request :
    (restarting .warm).phase = .running ∧
    (restarting .warm).coldLine = false ∧
    (restarting .warm).warmLine = false ∧
    (restarting .warm).link.transmitter = .reply ∧
    (restarting .warm).link.reply = some ⟨0x84, .ok, .restart .warm⟩ := by
  and_intros <;> decide
theorem witness_ProfilesAreCheckedAndClamped_length :
    defaultImage.length = 64 ∧
    outOfRange.length = 64 ∧
    (defaultImage.set 45 0x72).length = 64 ∧
    State.reset.phase = .profileRead ∧
    off.phase ≠ .profileRead := by
  and_intros <;> decide
theorem witness_ProfilesAreCheckedAndClamped_sound :
    ((List.range 62).map (fun i => (defaultImage.getD i 0xFF#8).toNat)).sum = 0x09FB ∧
    ((List.range 62).map (fun i => (outOfRange.getD i 0xFF#8).toNat)).sum = 0x0AAE ∧
    ((List.range 62).map (fun i => ((defaultImage.set 45 0x72).getD i 0xFF#8).toNat)).sum ≠ 0x09FB ∧
    imageInRange defaultImage = true ∧
    imageInRange outOfRange = false :=
  ⟨by decide, by decide, by decide, by decide +kernel, by decide +kernel⟩
/-- The settling stage of a warm start-up from a given state. -/
def warmly (s : State) : State := { s with phase := .settling, resetKind := .warm }
/-- It carries a motion with records in the track; an interrupted transfer of each requester; a jam; a held head. -/
def carriesMotion : State := warmly (track (fun t => { t with
  motion := .interrupted, extension := .expired,
  positions := (t.positions.set 15 (some (rack 8 2400 .sanitised))).set 16 (some { rack 9 2400 .short with destination := some .rewash }) }) estopInput)
where estopInput : State := { off with inputs := { off.inputs with estopOpen := true } }
def carries (st : MergeState) (g : Grant) (s : State) : State :=
  warmly (merge (fun m => { m with state := st, grant := some g, pusher := none, timer := .idle }) s)
def carriesSpur (st : MergeState) : State := carries st (.spur 1 190 .plate snap) (spurHead true false carriesMotion.estopInput)
def carriesRewash : State := carries .interrupted (.rewash (rack 9 9 .short)) (ret (fun r => { r with lane := [rack 9 9 .short] }) off)
def carriesHeld : State :=
  warmly (ret (fun r => { r with held := true }) (surplusIs 8 (arriving (stationsAre (fun u => { u with mode := .closed }) off))))
/-- The start-up has nothing waiting, and the track is at rest. -/
def resting (s : State) : Bool :=
  s.phase == .settling && s.track.state == .off && !s.track.runEnable && s.link.notices.isEmpty &&
    (s.track.motion == .none || s.merge.state == .idle)
theorem witness_StartUpEndsForEveryBlock :
    off.phase ≠ .settling ∧
    resting settling = true ∧
    resting (warmly off) = true ∧
    settling.resetKind ≠ .warm ∧
    (warmly off).resetKind = .warm ∧
    settling.link.mask.getLsbD 1 = true ∧
    (settling.stations.get 0).spur = [] := by
  and_intros <;> decide
theorem witness_WarmStartUpsResumeTheRecords_motion :
    resting carriesMotion = true ∧
    carriesMotion.resetKind = .warm ∧
    carriesMotion.track.motion ≠ .none ∧
    allMade.index = true ∧
    plantAtRest.index = false ∧
    plantAtRest.exitEye = false ∧
    carriesMotion.track.extension ≠ .idle ∧
    carriesMotion.track.positions[15] = some (rack 8 2400 .sanitised) ∧
    carriesMotion.inputs.estopOpen = true ∧
    (∀ n, plantAtRest.spurHead.get n = false) ∧
    carriesMotion.link.mask.getLsbD 2 = true ∧
    carriesMotion.link.mask.getLsbD 7 = true := by
  and_intros <;> decide
theorem witness_WarmStartUpsResumeTheRecords_interrupted :
    resting (carriesSpur .interrupted) = true ∧
    (carriesSpur .interrupted).resetKind = .warm ∧
    (carriesSpur .interrupted).merge.state = .interrupted ∧
    (carriesSpur .interrupted).merge.grant = some (.spur 1 190 .plate snap) ∧
    plantAtRest.position0 = false ∧
    allMade.position0 = true ∧
    (carriesSpur .interrupted).merge.tags = [] ∧
    holderOf 1 190 (carriesSpur .interrupted) = none ∧
    (carriesSpur .interrupted).inputs.estopOpen = true := by
  and_intros <;> decide
theorem witness_WarmStartUpsResumeTheRecords_jammed :
    resting (carriesSpur .jammed) = true ∧
    (carriesSpur .jammed).resetKind = .warm ∧
    (carriesSpur .jammed).merge.state = .jammed ∧
    (carriesSpur .jammed).merge.grant = some (.spur 1 190 .plate snap) ∧
    plantAtRest.position0 = false ∧
    allMade.position0 = true ∧
    (carriesSpur .jammed).merge.tags = [] ∧
    holderOf 1 190 (carriesSpur .jammed) = none ∧
    (carriesSpur .jammed).inputs.estopOpen = true := by
  and_intros <;> decide
theorem witness_WarmStartUpsResumeTheRecords_rewash :
    resting carriesRewash = true ∧
    carriesRewash.resetKind = .warm ∧
    carriesRewash.merge.state ≠ .idle ∧
    carriesRewash.merge.grant = some (.rewash (rack 9 9 .short)) ∧
    carriesRewash.ret.lane = rack 9 9 .short :: [] ∧
    allMade.position0 = true := by
  and_intros <;> decide
theorem witness_WarmStartUpsResumeTheRecords_held :
    resting carriesHeld = true ∧
    carriesHeld.resetKind = .warm ∧
    carriesHeld.link.mask.getLsbD 8 = true ∧
    after (exec (.endOfStartUp plantAtRest) carriesHeld) (fun t => (t.ret.held, t.ret.transit)) = some (true, [⟨rack 610 2400 .sanitised, .running 4000⟩]) :=
  ⟨by decide, by decide, by decide, by decide +kernel⟩

/-! ### The invariants: a state other than the one after reset that meets them, and a step from it -/

/-- The rack of `inPass`. -/
def passing : TrackRecord := { rack 69 0 .none with tracked := true }
/-- A rack of programme 1 in its pass, in READY, with its entry pinned; a request waits. -/
def inPass : State :=
  { withSet (DirSet.fresh.put 0 (admitted 69))
      (track (fun t => { t with stepDue := false, positions := t.positions.set 5 (some passing) }) ready) with
    pending := [.run allMade] }

theorem inPass_positions :
    ∀ i : Fin 17, inPass.track.positions[i] = none ∨ (i = 5 ∧ inPass.track.positions[i] = some passing) := by
  decide
theorem inPass_record (i : Fin 17) (r : TrackRecord) (h : inPass.track.positions[i] = some r) : i = 5 ∧ r = passing := by
  rcases inPass_positions i with e | ⟨e, p⟩
  · rw [e] at h; cases h
  · exact ⟨e, (Option.some.inj (p.symm.trans h)).symm⟩
theorem inPass_steps : ∃ t, step inPass = .next t := ⟨_, rfl⟩
theorem inPass_ids : heldIds inPass = [69] := by decide
theorem inPass_kept : keptRecords inPass = [passing] := by decide
theorem inPass_directory (i : Fin 64) :
    inPass.directory[i] = if i = 5 then DirSet.fresh.put 0 (admitted 69) else DirSet.fresh := by
  revert i; decide

theorem witness_MovingPartsStayConsistent : Moving inPass := by
  refine ⟨by unfold RecordsConsistent; decide, fun _ => ⟨?_, ?_⟩, fun h => absurd rfl h⟩
  · unfold DrivesConsistent; decide
  · unfold MarksConsistent
    and_intros <;> decide
theorem witness_TheSanitationLockIsSound : LockSound inPass :=
  ⟨by decide, by decide, fun h => absurd h (by decide)⟩
theorem witness_NothingIsLeftToFollow : Settled inPass := by unfold Settled NothingDue; decide
theorem inPass_places : Places inPass := by
  refine ⟨⟨fun i _ r h => ?_, fun r h => ?_, fun r h => ?_, fun e h => ?_⟩, ?_⟩
  · obtain ⟨_, rfl⟩ := inPass_record i r h; rfl
  · cases h
  · cases h
  · cases h
  · unfold WithinPlaces; decide
theorem inPass_inRange : CountsInRange inPass := by
  refine ⟨fun i r h => ?_, fun r h => ?_, fun e h => ?_, fun t h => ?_, by decide, by decide, by decide, by decide⟩
  · obtain ⟨_, rfl⟩ := inPass_record i r h; exact ⟨by decide, by decide⟩
  · cases h
  · cases h
  · cases h
theorem witness_QueuesAndCountsStayInRange : Places inPass ∧ CountsInRange inPass := ⟨inPass_places, inPass_inRange⟩
theorem witness_NoRackIdIsHeldTwice : IdsDistinct inPass :=
  ⟨by rw [inPass_ids]; decide, trivial⟩
theorem witness_TrackedRecordsStayPinned : Tracked inPass := by
  refine ⟨witness_NoRackIdIsHeldTwice, fun i => ?_, fun r h _ => ?_⟩
  · rw [inPass_directory i]
    split
    · subst i
      constructor
      · intro w e h
        have hw : ∀ w : Quad, (DirSet.fresh.put 0 (admitted 69)).ways.get w = none ∨
          (DirSet.fresh.put 0 (admitted 69)).ways.get w = some (admitted 69) := by decide
        rcases hw w with x | x <;> rw [x] at h
        · cases h
        · obtain rfl := Option.some.inj h; decide
      · intro v w e f hv hw _
        have hx : ∀ w : Quad, (DirSet.fresh.put 0 (admitted 69)).ways.get w = none ∨ w = 0 := by decide
        rcases hx v with x | x <;> rcases hx w with y | y
        · rw [x] at hv; cases hv
        · rw [x] at hv; cases hv
        · rw [y] at hw; cases hw
        · rw [x, y]
    · have hn : ∀ w : Quad, DirSet.fresh.ways.get w = none := by decide
      exact ⟨fun w e h => (by rw [hn w] at h; cases h), fun v w e f h _ _ => (by rw [hn v] at h; cases h)⟩
  · rw [inPass_kept] at h
    obtain rfl := List.mem_singleton.mp h
    exact ⟨by decide, 0, admitted 69, by decide +kernel, rfl⟩

end Sys2Proof.Tests
end

section
namespace Sys2Proof.Machine
open Sys2Proof

/-! ### The track state and the parts a change of it leaves alone -/

@[simp] theorem enterState_track (st : TrackState) (s : State) :
    (enterState st s).track = { s.track with state := st } := by
  unfold enterState
  dsimp only
  split <;> simp

/-- A change of state that R28 notifies queues the STATE notice of the new state. -/
theorem enterState_notified {st : TrackState} {s : State} (h : stateNotified s.track.state st = true) :
    enterState st s = withStateNotice { s with track := { s.track with state := st } } := by
  simp [enterState, withStateNotice, h]

@[simp] theorem latch_interlock (c : LatchCause) (s : State) :
    (latch c s).interlock = { s.interlock with
      snapshot := s.interlock.live, latched := true, count := s.interlock.count + 1, cause := c } := by
  simp [latch]

@[simp] theorem reportChange_live (s : State) : (reportChange s).interlock.live = s.interlock.live := by
  unfold reportChange
  split <;> simp

@[simp] theorem setJam_live (v : Bool) (s : State) :
    (setJam v s).interlock.live = { s.interlock.live with jam := v } := by
  unfold setJam
  split
  · next h => rw [← eq_of_beq h]
  · simp

/-! ### The records of the track -/

/-- Replacing the record at a position by what a function makes of it. -/
theorem set_map_of_none {n : Nat} (v : Vector (Option TrackRecord) n) (i : Nat) (h : i < n) (f : TrackRecord → TrackRecord)
    (hv : v[i] = none) : v.set i (v[i].map f) = v := by
  rw [hv, Option.map_none, ← hv, Vector.set_getElem_self]

theorem reserveExit_track (s : State) :
    (reserveExit s).track = { s.track with
      positions := s.track.positions.set 16 (s.track.positions[16].map fun r => { r with destination := exitRoute s r }) } := by
  unfold reserveExit Track.x
  split
  · next r h => rw [h]; rfl
  · next h => rw [set_map_of_none _ _ _ _ h]

/-- The record at F2 after its verdict has been fixed (R14). -/
def judged (r : TrackRecord) : TrackRecord := { r with verdict := verdictOf r, leaving := true }

theorem fixVerdict_track (s : State) :
    (fixVerdict s).track = { s.track with positions := s.track.positions.set 12 (s.track.positions[12].map judged) } := by
  unfold fixVerdict Track.f2
  split
  · next h => rw [set_map_of_none _ _ _ _ h]
  · next r h =>
    rw [h]
    dsimp only
    split <;> split <;> simp [judged]

/-- The records once a due step has started: X has its destination, F2 its verdict (R14). -/
def startedRecords (s : State) : Vector (Option TrackRecord) 17 :=
  (s.track.positions.set 16 (s.track.positions[16].map fun r => { r with destination := exitRoute s r })).set 12
    (s.track.positions[12].map judged)

theorem startedRecords_getElem (s : State) (i : Nat) (h : i < 17) :
    (startedRecords s)[i] = if i = 12 then s.track.positions[12].map judged
      else if i = 16 then s.track.positions[16].map fun r => { r with destination := exitRoute s r }
      else s.track.positions[i] := by
  simp only [startedRecords, Vector.getElem_set, eq_comm (b := i)]

/-- The whole track after a due step has started (R14). -/
theorem stepStart_track (s : State) :
    (stepStart s).track = { s.track with
      positions := startedRecords s, holds := .empty, stepDue := false, extension := .idle,
      state := if s.track.state = .purging then .purging else .stepping, motion := .inFlight, chainDrive := true,
      rewashGate := s.track.rewashGate || (s.track.positions[16].bind (exitRoute s) == some .rewash),
      motionTimer := .preset (seconds s.profile.values.motionLimit) } := by
  have hx : (startedRecords s)[16].bind (·.destination) = s.track.positions[16].bind (exitRoute s) := by
    rw [startedRecords_getElem]
    cases s.track.positions[16] <;> rfl
  have hp : (fixVerdict (reserveExit s)).track = { s.track with positions := startedRecords s } := by
    rw [fixVerdict_track, reserveExit_track]
    simp [startedRecords]
  simp only [stepStart, runDrive, State.reservation, Track.x, hp, hx]
  simp

/-! ### The due evaluation -/

@[simp] theorem startExtension_track (s : State) :
    (startExtension s).track = { s.track with
      extension := if f2Below s && s.track.extension == .idle then
        extensionPreset (((s.track.f2.bind (·.programme)).map (·.limit)).getD 0) else s.track.extension } := by
  unfold startExtension
  split <;> rfl


/-- The state with another extension timer. -/
def withExtension (e : Timer) (s : State) : State := { s with track := { s.track with extension := e } }

/-- The state with the track in HOLD for these reasons. -/
def heldFor (h : Holds) (s : State) : State := { s with track := { s.track with state := .hold, holds := h } }

/-- Everything a due evaluation can do (R7, R9, R26). -/
inductive DueOutcome (s : State) : State → Prop where
  | nothing : DueOutcome s s
  | blocked (e : Timer) : s.track.state = .ready ∨ s.track.state = .hold → chainsClosed s = false →
      DueOutcome s (withExtension e s)
  | starts (e : Timer) : s.track.state = .ready ∨ s.track.state = .hold → chainsClosed s = true →
      s.merge.state = .idle → DueOutcome s (stepStart (withExtension e s))
  | held (e : Timer) (h : Holds) : s.track.state = .ready ∨ s.track.state = .hold →
      DueOutcome s (heldFor h (withExtension e s))
  | purges : s.track.state = .purging → s.track.motion = .none → chainsClosed s = true → DueOutcome s (stepStart s)
  | purgeHeld (h : Holds) : s.track.state = .purging →
      DueOutcome s { s with track := { s.track with holds := h } }

theorem startExtension_eq (s : State) : ∃ e, startExtension s = withExtension e s := by
  unfold startExtension withExtension
  split
  · exact ⟨_, rfl⟩
  · exact ⟨s.track.extension, rfl⟩

theorem evaluate_outcome {s : State} (h : s.track.state = .ready ∨ s.track.state = .hold) :
    DueOutcome s (evaluate s) := by
  obtain ⟨e, he⟩ := startExtension_eq s
  unfold evaluate
  simp only [he]
  split
  · next hq =>
    have hm : s.merge.state = .idle := by
      have := congrArg Holds.transfer hq
      simpa [holdsNow, transferInFlight, Holds.empty, withExtension] using this
    split
    · next hc => exact .starts e h hc hm
    · next hc => exact .blocked e h (by simpa [chainsClosed, withExtension] using hc)
  · exact .held e _ h

theorem dueEvaluation_outcome (s : State) : DueOutcome s (dueEvaluation s) := by
  unfold dueEvaluation
  split
  · next h =>
    split
    · exact evaluate_outcome (.inl h)
    · exact .nothing
  · next h => exact evaluate_outcome (.inr h)
  · next h =>
    split
    · next hm =>
      simp only [Bool.and_eq_true, beq_iff_eq] at hm
      unfold purgeStep
      split
      · exact .nothing
      · next hc =>
        split
        · exact .purges h hm.2 (by simpa using hc)
        · exact .purgeHeld _ h
    · exact .nothing
  · exact .nothing

/-- The track states in which a due evaluation may be made (R7, R9, R26). -/
def TrackState.evaluates : TrackState → Bool
  | .ready | .hold | .purging => true
  | _ => false

/-- In the other states a due evaluation changes nothing. -/
theorem dueEvaluation_of_not_evaluates {s : State} (h : s.track.state.evaluates = false) : dueEvaluation s = s := by
  unfold dueEvaluation
  split <;> simp_all [TrackState.evaluates]

/-! ### The completion of a motion -/

theorem shiftRecords_getElem (v : Vector (Option TrackRecord) 17) (i : Nat) (h : i < 17) :
    (shiftRecords v)[i] = if i = 0 then none else v[i - 1] := by
  unfold shiftRecords
  cases i with
  | zero => simp
  | succ i => simp

/-- What stands at X after the exit-eye check, from the record that has come there and the eye (R18, R19). -/
def checkedAtX (r : Option TrackRecord) (eye : Bool) : Option TrackRecord :=
  if eye then some (r.getD phantom) else none

theorem exitEyeCheck_track (s : State) :
    (exitEyeCheck s).track = { s.track with
      positions := s.track.positions.set 16 (checkedAtX s.track.positions[16] s.plant.exitEye) } := by
  have same {o : Option TrackRecord} (h : s.track.positions[16] = o) : s.track.positions.set 16 o = s.track.positions := by
    rw [← h, Vector.set_getElem_self]
  unfold exitEyeCheck Track.x checkedAtX
  split
  · next r hr he =>
    dsimp only
    split <;> simp [he]
  · next hr he => simp [hr, he]
  · next h1 h2 =>
    cases hx : s.track.positions[16] <;> cases he : s.plant.exitEye
    · simp [same hx]
    · exact absurd he (h2 hx)
    · exact absurd he (h1 _ hx)
    · simp [same hx]

/-- The records once a motion has completed: each one position on, D1 without its leaving mark, X checked (R15, R18,
R19). -/
def movedRecords (v : Vector (Option TrackRecord) 17) (eye : Bool) : Vector (Option TrackRecord) 17 :=
  ((shiftRecords v).set 13 (v[12].map fun r => { r with leaving := false })).set 16 (checkedAtX v[15] eye)

theorem movedRecords_getElem (v : Vector (Option TrackRecord) 17) (eye : Bool) (i : Nat) (h : i < 17) :
    (movedRecords v eye)[i] = if i = 16 then checkedAtX v[15] eye
      else if i = 13 then v[12].map fun r => { r with leaving := false }
      else if i = 0 then none else v[i - 1] := by
  simp only [movedRecords, Vector.getElem_set, shiftRecords_getElem, eq_comm (b := i)]

theorem clearLeaving_track (s : State) :
    (clearLeaving s).track = { s.track with
      positions := s.track.positions.set 13 (s.track.positions[13].map fun r => { r with leaving := false }) } := by
  unfold clearLeaving
  split
  · next r h => rw [h]; rfl
  · next h => rw [set_map_of_none _ _ _ _ h]

/-- The period a state's records and programmes fix rests on the positions 2 to 12 and the programmes (R6). -/
theorem periodOf_congr {s t : State} (hp : ∀ (i : Nat) (h : i < 17), 2 ≤ i → i ≤ 12 → s.track.positions[i] = t.track.positions[i])
    (ht : s.programmes = t.programmes) : periodOf s = periodOf t := by
  have hd : s.track.divisors = t.track.divisors := by
    unfold Track.divisors
    congr 1
    apply List.ext_getElem
    · simp
    · intro i h1 h2
      simp only [List.length_take, List.length_drop, Vector.length_toList] at h1
      simpa using hp (2 + i) (by omega) (by omega) (by omega)
  simp only [periodOf, hd, defaultDivisor, ht]

/-- A completed motion just before its period is fixed: the X record handed over, the others one position on (R15). -/
def afterShift (s : State) : State :=
  clearLeaving { handOver (endMotion s) with track := { (handOver (endMotion s)).track with
    positions := shiftRecords (handOver (endMotion s)).track.positions, stepDue := false } }

theorem afterShift_track (s : State) :
    (afterShift s).track = { s.track with
      positions := (shiftRecords s.track.positions).set 13 (s.track.positions[12].map fun r => { r with leaving := false }),
      chainDrive := false, rewashGate := false, motionTimer := .idle, motion := .none, stepDue := false } := by
  simp [afterShift, clearLeaving_track, shiftRecords_getElem, endMotion]

theorem completeMotion_eq (s : State) : completeMotion s = exitEyeCheck (fixPeriod (afterShift s)) := rfl

/-- The whole track after a completed motion (R15, R17). -/
theorem completeMotion_track (s : State) :
    (completeMotion s).track = { s.track with
      positions := movedRecords s.track.positions s.plant.exitEye, chainDrive := false, rewashGate := false,
      motionTimer := .idle, motion := .none, stepDue := false, period := periodOf (completeMotion s),
      stepTimer := .preset (periodOf (completeMotion s) * 10) } := by
  have hpl : (afterShift s).plant = s.plant := by simp [afterShift]
  have key : (completeMotion s).track = { s.track with
      positions := movedRecords s.track.positions s.plant.exitEye, chainDrive := false, rewashGate := false,
      motionTimer := .idle, motion := .none, stepDue := false, period := periodOf (afterShift s),
      stepTimer := .preset (periodOf (afterShift s) * 10) } := by
    rw [completeMotion_eq, exitEyeCheck_track]
    simp [fixPeriod, hpl, afterShift_track, movedRecords, shiftRecords_getElem]
  have hperiod : periodOf (afterShift s) = periodOf (completeMotion s) := by
    refine periodOf_congr (fun i h _ h12 => ?_) (by simp [afterShift])
    have h13 : i ≠ 13 := by omega
    have h16 : i ≠ 16 := by omega
    simp only [key, afterShift_track, movedRecords_getElem, Vector.getElem_set, shiftRecords_getElem, if_neg h13,
      if_neg h13.symm, if_neg h16]
  rw [key, hperiod]

/-- The queues after the X record has been handed over: it joins the one its destination names, its destination cleared
(R16). -/
def handedRet (s : State) : Return :=
  match s.track.positions[16] with
  | none => s.ret
  | some r => match r.destination with
    | none => s.ret
    | some .clean => { s.ret with cleanEnd := s.ret.cleanEnd ++ [⟨{ r with destination := none }, false⟩] }
    | some .quarantine => { s.ret with cleanEnd := s.ret.cleanEnd ++ [⟨{ r with destination := none }, true⟩] }
    | some .rewash => { s.ret with lane := s.ret.lane ++ [{ r with destination := none }] }

theorem handOver_ret (s : State) : (handOver s).ret = handedRet s := by
  unfold handOver handedRet Track.x
  cases s.track.positions[16] with
  | none => rfl
  | some r =>
    dsimp only
    cases r.destination with
    | none => rfl
    | some d => cases d <;> (dsimp only; split <;> simp)

theorem completeMotion_ret (s : State) : (completeMotion s).ret = handedRet s := by
  simp [completeMotion_eq, fixPeriod, afterShift, handOver_ret, handedRet, endMotion]

/-! ### The opening of a chain -/

@[simp] theorem interruptMotion_track (s : State) :
    (interruptMotion s).track = { s.track with
      motion := if s.track.motion = .inFlight then .interrupted else s.track.motion,
      chainDrive := if s.track.motion = .inFlight then false else s.track.chainDrive,
      motionTimer := if s.track.motion = .inFlight then .idle else s.track.motionTimer } := by
  unfold interruptMotion
  split <;> rfl

/-- The whole track after the opening of a chain (R21, R166). -/
theorem trackOpening_track (s : State) :
    (trackOpening s).track = { s.track with
      state := if s.track.state.active then .stopped else s.track.state,
      motion := if s.track.state.active ∧ s.track.state ≠ .recovery ∧ s.track.motion = .inFlight then .interrupted
        else s.track.motion,
      chainDrive := if s.track.state.active ∧ s.track.state ≠ .recovery ∧ s.track.motion = .inFlight then false
        else s.track.chainDrive,
      motionTimer := if s.track.state.active ∧ s.track.state ≠ .recovery ∧ s.track.motion = .inFlight then .idle
        else s.track.motionTimer,
      holds := if s.track.state.active ∧ s.track.state ≠ .recovery then .empty else s.track.holds,
      purgeCount := if s.track.state = .purging then 0 else s.track.purgeCount,
      recoveryPending := s.track.recoveryPending || s.track.state == .recovery } := by
  unfold trackOpening
  cases h : s.track.state <;> simp [h, TrackState.active, stopRecoveryTimers, beq_eq_decide]
  all_goals rw [← h]

end Sys2Proof.Machine
end

section
namespace Sys2Proof.Machine
open Sys2Proof

/-! ### What a due evaluation keeps, the return keeps -/

/-- The property rests on the track, the merge and the interlock group alone, and a due evaluation keeps it. -/
structure KeptByEvaluation (P : State → Prop) : Prop where
  congr : ∀ {s t : State}, P s → (track : t.track = s.track := by simp) → (merge : t.merge = s.merge := by simp) →
    (interlock : t.interlock = s.interlock := by simp) → P t
  evaluation : ∀ {s : State}, P s → P (dueEvaluation s)

namespace KeptByEvaluation
variable {P : State → Prop} (k : KeptByEvaluation P) {s : State}
include k

theorem completeConfirm (h : P s) : P (completeConfirm s) := by
  unfold Machine.completeConfirm
  split
  · exact h
  · exact k.evaluation (k.congr h)

theorem confirmOldest (h : P s) : P (confirmOldest s) := by
  unfold Machine.confirmOldest
  split
  · exact k.completeConfirm h
  · exact k.congr h

theorem pressUnload (h : P s) : P (pressUnload s) := by
  unfold Machine.pressUnload
  split
  · exact h
  · split
    · exact h
    · exact k.confirmOldest h

theorem completePending (h : P s) : P (completePending s) := by
  unfold Machine.completePending
  split
  · exact k.completeConfirm h
  · exact h

theorem offerFeed (h : P s) : P (offerFeed s).1 := k.congr h

theorem placeRack (r : TrackRecord) (route : Route) (h : P s) : P (placeRack r route s) :=
  k.congr h

theorem leaveTransit (h : P s) : P (leaveTransit s) := k.congr h

theorem routeHead (r : TrackRecord) (route : Route) (h : P s) : P (routeHead r route s) :=
  k.completePending (k.placeRack r route (k.leaveTransit h))

theorem routeHeld (r : TrackRecord) (route : Route) (h : P s) : P (routeHeld r route s) :=
  k.placeRack r route (k.completePending (k.leaveTransit h))

theorem inspectHead (r : TrackRecord) (e : DirEntry) (q : RetireTest) (h : P s) : P (inspectHead r e q s) :=
  k.completePending (k.congr h)

theorem arrive (r : TrackRecord) (h : P s) : P (arrive r s) := by
  have hl : P (routerLookup r.id s).1 := k.congr h
  unfold Machine.arrive
  dsimp only
  split
  · exact k.inspectHead r _ _ hl
  · split
    · exact k.offerFeed (k.routeHead r _ hl)
    · exact k.routeHead r _ hl
    · exact k.congr hl

theorem tryArrival (h : P s) : P (tryArrival s) := by
  unfold Machine.tryArrival
  split
  · split
    · exact k.arrive _ h
    · exact h
  · exact h

theorem retryHeld (h : P s) : P (retryHeld s) := by
  unfold Machine.retryHeld
  split
  · split
    · exact k.routeHeld _ _ h
    · exact h
  · exact h

theorem prompt (h : P s) : P (prompt s) := by
  have hf := k.offerFeed (k.retryHeld h)
  unfold Machine.prompt
  dsimp only
  split
  · exact h
  · split
    · exact k.retryHeld hf
    · exact hf

theorem returnClearance (h : P s) : P (returnClearance s) :=
  k.tryArrival (k.prompt (k.congr h))

theorem arrivalSensor (before made : Bool) (h : P s) : P (arrivalSensor before made s) := by
  unfold Machine.arrivalSensor arrivalMade
  split
  · split
    · exact k.congr h
    · exact k.tryArrival h
  · exact h

theorem travelEnds (i : Nat) (h : P s) : P (travelEnds i s) := by
  unfold Machine.travelEnds
  split
  · split
    · exact k.tryArrival (k.congr h)
    · exact h
  · exact h

theorem spacingEnds (h : P s) : P (spacingEnds s) := k.tryArrival (k.congr h)

theorem liftStack (n : Quad) (h : P s) : P (liftStack n s) :=
  k.prompt (k.congr h)

theorem requestSetStationPrompted (n m q : Byte) (h : P s) : P (requestSetStationPrompted n m q s).1 := by
  have hr : P (requestSetStation n m q s).1 := k.congr h
  unfold Machine.requestSetStationPrompted
  dsimp only
  split
  · exact k.prompt hr
  · exact hr

theorem releaseRewash (e : CleanEntry) (rest : List CleanEntry) (h : P s) : P (releaseRewash e rest s).1 := by
  unfold Machine.releaseRewash
  split
  · exact h
  · split
    · exact h
    · exact k.evaluation (k.congr h)

theorem requestReleaseQuarantine (a : Byte) (h : P s) : P (requestReleaseQuarantine a s).1 := by
  unfold Machine.requestReleaseQuarantine
  split
  · exact h
  · split
    · exact h
    · split
      · exact h
      · split
        · exact k.confirmOldest (k.congr h)
        · exact k.releaseRewash _ _ h

end KeptByEvaluation

/-- A track in a state that makes no due evaluation stays as it is. -/
theorem keptByEvaluation_restingTrack (q : Track) (h : q.state.evaluates = false) :
    KeptByEvaluation (fun s => s.track = q) where
  congr hs ht _ _ := ht.trans hs
  evaluation hs := by rw [dueEvaluation_of_not_evaluates (hs ▸ h)]; exact hs

/-! ### What the requests keep, the link keeps -/

/-- The property does not look at the link, and the execution of a request keeps it. -/
structure KeptByRequests (P : State → Prop) : Prop where
  link : ∀ {s : State}, P s → ∀ l : Link, P { s with link := l }
  request : ∀ {s : State}, P s → ∀ r : Request, P (executeRequest r s).1

namespace KeptByRequests
variable {P : State → Prop} (k : KeptByRequests P) {s : State}
include k

theorem executeOldest (h : P s) : P (executeOldest s) := by
  unfold Machine.executeOldest perform
  split
  · dsimp only
    split
    · exact k.link (k.request (k.link h _) _) _
    · exact k.link h _
  · exact h

theorem submit (r : Request) (h : P s) : P (submit r s) := by
  unfold Machine.submit
  split
  · exact k.executeOldest (k.link h _)
  · exact k.link h _

theorem takeByte (b : Byte) (h : P s) : P (takeByte b s).1 := by
  unfold Machine.takeByte
  dsimp only
  split
  · dsimp only
    split
    · exact k.link h _
    · exact h
  · exact k.link h _
  · exact k.link h _
  · split <;> exact k.link h _
  · split
    · exact k.link h _
    · split
      · exact k.submit _ (k.link h _)
      · exact k.link h _

theorem takeBytes (fuel : Nat) (q : List Byte) (h : P s) : P (takeBytes fuel q s) := by
  induction fuel generalizing q s with
  | zero => exact h
  | succ fuel ih =>
    cases q with
    | nil => exact h
    | cons b rest => exact ih _ (k.takeByte b h)

theorem receiveByte (b : Byte) (high : Bool) (h : P s) : P (receiveByte b high s) := by
  unfold Machine.receiveByte
  split
  · exact k.takeBytes _ _ (k.link h _)
  · split
    · exact h
    · exact k.link h _

theorem receiveGap (h : P s) : P (receiveGap s) := by
  unfold Machine.receiveGap
  dsimp only
  split <;> exact k.link h _

theorem chooseMessage (h : P s) : P (chooseMessage s) := by
  unfold Machine.chooseMessage
  split
  · exact k.link h _
  · exact k.link h _
  · exact h

/-- At the end of a message the property is kept, or the reset that the reply asked for is taken (R175). -/
theorem endTransmission (h : P s) :
    P (endTransmission s) ∨ ∃ q l, Machine.endTransmission s = requestedReset q { s with link := l } := by
  unfold Machine.endTransmission
  dsimp only
  split
  · split
    · exact .inr ⟨_, _, rfl⟩
    · exact .inl (k.executeOldest (k.link h _))
  · exact .inl (k.link h _)

end KeptByRequests

end Sys2Proof.Machine
end

section
namespace Sys2Proof.Machine
open Sys2Proof

/-! ### When the chain and the pusher may move -/

/-- The part of the moving parts' invariant on which the end of a command rests: a motion and a transfer are never both
unfinished, and track and merge stand in states that go with the motion and the chains (R7, R8, R21, R87). -/
def MotionGuard (m : Motion) (t : TrackState) (g : MergeState) (closed : Bool) : Prop :=
  (m = .none ∨ g = .idle) ∧ (m = .inFlight → t = .stepping ∨ t = .purging) ∧ (t.enabled = true → m = .none) ∧
    (t.active = true → closed = true) ∧ (t = .purging → g = .idle)

/-- The guard of a state. -/
def Guarded (s : State) : Prop := MotionGuard s.track.motion s.track.state s.merge.state (chainsClosed s)

theorem Moving.guarded {s : State} (h : Moving s) (hr : s.phase = .running) : Guarded s := by
  obtain ⟨⟨hex, _⟩, hrun, _⟩ := h
  obtain ⟨⟨_, _, hfl, _, hen, hact, _, _, _, hpurge⟩, _⟩ := hrun hr
  exact ⟨hex, hfl, fun e => (hen e).1, hact, hpurge⟩

/-- The guard rests on four values. -/
theorem Guarded.congr {s t : State} (h : Guarded s) (motion : t.track.motion = s.track.motion := by simp)
    (state : t.track.state = s.track.state := by simp) (merge : t.merge.state = s.merge.state := by simp)
    (estop : t.interlock.live.estop = s.interlock.live.estop := by simp)
    (door : t.interlock.live.door = s.interlock.live.door := by simp) : Guarded t := by
  simpa only [Guarded, chainsClosed, motion, state, merge, estop, door] using h

/-- A resting track: no motion, and a state that allows no drive. -/
theorem Guarded.of_motion_none {s : State} (hm : s.track.motion = .none) (hc : s.track.state.active = true → chainsClosed s = true)
    (hp : s.track.state = .purging → s.merge.state = .idle) : Guarded s :=
  ⟨.inl hm, fun h => (by simp [hm] at h), fun _ => hm, hc, hp⟩

/-- With no transfer in flight and the chains closed, a drive that runs stands in STEPPING or PURGING. -/
theorem Guarded.stepStart {s : State} (hm : s.merge.state = .idle) (hc : chainsClosed s = true) :
    Guarded (stepStart s) := by
  have hc' : chainsClosed (Machine.stepStart s) = true := by simpa [chainsClosed] using hc
  refine ⟨.inr (by simpa using hm), fun _ => ?_, fun h => ?_, fun _ => hc', fun _ => by simpa using hm⟩
  · rw [stepStart_track]
    dsimp only
    split <;> simp
  · rw [stepStart_track] at h
    dsimp only at h
    split at h <;> simp [TrackState.enabled] at h

theorem Guarded.dueEvaluation {s : State} (h : Guarded s) : Guarded (dueEvaluation s) := by
  obtain ⟨hex, hfl, hen, hact, hpurge⟩ := id h
  have still (hs : s.track.state = .ready ∨ s.track.state = .hold) :
      s.track.motion = .none ∧ chainsClosed s = true := by
    rcases hs with hs | hs <;> exact ⟨hen (by simp [hs, TrackState.enabled]), hact (by simp [hs, TrackState.active])⟩
  have := dueEvaluation_outcome s
  revert this
  generalize Machine.dueEvaluation s = t
  intro ht
  cases ht with
  | nothing => exact h
  | blocked e => exact h.congr rfl rfl rfl rfl rfl
  | starts e hs hc hm => exact Guarded.stepStart hm hc
  | held e q hs =>
    obtain ⟨hn, hc⟩ := still hs
    exact .of_motion_none hn (fun _ => hc) nofun
  | purges hs hm hc => exact Guarded.stepStart (hpurge hs) hc
  | purgeHeld q hs => exact h.congr rfl rfl rfl rfl rfl

theorem keptByEvaluation_guarded : KeptByEvaluation Guarded where
  congr h ht hm hi := h.congr (by rw [ht]) (by rw [ht]) (by rw [hm]) (by rw [hi]) (by rw [hi])
  evaluation := Guarded.dueEvaluation

/-- With no drive running and in a state that needs no closed chains, motion and transfer only exclude each other. -/
theorem Guarded.of_inactive {s : State} (hx : s.track.motion = .none ∨ s.merge.state = .idle)
    (hf : s.track.motion ≠ .inFlight) (ha : s.track.state.active = false)
    (hen : s.track.state.enabled = true → s.track.motion = .none) : Guarded s :=
  ⟨hx, fun h => absurd h hf, hen, fun h => absurd h (by simp [ha]), fun h => by simp [h, TrackState.active] at ha⟩

/-! ### The guard and the track -/

theorem Guarded.enterState_of_none {s : State} (st : TrackState) (hm : s.track.motion = .none)
    (hc : st.active = true → chainsClosed s = true) (hp : st ≠ .purging) : Guarded (enterState st s) :=
  .of_motion_none (by simpa using hm) (by simpa [chainsClosed] using hc) (by simp [hp])

theorem Guarded.enterRecovery {s : State} (hm : s.track.motion = .none) (hc : chainsClosed s = true) :
    Guarded (enterRecovery s) := by
  refine Guarded.enterState_of_none _ hm (fun _ => ?_) nofun
  unfold chainsClosed at hc ⊢
  dsimp only
  split <;> exact hc

section
variable {s : State} (h : Guarded s)
include h

theorem Guarded.not_inFlight (hs : s.track.state ≠ .stepping) (hp : s.track.state ≠ .purging) :
    s.track.motion ≠ .inFlight := fun hf => (h.2.1 hf).elim hs hp

theorem Guarded.wake (hs : s.track.state = .standby) : Guarded (wake s) := by
  have hn : s.track.motion = .none := h.2.2.1 (by simp [hs, TrackState.enabled])
  unfold Machine.wake
  dsimp only
  split
  · next hc => exact Guarded.enterRecovery hn hc
  · exact .enterState_of_none _ hn nofun nofun

theorem Guarded.completeMotion : Guarded (completeMotion s) := by
  obtain ⟨_, _, _, hact, hpurge⟩ := h
  exact .of_motion_none (by rw [completeMotion_track]) (by simpa [completeMotion_track, chainsClosed] using hact)
    (by simpa [completeMotion_track] using hpurge)

theorem Guarded.stateAfterCompletion (hm : s.track.motion = .none) (hc : chainsClosed s = true) :
    Guarded (stateAfterCompletion s) := by
  unfold Machine.stateAfterCompletion
  split
  · dsimp only
    split
    · exact .enterState_of_none _ hm nofun nofun
    · exact h.congr
  · split
    · exact .enterState_of_none _ hm (fun _ => hc) nofun
    · exact .enterState_of_none _ hm (fun _ => hc) nofun

theorem Guarded.indexMade : Guarded (indexMade s) := by
  unfold Machine.indexMade
  split
  · next hf =>
    have hc : chainsClosed s = true := h.2.2.2.1 (by rcases h.2.1 hf with e | e <;> simp [e, TrackState.active])
    exact h.completeMotion.stateAfterCompletion (by rw [completeMotion_track]) (by simpa [chainsClosed] using hc)
  · exact h

/-- An opening of a chain leaves no drive running and no state that needs the chains closed, whichever they are now. -/
theorem Guarded.trackOpening {u : State} (ht : u.track = s.track) (hm : u.merge = s.merge) :
    Guarded (trackOpening u) := by
  obtain ⟨hx, hfl, hen, _, _⟩ := h
  apply Guarded.of_inactive <;> simp only [trackOpening_track, trackOpening_frame, ht, hm]
  · split
    · next c => exact .inr (hx.resolve_left (by simp [c.2.2]))
    · exact hx
  · split
    · nofun
    · next c =>
      intro hf
      rcases hfl hf with e | e <;> simp [e, hf, TrackState.active] at c
  · cases s.track.state <;> rfl
  · intro he
    have hn : s.track.motion = .none := hen (by cases e : s.track.state <;> simp_all [TrackState.active, TrackState.enabled])
    simp [hn]

theorem Guarded.mergeOpening : Guarded (mergeOpening s) := by
  obtain ⟨hx, hfl, hen, hact, hpurge⟩ := id h
  unfold Machine.mergeOpening
  split
  · next e =>
    have hn : s.track.motion = .none := hx.resolve_right (by simp [e])
    exact .of_motion_none hn hact fun hp => by simp [hpurge hp] at e
  · exact h

theorem Guarded.jam (c : FaultCause) (n : FaultNotice) (hf : s.track.motion ≠ .inFlight) : Guarded (enterJam c n s) := by
  refine .of_inactive ?_ ?_ ?_ ?_ <;> simp [enterJam, TrackState.active, TrackState.enabled, hf, h.1]

theorem Guarded.motionExpiry : Guarded (motionExpiry s) := by
  unfold Machine.motionExpiry
  split
  · next hf =>
    have hm : s.merge.state = .idle := h.1.resolve_left (by simp [hf])
    refine .of_inactive ?_ ?_ ?_ ?_ <;>
      simp [jamMotion, enterJam, TrackState.active, TrackState.enabled, hm]
  · exact h

theorem Guarded.transferExpiry : Guarded (transferExpiry s) := by
  unfold Machine.transferExpiry
  split
  · next hm =>
    have hn : s.track.motion = .none := h.1.resolve_right (by simp [hm])
    unfold jamTransfer
    dsimp only
    split
    · exact .of_motion_none (by simpa [enterJam] using hn) (by simp [enterJam, TrackState.active]) (by simp [enterJam])
    · refine .of_motion_none hn h.2.2.2.1 fun hp => ?_
      exact absurd (hm.symm.trans (h.2.2.2.2 hp)) nofun
  · exact h

/-! ### The guard and the merge -/

theorem Guarded.mergeIdle : Guarded (mergeIdle s) := by
  obtain ⟨_, hfl, hen, hact, _⟩ := h
  exact ⟨.inr rfl, hfl, hen, hact, fun _ => rfl⟩

end

theorem completeSpur_state (n : Quad) (e : RackId) (k : Kind) (p : Snapshot) (s : State) :
    (completeSpur n e k p s).track.state = s.track.state ∧ (completeSpur n e k p s).track.motion = s.track.motion := by
  simp [completeSpur]

theorem completeRewash_state (s : State) :
    (completeRewash s).track.state = s.track.state ∧ (completeRewash s).track.motion = s.track.motion := by
  unfold completeRewash
  split
  · dsimp only
    split <;> simp
  · simp

section
variable {s : State} (h : Guarded s)
include h

theorem Guarded.completeTransfer : Guarded (completeTransfer s) := by
  have hp : Guarded (stopPusher s) := h.congr
  unfold Machine.completeTransfer
  dsimp only
  split
  · next n e k p _ =>
    have hc : Guarded (completeSpur n e k p (stopPusher s)) :=
      hp.congr (completeSpur_state ..).2 (completeSpur_state ..).1
    exact hc.mergeIdle.dueEvaluation.congr
  · exact (hp.congr (completeRewash_state _).2 (completeRewash_state _).1).mergeIdle.dueEvaluation
  · exact hp.mergeIdle

theorem Guarded.dropTransfer : Guarded (dropTransfer s) :=
  Guarded.congr (Guarded.mergeIdle (s := stopPusher s) h.congr) (by simp [Machine.dropTransfer])
    (by simp [Machine.dropTransfer]) (by simp [Machine.dropTransfer]) (by simp [Machine.dropTransfer])
    (by simp [Machine.dropTransfer])

theorem Guarded.resolveInterrupted : Guarded (resolveInterrupted s) := by
  unfold Machine.resolveInterrupted resolveTransfer
  split
  · split
    · exact h.completeTransfer
    · exact h.dropTransfer
  · exact h

theorem Guarded.position0Made : Guarded (position0Made s) := by
  unfold Machine.position0Made
  split
  · exact h.completeTransfer
  · exact h

/-! ### The guard and the other blocks -/

theorem Guarded.creditRinse (c : Nat) : Guarded (creditRinse c s) := h.congr rfl rfl rfl rfl rfl

theorem Guarded.completeRecovery (hs : s.track.state = .recovery) : Guarded (completeRecovery s) := by
  have hn : s.track.motion = .none := h.2.2.1 (by simp [hs, TrackState.enabled])
  have hc : chainsClosed s = true := h.2.2.2.1 (by simp [hs, TrackState.active])
  exact Guarded.dueEvaluation (.enterState_of_none _ hn (fun _ => hc) nofun)

theorem Guarded.failRecovery (hs : s.track.state = .recovery) : Guarded (failRecovery s) := by
  have hn : s.track.motion = .none := h.2.2.1 (by simp [hs, TrackState.enabled])
  refine .of_motion_none ?_ ?_ ?_ <;> simp [Machine.failRecovery, stopRecoveryTimers, hn, TrackState.active]

theorem Guarded.formed (a : Code) (b : Option Code) : Guarded (formed a b s) :=
  h.congr (by simp [Machine.formed, Machine.creditRinse]) (by simp [Machine.formed, Machine.creditRinse])

theorem Guarded.formSample (a : Code) (b : Option Code) : Guarded (formSample a b s) := by
  have ht := (h.formed a b).dueEvaluation
  unfold Machine.formSample
  dsimp only
  split
  · next hr =>
    have hs : s.track.state = .recovery := by
      simp only [recoveryReached, Bool.and_eq_true, beq_iff_eq] at hr
      exact hr.1.1.1
    refine ht.completeRecovery ?_
    have hf : (Machine.formed a b s).track.state = .recovery := by
      simpa [Machine.formed, Machine.creditRinse] using hs
    rw [dueEvaluation_of_not_evaluates (by rw [hf]; rfl), hf]
  · exact ht

theorem Guarded.conversionA (c : Code) : Guarded (conversionA c s) := by
  unfold Machine.conversionA
  split
  · split
    · exact h.formSample c none
    · exact h.congr
  · exact h

theorem Guarded.conversionB (c : Code) : Guarded (conversionB c s) := by
  unfold Machine.conversionB
  split
  · exact h.formSample _ _
  · exact h

theorem Guarded.pressSend (n : Quad) : Guarded (pressSend n s) := by
  unfold Machine.pressSend takeSend
  dsimp only
  split
  · split
    · split
      · next hs => exact Guarded.wake h.congr hs
      · exact h.congr
    · exact h.congr
  · exact h

theorem Guarded.reportChange : Guarded (reportChange s) := h.congr

theorem Guarded.changeEstop (o : Bool) : Guarded (changeEstop o s) := by
  unfold Machine.changeEstop
  split
  · exact h
  · cases o
    · have hc : Guarded (setLive { s.interlock.live with estop := false } s) := by
        obtain ⟨hx, hfl, hen, hact, hpurge⟩ := h
        refine ⟨hx, hfl, hen, fun ha => ?_, hpurge⟩
        have := hact ha
        simp_all [chainsClosed, setLive]
      exact (keptByEvaluation_guarded.returnClearance hc).reportChange
    · exact Guarded.congr (h.trackOpening (u := setLive { s.interlock.live with estop := true } s) rfl rfl).mergeOpening

theorem Guarded.changeDoor (o : Bool) : Guarded (changeDoor o s) := by
  unfold Machine.changeDoor
  split
  · exact h
  · cases o
    · obtain ⟨hx, hfl, hen, hact, hpurge⟩ := h
      refine Guarded.reportChange ⟨hx, hfl, hen, fun ha => ?_, hpurge⟩
      have := hact ha
      simp_all [chainsClosed, setLive]
    · exact (h.trackOpening (u := setLive { s.interlock.live with door := true } s) rfl rfl).mergeOpening.reportChange

theorem Guarded.changeRinse (o : Bool) : Guarded (changeRinse o s) := by
  unfold Machine.changeRinse
  split
  · exact h
  · exact h.congr

theorem Guarded.changeTank (o : Bool) : Guarded (changeTank o s) := by
  unfold Machine.changeTank
  split
  · exact h
  · exact Guarded.reportChange (Guarded.dueEvaluation h.congr)

theorem Guarded.idleExpiry : Guarded (idleExpiry s) := by
  unfold Machine.idleExpiry
  dsimp only
  split
  · next hi =>
    have hs : s.track.state = .ready := by
      simp only [idleInReady, Bool.and_eq_true, beq_iff_eq] at hi
      exact hi.1
    exact .enterState_of_none _ (h.2.2.1 (by simp [hs, TrackState.enabled])) nofun nofun
  · exact h.congr

theorem Guarded.recoveryExpiry : Guarded (recoveryExpiry s) := by
  unfold Machine.recoveryExpiry
  dsimp only
  split
  · next hs => exact Guarded.completeRecovery (h.congr rfl rfl rfl rfl rfl) hs
  · exact h.congr

theorem Guarded.limitExpiry : Guarded (limitExpiry s) := by
  unfold Machine.limitExpiry
  dsimp only
  split
  · next hs => exact Guarded.failRecovery (h.congr rfl rfl rfl rfl rfl) hs
  · exact h.congr

/-! ### The guard and the requests -/

theorem Guarded.requestHalt : Guarded (requestHalt s).1 := by
  have toOff {u : State} (ht : u.track.motion = s.track.motion) (hm : u.merge = s.merge)
      (hs : s.track.motion ≠ .inFlight) : Guarded (enterState .off u) := by
    refine .of_inactive ?_ ?_ ?_ ?_ <;> simp [TrackState.active, TrackState.enabled, ht, hm, hs, h.1]
  have rest (e : s.track.state ≠ .stepping) (e' : s.track.state ≠ .purging) := h.not_inFlight e e'
  unfold Machine.requestHalt
  dsimp only
  split
  case h_1 | h_2 | h_3 => exact h.congr
  case h_9 =>
    split
    · next hn => exact toOff rfl rfl (by simp [hn])
    · exact h.congr
  all_goals
    next e => exact toOff rfl rfl (rest (by simp [e]) (by simp [e]))

theorem Guarded.requestStandby : Guarded (requestStandby s).1 := by
  unfold Machine.requestStandby
  split
  · next hi =>
    have hs : s.track.state = .ready := by
      simp only [idleInReady, Bool.and_eq_true, beq_iff_eq] at hi
      exact hi.1
    exact .enterState_of_none _ (h.2.2.1 (by simp [hs, TrackState.enabled])) nofun nofun
  · exact h

theorem Guarded.requestPurge : Guarded (requestPurge s).1 := by
  unfold Machine.requestPurge
  split
  · next c =>
    obtain ⟨_, hn, hm, hc⟩ := c
    exact .of_motion_none (by simpa using hn) (fun _ => by simpa [chainsClosed] using hc)
      (fun _ => by simpa [transferInFlight] using hm)
  · exact h

omit h in
theorem Guarded.resumeMotion (hc : chainsClosed s = true) (hm : s.merge.state = .idle) : Guarded (resumeMotion s) := by
  unfold Machine.resumeMotion
  split
  · exact .enterState_of_none _ (by rw [completeMotion_track]) (fun _ => by simpa [chainsClosed] using hc) nofun
  · exact ⟨.inr (by simpa [runDrive] using hm), fun _ => .inl (by simp), by simp [TrackState.enabled],
      fun _ => by simpa [chainsClosed, runDrive] using hc, by simp⟩

theorem Guarded.runMove (hc : chainsClosed s = true) : Guarded (runMove s) := by
  have resumed (hi : s.track.motion = .interrupted) :
      Guarded (Machine.resumeMotion { s with track := { s.track with runEnable := true } }) :=
    Guarded.resumeMotion hc (h.1.resolve_left (by simp [hi]))
  have none (hs : s.track.state = .off ∨ s.track.state = .stopped) (hi : s.track.motion ≠ .interrupted) :
      s.track.motion = .none := by
    have hf : s.track.motion ≠ .inFlight := by rcases hs with e | e <;> exact h.not_inFlight (by simp [e]) (by simp [e])
    cases e : s.track.motion <;> simp_all
  unfold Machine.runMove
  dsimp only
  split
  · next e =>
    split
    · exact resumed ‹_›
    · exact .enterState_of_none _ (none (.inl e) ‹_›) (fun _ => hc) nofun
  · next e =>
    split
    · exact resumed ‹_›
    · have hn := none (.inr e) ‹_›
      split
      · exact .enterRecovery hn hc
      · exact .enterState_of_none _ hn (fun _ => hc) nofun
  · next e => exact Guarded.wake (h.congr rfl rfl rfl rfl rfl) e
  · exact h.congr

theorem Guarded.requestRun : Guarded (requestRun s).1 := by
  unfold Machine.requestRun
  split
  · exact h
  · next hr =>
    have hc : chainsClosed s = true := by
      simp only [runRefused, Bool.or_eq_true, not_or] at hr
      simpa using hr.1.1.1
    have hi := Guarded.resolveInterrupted (s := { s with programmes := { s.programmes with lock := true } }) h.congr
    exact hi.runMove (by simpa [chainsClosed] using hc)

theorem Guarded.leaveFault (hf : s.track.motion ≠ .inFlight) : Guarded (leaveFault s) := by
  refine .of_inactive ?_ ?_ ?_ ?_ <;>
    simp [Machine.leaveFault, TrackState.active, TrackState.enabled, hf, h.1]

end

theorem completeSpur_track (n : Quad) (e : RackId) (k : Kind) (p : Snapshot) (s : State) :
    (completeSpur n e k p s).track =
      { s.track with positions := (completeSpur n e k p s).track.positions } := by
  simp [completeSpur]

theorem completeRewash_track (s : State) :
    (completeRewash s).track = { s.track with positions := (completeRewash s).track.positions } := by
  unfold completeRewash
  split
  · dsimp only
    split <;> simp
  · rfl

/-- In a state that makes no due evaluation the end of a transfer touches nothing of the track but position 0. -/
theorem completeTransfer_track {s : State} (h : s.track.state.evaluates = false) :
    (completeTransfer s).track = { s.track with positions := (completeTransfer s).track.positions } := by
  unfold completeTransfer
  dsimp only
  split
  · rw [dueEvaluation_of_not_evaluates (by rw [mergeIdle_track, completeSpur_track]; exact h)]
    simp only [readSpurHead_frame, mergeIdle_track]
    rw [completeSpur_track]
    rfl
  · rw [dueEvaluation_of_not_evaluates (by rw [mergeIdle_track, completeRewash_track]; exact h)]
    simp only [mergeIdle_track]
    rw [completeRewash_track]
    rfl
  · rfl

theorem settleJam_track {s : State} (h : s.track.state.evaluates = false) :
    (settleJam s).1.track = { s.track with positions := (settleJam s).1.track.positions } := by
  unfold settleJam
  dsimp only
  split
  · rfl
  · split
    · rw [completeTransfer_track (by exact h)]
      rfl
    · split
      · simp
      · split <;> simp

section
variable {s : State} (h : Guarded s)
include h

theorem Guarded.settleJam : Guarded (settleJam s).1 := by
  have he : Guarded (emptyTags s) := h.congr
  unfold Machine.settleJam
  dsimp only
  split
  · exact he.mergeIdle
  · split
    · exact he.completeTransfer
    · split
      · exact he.dropTransfer
      · next n e _ _ _ =>
        split
        · exact he.dropTransfer
        · have hl : Guarded (sendUnpin e .unknown (removeHead n (emptyTags s))) := h.congr
          exact hl.mergeIdle.congr

theorem Guarded.requestClearFault : Guarded (requestClearFault s).1 := by
  have hb : Guarded { s with track := { s.track with fault := none } } := h.congr rfl rfl rfl rfl rfl
  have hf (e : s.track.state = .fault) : s.track.motion ≠ .inFlight :=
    h.not_inFlight (by simp [e]) (by simp [e])
  unfold Machine.requestClearFault
  dsimp only
  split
  · next e _ =>
    split
    · exact h
    · split
      · exact hb.completeMotion.leaveFault (by simp [completeMotion_track])
      · exact hb.leaveFault (hf e)
  · next e _ =>
    split
    · exact h
    · refine hb.settleJam.leaveFault ?_
      rw [settleJam_track (by show s.track.state.evaluates = false; rw [e]; rfl)]
      exact hf e
  · next e _ =>
    refine .of_inactive ?_ ?_ ?_ ?_ <;> simp [TrackState.active, TrackState.enabled, hf e, h.1]
  · exact h

theorem Guarded.executeRequest (r : Request) : Guarded (executeRequest r s).1 := by
  cases r with
  | run => exact h.requestRun
  | halt => exact h.requestHalt
  | standby => exact h.requestStandby
  | clearFault => exact h.requestClearFault
  | purge => exact h.requestPurge
  | setStation n m k => exact keptByEvaluation_guarded.requestSetStationPrompted n m k h
  | releaseQuarantine a => exact keptByEvaluation_guarded.requestReleaseQuarantine a h
  | releaseInterlocks =>
    refine h.congr ?_ ?_ ?_ ?_ ?_ <;>
      simp only [Machine.executeRequest, requestReleaseInterlocks, releaseGroup] <;> (repeat' split) <;> simp
  | _ =>
    refine h.congr ?_ ?_ ?_ ?_ ?_ <;> simp [Machine.executeRequest]

end

end Sys2Proof.Machine
end

section
namespace Sys2Proof.Machine
open Sys2Proof

/-! ### What the conditions of a step and of a grant rest on -/

theorem f2Below_congr {s t : State} (h : t.track.positions = s.track.positions) : f2Below t = f2Below s := by
  simp only [f2Below, Track.f2, h]

theorem exitRoute_congr {s t : State} (h : t.track.positions = s.track.positions) (hr : t.ret = s.ret) :
    exitRoute t = exitRoute s := by
  funext r
  simp only [exitRoute, cleanHasPlace, cleanCount, laneCount, cleanReserved, laneReserved, State.reservation, Track.x, h, hr]
  rfl

theorem routeFound_congr {s t : State} (h : t.track.positions = s.track.positions) (hr : t.ret = s.ret) :
    routeFound t = routeFound s := by
  simp only [routeFound, exitRoute_congr h hr, Track.x, h]

theorem holdsNow_congr {s t : State} (h : t.track.positions = s.track.positions) (hr : t.ret = s.ret)
    (hm : t.merge.state = s.merge.state) (hi : t.interlock.live.tank = s.interlock.live.tank)
    (he : t.track.extension = s.track.extension) : holdsNow t = holdsNow s := by
  simp only [holdsNow, transferInFlight, doseMet, f2Below_congr h, routeFound_congr h hr, hm, hi, he]

theorem NothingDue.congr {s t : State} (h : NothingDue s) (track : t.track = s.track := by simp)
    (ret : t.ret = s.ret := by simp) (merge : t.merge.state = s.merge.state := by simp)
    (tank : t.interlock.live.tank = s.interlock.live.tank := by simp) : NothingDue t := by
  have hp : t.track.positions = s.track.positions := by rw [track]
  simpa only [NothingDue, f2Below_congr hp, routeFound_congr hp ret, holdsNow_congr hp ret merge tank (by rw [track]),
    track] using h

theorem grantOpen_congr {s t : State} (ht : t.track = s.track) (hr : t.ret = s.ret)
    (hm : t.merge.state = s.merge.state) (hs : t.stations = s.stations)
    (hf : t.profile.values.stations = s.profile.values.stations) : grantOpen t = grantOpen s := by
  have hw : headWaiting t = headWaiting s := by funext n; simp only [headWaiting, fitted, hs, hf]
  simp only [grantOpen, hw, ht, hr, hm]

theorem idleInReady_congr {s t : State} (ht : t.track = s.track) (hr : t.ret = s.ret)
    (hm : t.merge.state = s.merge.state) (hs : t.stations = s.stations) : idleInReady t = idleInReady s := by
  simp only [idleInReady, partIdle, transferInFlight, ht, hr, hm, hs]

/-! ### After a due evaluation nothing is due -/

/-- In a state that makes no due evaluation nothing is due. -/
theorem nothingDue_of_not_evaluates {s : State} (h : s.track.state.evaluates = false) : NothingDue s :=
  ⟨fun e => by simp [e, TrackState.evaluates] at h, fun e => by simp [e, TrackState.evaluates] at h,
    fun e => by simp [e, TrackState.evaluates] at h⟩

theorem nothingDue_stepStart (s : State) : NothingDue (stepStart s) := by
  have hm : (stepStart s).track.motion = .inFlight := by rw [stepStart_track]
  have hs : (stepStart s).track.state = .stepping ∨ (stepStart s).track.state = .purging := by
    rw [stepStart_track]
    dsimp only
    split <;> simp
  refine ⟨fun e => ?_, fun e => ?_, fun _ _ hn => ?_⟩
  · rcases hs with h | h <;> exact absurd (h.symm.trans e) nofun
  · rcases hs with h | h <;> exact absurd (h.symm.trans e) nofun
  · exact absurd (hm.symm.trans hn) nofun

theorem extensionPreset_ne_idle (n : Nat) : extensionPreset n ≠ .idle := by
  unfold extensionPreset Timer.preset
  split <;> nofun

theorem startExtension_runs (s : State) : f2Below s = false ∨ (startExtension s).track.extension ≠ .idle := by
  rw [startExtension_track]
  cases hb : f2Below s with
  | false => exact .inl rfl
  | true =>
    dsimp only [Bool.true_and]
    split
    · exact .inr (extensionPreset_ne_idle _)
    · next h => exact .inr (by simpa using h)

theorem nothingDue_evaluate {s : State} (hc : chainsClosed s = true) : NothingDue (evaluate s) := by
  unfold evaluate
  dsimp only
  rw [show chainsClosed (startExtension s) = true by simpa [chainsClosed] using hc]
  split
  · exact nothingDue_stepStart _
  · next hne =>
    refine ⟨nofun, fun _ => ⟨?_, ?_, hne⟩, nofun⟩
    · exact (startExtension_runs s).imp_left fun h => by rw [← h]; exact f2Below_congr (by rw [startExtension_track])
    · exact (holdsNow_congr rfl rfl rfl rfl rfl).symm

theorem nothingDue_dueEvaluation {s : State} (h : s.track.state.evaluates = true → chainsClosed s = true) :
    NothingDue (dueEvaluation s) := by
  unfold dueEvaluation
  split
  · next e =>
    split
    · exact nothingDue_evaluate (h (by rw [e]; rfl))
    · next c => exact ⟨fun _ => by simpa [or_iff_not_imp_left] using c, fun e' => absurd (e.symm.trans e') nofun, fun e' => absurd (e.symm.trans e') nofun⟩
  · next e => exact nothingDue_evaluate (h (by rw [e]; rfl))
  · next e =>
    split
    · unfold purgeStep
      rw [h (by rw [e]; rfl)]
      split
      · contradiction
      · split
        · exact nothingDue_stepStart _
        · next hr =>
          refine ⟨fun e' => absurd (e.symm.trans e') nofun, fun e' => absurd (e.symm.trans e') nofun, fun _ _ _ => ⟨?_, rfl⟩⟩
          rw [← Bool.not_eq_true]
          exact hr
    · next c =>
      refine ⟨fun e' => absurd (e.symm.trans e') nofun, fun e' => absurd (e.symm.trans e') nofun, fun _ hd hm => ?_⟩
      simp [hd, hm] at c
  · next h1 h2 h3 => exact ⟨fun e => absurd e h1, fun e => absurd e h2, fun e => absurd e h3⟩

/-! ### The resolution of the spur heads -/

/-- A station after its head has been resolved: a waiting head that does not resolve is refused (R89). -/
def resolvedUnit (s : State) (n : Quad) : StationUnit :=
  { s.stations.get n with spur := match (s.stations.get n).spur with
    | e :: rest => { e with refused := e.refused || (headWaiting s n && !eligible s n) } :: rest
    | [] => [] }

theorem resolvedUnit_of_not_refused {s : State} {n : Quad} (h : (headWaiting s n && !eligible s n) = false) :
    resolvedUnit s n = s.stations.get n := by
  unfold resolvedUnit
  rw [h]
  cases e : (s.stations.get n).spur <;> simp [← e]

theorem resolveStation_get (n m : Quad) (s : State) :
    (resolveStation n s).stations.get m = if m = n then resolvedUnit s n else s.stations.get m := by
  unfold resolveStation
  cases e : (s.stations.get n).spur with
  | nil =>
    simp only [StationUnit.head, e, List.head?_nil]
    split
    · next h => rw [h, resolvedUnit_of_not_refused (by simp [headWaiting, StationUnit.head, e])]
    · rfl
  | cons x rest =>
    have hx : (s.stations.get n).head = some x := by simp [StationUnit.head, e]
    simp only [hx]
    by_cases hw : headWaiting s n = true ∧ (resolveHead s x).isSome = false
    · obtain ⟨hw, hr⟩ := hw
      have hel : eligible s n = false := by simp [eligible, hx, hr]
      simp [hw, hr, hel, Four.get_set, resolvedUnit, e]
    · have hel : (headWaiting s n && !eligible s n) = false := by
        cases h1 : headWaiting s n <;> cases h2 : (resolveHead s x).isSome <;> simp_all [eligible]
      have hc : (headWaiting s n && !(resolveHead s x).isSome) = false := by
        cases h1 : headWaiting s n <;> cases h2 : (resolveHead s x).isSome <;> simp_all
      rw [hc, if_neg Bool.false_ne_true, resolvedUnit_of_not_refused hel]
      split <;> simp_all

/-- Whether a head waits, resolves and is eligible rests on its own station, the programmes and the stations fitted. -/
theorem head_congr {s t : State} {n : Quad} (hs : t.stations.get n = s.stations.get n) (hp : t.programmes = s.programmes)
    (hf : t.profile = s.profile) : headWaiting t n = headWaiting s n ∧ eligible t n = eligible s n := by
  have hr : resolveHead t = resolveHead s := by
    funext e
    simp only [resolveHead, descriptor, headProgramme, hp]
    rfl
  have hw : headWaiting t n = headWaiting s n := by simp only [headWaiting, fitted, hs, hf]
  exact ⟨hw, by simp only [eligible, hw, hs, hr]⟩

theorem resolvedUnit_congr {s t : State} {n : Quad} (hs : t.stations.get n = s.stations.get n)
    (hp : t.programmes = s.programmes) (hf : t.profile = s.profile) : resolvedUnit t n = resolvedUnit s n := by
  simp only [resolvedUnit, hs, head_congr hs hp hf]

theorem resolveHeads_get (m : Quad) (s : State) : (resolveHeads s).stations.get m = resolvedUnit s m := by
  have other {n : Quad} (h : m ≠ n) (t : State) : (resolveStation n t).stations.get m = t.stations.get m := by
    rw [resolveStation_get, if_neg h]
  have kept {n : Quad} (h : m ≠ n) (t : State) : resolvedUnit (resolveStation n t) m = resolvedUnit t m :=
    resolvedUnit_congr (other h t) (by simp) (by simp)
  have own (t : State) : (resolveStation m t).stations.get m = resolvedUnit t m := by
    rw [resolveStation_get, if_pos rfl]
  simp only [resolveHeads, quads, List.foldl]
  match m with
  | 0 => rw [other (by decide), other (by decide), other (by decide), own]
  | 1 => rw [other (by decide), other (by decide), own, kept (by decide)]
  | 2 => rw [other (by decide), own, kept (by decide), kept (by decide)]
  | 3 => rw [own, kept (by decide), kept (by decide), kept (by decide)]

theorem resolveHead_resolveHeads (s : State) (e : SpurEntry) (f : Bool) :
    resolveHead (resolveHeads s) { e with refused := f } = resolveHead s e := by
  simp only [resolveHead, descriptor, headProgramme, resolveHeads_frame]
  rfl

/-- After the resolution exactly the eligible heads wait. -/
theorem headWaiting_resolveHeads (s : State) (n : Quad) : headWaiting (resolveHeads s) n = eligible s n := by
  have hf : fitted (resolveHeads s) n = fitted s n := by simp [fitted]
  unfold headWaiting
  rw [resolveHeads_get, hf]
  cases e : (s.stations.get n).spur with
  | nil => simp [resolvedUnit, StationUnit.head, e, eligible]
  | cons x rest =>
    have hx : (s.stations.get n).head = some x := by simp [StationUnit.head, e]
    simp only [resolvedUnit, e, StationUnit.head, List.head?_cons]
    have hw : headWaiting s n = (fitted s n && (x.profiled && !x.refused)) := by simp [headWaiting, hx]
    cases hel : eligible s n with
    | false => rw [hw]; cases fitted s n <;> cases x.profiled <;> cases x.refused <;> rfl
    | true =>
      have : headWaiting s n = true := by
        simp only [eligible, Bool.and_eq_true] at hel
        exact hel.1
      simpa [hw] using this

theorem eligible_resolveHeads (s : State) (n : Quad) : eligible (resolveHeads s) n = eligible s n := by
  conv_lhs => unfold eligible
  rw [headWaiting_resolveHeads, resolveHeads_get]
  cases e : (s.stations.get n).spur with
  | nil => simp [resolvedUnit, StationUnit.head, e, eligible]
  | cons x rest =>
    simp only [resolvedUnit, e, StationUnit.head, List.head?_cons, resolveHead_resolveHeads]
    unfold eligible
    simp [StationUnit.head, e]

/-! ### The grant opportunity -/

/-- An eligible head can be granted. -/
theorem grantOf_of_eligible {s : State} {n : Quad} (h : eligible s n = true) : (grantOf s (.spur n)).isSome = true := by
  unfold eligible at h
  unfold grantOf
  cases e : (s.stations.get n).head with
  | none => simp [e] at h
  | some x =>
    simp only [e, Bool.and_eq_true] at h
    simpa [e] using h.2

/-- With nobody chosen the lane is empty and no head is eligible. -/
theorem nobody_eligible {s : State} (h : (chooseRequester s).bind (grantOf s) = none) :
    s.ret.lane = [] ∧ ∀ n, eligible s n = false := by
  unfold chooseRequester at h
  cases hl : s.ret.lane with
  | cons r rest => simp [hl, grantOf] at h
  | nil =>
    refine ⟨rfl, fun n => ?_⟩
    simp only [hl, List.isEmpty_nil, Bool.not_true, Bool.false_eq_true, if_false] at h
    generalize ho : (rotationOrder s.merge.rotation).filter (eligible s) = order at h
    have hmem : ∀ m ∈ order, (grantOf s (.spur m)).isSome = true := fun m hm =>
      grantOf_of_eligible (List.mem_filter.mp (ho ▸ hm)).2
    have hempty : order = [] := by
      cases order with
      | nil => rfl
      | cons x xs =>
        split at h
        · next m hm =>
          have := hmem m (List.mem_of_find?_eq_some hm)
          simp_all
        · have := hmem x (by simp)
          simp_all
    have hall : n ∈ rotationOrder s.merge.rotation := by
      generalize s.merge.rotation = r
      revert n r
      decide
    have := List.filter_eq_nil_iff.mp (ho.trans hempty) n hall
    simpa using this

/-- What a grant opportunity that is open comes down to: the heads resolved, and one requester granted or nobody
eligible (R89, R92). -/
theorem grantOpportunity_open {s : State} (h : grantOpen s = true) :
    ∃ u, (u = s ∨ u = retestHeads { s with merge := { s.merge with retest := false } }) ∧
      ((∃ g, grantOpportunity s = makeGrant g (resolveHeads u)) ∨
        (grantOpportunity s = resolveHeads u ∧ u.ret.lane = [] ∧ ∀ n, eligible u n = false)) := by
  refine ⟨if s.merge.retest then retestHeads { s with merge := { s.merge with retest := false } } else s, ?_, ?_⟩
  · split
    · exact .inr rfl
    · exact .inl rfl
  · unfold grantOpportunity
    rw [if_pos h]
    dsimp only
    split
    · exact .inl ⟨_, rfl⟩
    · next hn =>
      obtain ⟨hl, he⟩ := nobody_eligible hn
      exact .inr ⟨rfl, by simpa using hl, fun n => by rw [← eligible_resolveHeads]; exact he n⟩

/-! ### The end of a command settles a working part -/

theorem nothingDue_makeGrant {g : Grant} {s : State} (h : NothingDue s)
    (hs : s.track.state = .ready ∨ s.track.state = .hold) : NothingDue (makeGrant g s) := by
  obtain ⟨hr, hh, _⟩ := h
  refine ⟨hr, fun e => ?_, fun e => ?_⟩
  · obtain ⟨hx, hq, hn⟩ := hh e
    have hm : (makeGrant g s).track.holds = { s.track.holds with transfer := true } := by
      simp [makeGrant, show s.track.state = .hold from e]
    refine ⟨hx, ?_, by rw [hm]; simp [Holds.empty]⟩
    rw [hm, hq]
    rfl
  · rcases hs with h | h <;> exact absurd (h.symm.trans e) nofun

theorem grantOpen_cases {s : State} (h : grantOpen s = true) :
    s.merge.state = .idle ∧ s.track.motion = .none ∧ (s.track.state = .ready ∨ s.track.state = .hold) := by
  simp only [grantOpen, Bool.and_eq_true, Bool.or_eq_true, beq_iff_eq] at h
  exact ⟨h.1.1.1.1, h.1.1.2, h.1.2⟩

/-- A grant opportunity that is open is taken: afterwards none is open, and still nothing is due (R92). -/
theorem grantOpportunity_settles {s : State} (h : NothingDue s) :
    NothingDue (grantOpportunity s) ∧ grantOpen (grantOpportunity s) = false := by
  cases ho : grantOpen s with
  | false => rw [grantOpportunity_of_closed ho]; exact ⟨h, ho⟩
  | true =>
    obtain ⟨_, _, hst⟩ := grantOpen_cases ho
    obtain ⟨u, hu, hc⟩ := grantOpportunity_open ho
    have hd : NothingDue (resolveHeads u) := by rcases hu with rfl | rfl <;> exact h.congr
    have hut : u.track = s.track := by rcases hu with rfl | rfl <;> simp
    rcases hc with ⟨g, hg⟩ | ⟨hg, hl, he⟩
    · rw [hg]
      exact ⟨nothingDue_makeGrant hd (by simpa [hut] using hst), by simp [grantOpen, makeGrant]⟩
    · rw [hg]
      exact ⟨hd, by simp [grantOpen, hl, headWaiting_resolveHeads, he]⟩

theorem idleTimerHook_idle (b s : State) :
    idleInReady (idleTimerHook b s) = true ∨ (idleTimerHook b s).interlock.idle = .idle := by
  unfold idleTimerHook
  dsimp only
  split
  · next h =>
    left
    split <;> exact h
  · exact .inr rfl

theorem idleTimerHook_live (b s : State) : (idleTimerHook b s).interlock.live = s.interlock.live := by
  unfold idleTimerHook
  dsimp only
  (repeat' split) <;> rfl

/-- What follows at the end of a command leaves nothing to follow (R7, R92, R161). -/
theorem settled_conclude {b s : State} (hr : s.phase = .running)
    (h : s.track.state.evaluates = true → chainsClosed s = true) : Settled (conclude b s) := by
  obtain ⟨hd, hg⟩ := grantOpportunity_settles (nothingDue_dueEvaluation h)
  have hs : Settled (idleTimerHook b (grantOpportunity (dueEvaluation s))) := by
    refine ⟨hd.congr (tank := by rw [idleTimerHook_live]), ?_, idleTimerHook_idle ..⟩
    rw [← hg]
    exact grantOpen_congr (by simp) (by simp) (by simp) (by simp) (by simp)
  rw [conclude, if_pos hr]
  exact hs.congr (by simp) (by simp) (by simp) (by simp) (by simp) (by simp)

theorem Guarded.closed {s : State} (h : Guarded s) (he : s.track.state.evaluates = true) : chainsClosed s = true := by
  refine h.2.2.2.1 ?_
  revert he
  cases s.track.state <;> simp [TrackState.evaluates, TrackState.active]

theorem Guarded.settled_conclude {b s : State} (h : Guarded s) (hr : s.phase = .running) : Settled (conclude b s) :=
  Machine.settled_conclude hr h.closed

end Sys2Proof.Machine
end

section
namespace Sys2Proof.Machine
open Sys2Proof

/-! ### The end of a start-up and the track -/

theorem resolveMotion_track (s : State) :
    (resolveMotion s).track = if s.track.motion = .none then s.track
      else if s.plant.index then (completeMotion s).track
      else { s.track with state := .stopped, motion := .interrupted } := by
  unfold resolveMotion
  (repeat' split) <;> rfl

/-- The track before its carried transfer is resolved: the period fixed, the extension timer preset, the motion completed or
kept (R31). -/
def motionResolved (s : State) : State := resolveMotion (restartExtension (fixPeriod s))

theorem motionResolved_resting {s : State} (h : s.track.state = .off) :
    (motionResolved s).track.state.evaluates = false := by
  have hs : (restartExtension (fixPeriod s)).track.state = .off := by
    unfold restartExtension fixPeriod
    split <;> exact h
  unfold motionResolved
  rw [resolveMotion_track]
  split
  · rw [hs]; rfl
  · split
    · rw [completeMotion_track]; rw [hs]; rfl
    · rfl

/-- A carried transfer that is resolved touches nothing of a resting track but position 0. -/
theorem resolveCarried_track {s : State} (h : s.track.state.evaluates = false) :
    (resolveCarried s).1.track = { s.track with positions := (resolveCarried s).1.track.positions } := by
  have dropped : (dropTransfer s).track = { s.track with positions := (dropTransfer s).track.positions } := by simp
  unfold resolveCarried resolveTransfer
  split
  · rfl
  · split
    · exact completeTransfer_track h
    · exact dropped
  · split
    · exact completeTransfer_track h
    · exact dropped
  · exact settleJam_track h

@[simp] theorem restartTrack_track (s : State) :
    (restartTrack s).track = (resolveCarried (motionResolved s)).1.track := by
  unfold restartTrack motionResolved
  dsimp only
  split <;> simp

theorem restartTrack_resting {s : State} (h : s.track.state = .off) :
    (restartTrack s).track.state.evaluates = false := by
  have hm := motionResolved_resting h
  rw [restartTrack_track, resolveCarried_track hm]
  exact hm

@[simp] theorem latchAtStart_track (s : State) : (latchAtStart s).track = s.track := by simp [latchAtStart]

/-- The part once the track and the merge have taken up their work (R177, R160, R31). -/
def trackRestarted (s : State) : State :=
  let s2 := latchAtStart (enqueue (.startUp s.resetKind s.resetCause s.profile.status)
    { s with phase := .running, settle := .idle })
  if s.resetKind == .warm then restartTrack s2 else s2

/-- The part once every spur head has been read and the conveyor runs (R78, R150). -/
def headsRead (s : State) : State :=
  let t := quads.foldl (fun s n => readSpurHead n s) (trackRestarted s)
  { t with ret := { t.ret with conveyor := !t.interlock.live.estop } }

/-- The part once the return has taken up its work (R150, R151). -/
def returnRestarted (s : State) : State :=
  if s.resetKind == .warm then restartReturn (headsRead s) else strayAtStart (headsRead s)

theorem endStartUp_eq (s : State) : endStartUp s =
    startSample { returnRestarted s with merge := { (returnRestarted s).merge with retest := s.resetKind == .warm } } := by
  unfold endStartUp returnRestarted headsRead trackRestarted
  rfl

/-- Reading every spur head reaches the stations and the directory only (R78). -/
@[simp] theorem readSpurHeads_frame (s : State) :
    let t := quads.foldl (fun s n => readSpurHead n s) s
    t.pending = s.pending ∧ t.choices = s.choices ∧ t.phase = s.phase ∧ t.coldLine = s.coldLine ∧
    t.warmLine = s.warmLine ∧ t.resetKind = s.resetKind ∧ t.resetCause = s.resetCause ∧ t.settle = s.settle ∧
    t.inputs = s.inputs ∧ t.plant = s.plant ∧ t.track = s.track ∧ t.dose = s.dose ∧ t.programmes = s.programmes ∧
    t.merge = s.merge ∧ t.ret = s.ret ∧ t.interlock = s.interlock ∧ t.profile = s.profile ∧ t.link = s.link := by
  simp [quads]

theorem trackRestarted_resting {s : State} (h : s.track.state = .off) :
    (trackRestarted s).track.state.evaluates = false := by
  unfold trackRestarted
  dsimp only
  split
  · exact restartTrack_resting (by simpa using h)
  · simp [h, TrackState.evaluates]

@[simp] theorem restartDeliveries_frame (n : Quad) (s : State) :
    (restartDeliveries n s).pending = s.pending ∧ (restartDeliveries n s).choices = s.choices ∧
    (restartDeliveries n s).phase = s.phase ∧ (restartDeliveries n s).coldLine = s.coldLine ∧
    (restartDeliveries n s).warmLine = s.warmLine ∧ (restartDeliveries n s).resetKind = s.resetKind ∧
    (restartDeliveries n s).resetCause = s.resetCause ∧ (restartDeliveries n s).settle = s.settle ∧
    (restartDeliveries n s).inputs = s.inputs ∧ (restartDeliveries n s).plant = s.plant ∧
    (restartDeliveries n s).track = s.track ∧ (restartDeliveries n s).dose = s.dose ∧
    (restartDeliveries n s).programmes = s.programmes ∧ (restartDeliveries n s).merge = s.merge ∧
    (restartDeliveries n s).directory = s.directory ∧ (restartDeliveries n s).ret = s.ret ∧
    (restartDeliveries n s).interlock = s.interlock ∧ (restartDeliveries n s).profile = s.profile ∧
    (restartDeliveries n s).link = s.link := by
  simp [restartDeliveries]

/-- The return with every timer at its full time, before the prompt (R151). -/
def timersRestarted (s : State) : State :=
  quads.foldl (fun s n => restartDeliveries n s) { s with ret := { s.ret with
    transit := s.ret.transit.map (fun t => { t with travel := .preset (seconds s.profile.values.travelTime) }),
    spacing := .preset Config.spacingTime } }

@[simp] theorem timersRestarted_frame (s : State) :
    (timersRestarted s).phase = s.phase ∧ (timersRestarted s).resetKind = s.resetKind ∧
    (timersRestarted s).settle = s.settle ∧ (timersRestarted s).inputs = s.inputs ∧
    (timersRestarted s).plant = s.plant ∧ (timersRestarted s).track = s.track ∧
    (timersRestarted s).dose = s.dose ∧ (timersRestarted s).programmes = s.programmes ∧
    (timersRestarted s).merge = s.merge ∧ (timersRestarted s).directory = s.directory ∧
    (timersRestarted s).interlock = s.interlock ∧ (timersRestarted s).profile = s.profile ∧
    (timersRestarted s).link = s.link := by
  simp [timersRestarted, quads]

/-- The restart of the return: the timers, a prompt, and the RETURN_HOLD notice of a head still held (R151). -/
theorem restartReturn_eq (s : State) : restartReturn s =
    match (prompt (timersRestarted s)).ret.held, (prompt (timersRestarted s)).ret.transit with
    | true, t :: _ => enqueue (holdNotice t.record (prompt (timersRestarted s))) (prompt (timersRestarted s))
    | _, _ => prompt (timersRestarted s) := by
  unfold restartReturn timersRestarted
  rfl

theorem KeptByEvaluation.restartReturn {P : State → Prop} (k : KeptByEvaluation P) {s : State} (h : P s) :
    P (restartReturn s) := by
  have hp : P (Machine.prompt (timersRestarted s)) := k.prompt (k.congr h)
  rw [restartReturn_eq]
  split
  · exact k.congr hp
  · exact hp

/-- The end of a start-up leaves a resting track at rest. -/
theorem endStartUp_track {s : State} (h : s.track.state = .off) : (endStartUp s).track = (trackRestarted s).track := by
  have hh : (headsRead s).track = (trackRestarted s).track := by simp [headsRead]
  have hr := (keptByEvaluation_restingTrack _ (trackRestarted_resting h)).restartReturn hh
  rw [endStartUp_eq]
  show (returnRestarted s).track = _
  unfold returnRestarted
  split
  · exact hr
  · unfold strayAtStart
    split
    · simpa using hh
    · exact hh

end Sys2Proof.Machine
end

section
namespace Sys2Proof.Machine
open Sys2Proof

/-! ### No reset leaves a working part -/

theorem beginStartUp_not_running (s : State) : (beginStartUp s).phase ≠ .running := by
  unfold beginStartUp
  split <;> simp

theorem holdOrBegin_not_running (s : State) : (holdOrBegin s).phase ≠ .running := by
  unfold holdOrBegin
  split
  · simp
  · exact beginStartUp_not_running s

theorem coldReset_not_running (k : ResetKind) (c : ResetCause) (s : State) : (coldReset k c s).phase ≠ .running :=
  holdOrBegin_not_running _

theorem warmReset_not_running (c : ResetCause) (s : State) : (warmReset c s).phase ≠ .running := by
  unfold warmReset
  split
  · exact coldReset_not_running s.resetKind s.resetCause s
  · exact holdOrBegin_not_running _

theorem requestedReset_not_running (k : ResetKind) (s : State) : (requestedReset k s).phase ≠ .running := by
  unfold requestedReset
  split
  · exact warmReset_not_running .request s
  · exact coldReset_not_running .cold .request s

/-! ### Every command of a working part leaves it guarded before its end -/

/-- The guard of a working part. -/
def GuardedWhenRunning (s : State) : Prop := s.phase = .running → Guarded s

theorem keptByRequests_guardedWhenRunning : KeptByRequests GuardedWhenRunning where
  link h _ hr := (h hr).congr rfl rfl rfl rfl rfl
  request h r hr := (h (by simpa using hr)).executeRequest r

theorem GuardedWhenRunning.settled {b s : State} (h : GuardedWhenRunning s)
    (hr : (conclude b s).phase = .running) : Settled (conclude b s) :=
  have hs : s.phase = .running := by simpa using hr
  (h hs).settled_conclude hs

/-- An event ends settled when its effect keeps the guard. -/
theorem settled_event {b s : State} {f : State → State} (h : GuardedWhenRunning s) (hf : Guarded s → Guarded (f s))
    (hr : (conclude b (whenRunning f s)).phase = .running) : Settled (conclude b (whenRunning f s)) := by
  refine GuardedWhenRunning.settled (fun hp => ?_) hr
  unfold whenRunning at hp ⊢
  split at hp <;> rename_i hs
  · rw [if_pos hs]; exact hf (h hs)
  · exact absurd hp hs

theorem Guarded.ifTimerRuns {s : State} (h : Guarded s) (q : Timer) {f : State → State} (hf : Guarded (f s)) :
    Guarded (ifTimerRuns q f s) := by
  unfold Machine.ifTimerRuns
  split
  · exact hf
  · exact h

theorem Guarded.ifReturnRuns {s : State} (h : Guarded s) {f : State → State} (hf : Guarded (f s)) :
    Guarded (ifReturnRuns f s) := by
  unfold Machine.ifReturnRuns
  split
  · exact h
  · exact hf

theorem Guarded.atFitted {s : State} (h : Guarded s) (n : Quad) {f : State → State} (hf : Guarded (f s)) :
    Guarded (atFitted n f s) := by
  unfold Machine.atFitted
  split
  · exact hf
  · exact h

theorem Guarded.ifNoTransfer {s : State} (h : Guarded s) (n : Quad) {f : State → State} (hf : Guarded (f s)) :
    Guarded (ifNoTransfer n f s) := by
  unfold Machine.ifNoTransfer
  split
  · exact h
  · exact hf

theorem Guarded.deliveryExpiry {s : State} (h : Guarded s) (n : Quad) (i : Nat) : Guarded (deliveryExpiry n i s) := by
  unfold Machine.deliveryExpiry
  split
  · split
    · exact h.congr
    · exact h
  · exact h

/-! ### Commands that can end in a reset -/

section
variable {s : State} (h : Settled s)
include h

theorem Settled.assertCold (hr : (assertCold s).phase = .running) : Settled (assertCold s) := by
  unfold Machine.assertCold at hr ⊢
  dsimp only at hr ⊢
  split at hr <;> rename_i hc
  · rw [if_pos hc]; exact h.congr rfl rfl rfl rfl rfl rfl
  · exact absurd hr (coldReset_not_running _ _ _)

theorem Settled.assertWarm (hr : (assertWarm s).phase = .running) : Settled (assertWarm s) := by
  unfold Machine.assertWarm at hr ⊢
  dsimp only at hr ⊢
  split at hr <;> rename_i hc
  · rw [if_pos hc]; exact h.congr rfl rfl rfl rfl rfl rfl
  · exact absurd hr (warmReset_not_running _ _)

theorem Settled.releaseLine (l : RestartLine) (hp : s.phase = .running) : Settled (releaseLine l s) := by
  have hn : Machine.releaseLine l s = (match l with
      | .cold => { s with coldLine := false }
      | .warm => { s with warmLine := false }) := by
    unfold Machine.releaseLine
    cases l <;> simp [hp]
  rw [hn]
  cases l <;> exact h.congr rfl rfl rfl rfl rfl rfl

end

theorem GuardedWhenRunning.whenLinked {s : State} (h : GuardedWhenRunning s) {f : State → State}
    (hf : GuardedWhenRunning s → GuardedWhenRunning (f s)) : GuardedWhenRunning (whenLinked f s) := by
  unfold Machine.whenLinked
  split
  · exact hf h
  · exact h

theorem GuardedWhenRunning.endTransmission {s : State} (h : GuardedWhenRunning s) :
    GuardedWhenRunning (endTransmission s) := by
  rcases keptByRequests_guardedWhenRunning.endTransmission h with h | ⟨q, l, h⟩
  · exact h
  · rw [h]; exact fun hr => absurd hr (requestedReset_not_running _ _)

/-- Every command of a part whose start-up has ended leaves it settled, or takes it into a reset. -/
theorem exec_settled {c : Instr} {s t : State} (hg : Guarded s) (hs : Settled s) (hp : s.phase = .running)
    (he : exec c s = .next t) (hr : t.phase = .running) : Settled t := by
  have k := keptByEvaluation_guarded
  have l := keptByRequests_guardedWhenRunning
  have hw : GuardedWhenRunning s := fun _ => hg
  have noted (p : Plant) : GuardedWhenRunning (s.sense p) := fun _ => hg
  cases hq : requestOf c with
  | some r =>
    rw [exec_request hq] at he
    cases he
    have hw' : GuardedWhenRunning (withReadings c s) := fun _ => by cases c <;> exact hg
    exact (hw'.whenLinked (l.submit r)).settled hr
  | none =>
    cases c <;> try (cases hq; done)
    all_goals clear hq; obtain rfl := Host.Outcome.next.inj he; clear he
    case supervisoryByteReceived b high p => exact ((noted p).whenLinked (l.receiveByte b high)).settled hr
    case receiveGapExpiry =>
      refine (hw.whenLinked fun h => ?_).settled hr
      unfold ifTimerRuns
      split
      · exact l.receiveGap h
      · exact h
    case transmitComplete p => exact ((noted p).whenLinked .endTransmission).settled hr
    case powerOnReset => exact absurd hr (coldReset_not_running _ _ _)
    case supplyBelowOperatingLevel => exact absurd hr nofun
    case coldRestartLine => exact hs.assertCold hr
    case warmRestartLine => exact hs.assertWarm hr
    case restartLineReleased x => exact hs.releaseLine x hp
    case profileReadComplete image => simpa [completeProfileRead, hp] using hs
    case endOfStartUp p => rw [if_neg (by simp [hp])]; exact hs.congr rfl rfl rfl rfl rfl rfl
    case tagByteReceived b =>
      exact settled_event hw (fun h => h.congr (merge := by unfold tagByte queueTag; (repeat' split) <;> rfl)) hr
    case tagGapExpiry => exact settled_event hw (fun h => h.ifTimerRuns _ (f := tagAbandon) h) hr
    case stepTimerExpiry => exact settled_event hw (fun h => h.ifTimerRuns _ (f := stepFallsDue) h) hr
    case stepCompletion p => exact settled_event (noted _) Guarded.indexMade hr
    case motionTimeout => exact settled_event hw (fun h => h.ifTimerRuns _ h.motionExpiry) hr
    case extensionExpiry => exact settled_event hw (fun h => h.ifTimerRuns _ (f := extensionEnds) h) hr
    case idleTimerExpiry => exact settled_event hw (fun h => h.ifTimerRuns _ h.idleExpiry) hr
    case recoveryTimerExpiry => exact settled_event hw (fun h => h.ifTimerRuns _ h.recoveryExpiry) hr
    case recoveryLimitExpiry => exact settled_event hw (fun h => h.ifTimerRuns _ h.limitExpiry) hr
    case estopChainChange o => exact settled_event (fun _ => hg) (Guarded.changeEstop · o) hr
    case doorChainChange o => exact settled_event (fun _ => hg) (Guarded.changeDoor · o) hr
    case rinseFlowChange o => exact settled_event (fun _ => hg) (Guarded.changeRinse · _) hr
    case tankLevelChange o => exact settled_event (fun _ => hg) (Guarded.changeTank · o) hr
    case sampleCycleExpiry => exact settled_event hw (fun h => h.ifTimerRuns _ (f := startSample) h) hr
    case conversionAComplete a => exact settled_event hw (Guarded.conversionA · a) hr
    case conversionBComplete a => exact settled_event hw (Guarded.conversionB · a) hr
    case stackLift n => exact settled_event hw (fun h => h.atFitted n (k.liftStack n h)) hr
    case sendButton n p => exact settled_event (noted p) (fun h => h.atFitted n (h.pressSend n)) hr
    case spurFullTimerExpiry n =>
      exact settled_event hw (fun h => h.ifTimerRuns _ (f := spurFullOut n) h) hr
    case spurHeadMade n p =>
      exact settled_event (noted _) (fun h => h.atFitted n (h.ifNoTransfer n (f := profileHead n) h.congr)) hr
    case spurHeadClear n =>
      exact settled_event (noted _) (fun h => h.atFitted n (h.ifNoTransfer n (f := withdrawHead n) h.congr)) hr
    case deliveryCompletion n i => exact settled_event hw (fun h => h.deliveryExpiry n i) hr
    case transferCompletion p => exact settled_event (noted _) Guarded.position0Made hr
    case transferTimeout => exact settled_event hw (fun h => h.ifTimerRuns _ h.transferExpiry) hr
    case unloadButton => exact settled_event hw k.pressUnload hr
    case travelTimerExpiry i => exact settled_event hw (fun h => h.ifReturnRuns (k.travelEnds i h)) hr
    case spacingTimerExpiry =>
      exact settled_event hw (fun h => h.ifReturnRuns (h.ifTimerRuns _ (k.spacingEnds h))) hr
    case routerArrivalSensor o => exact settled_event (fun _ => hg) (k.arrivalSensor _ o) hr

/-! ### How a part comes to work -/

theorem keptByRequests_notRunning : KeptByRequests (fun s => s.phase ≠ .running) where
  link h _ := h
  request h r := by simpa using h

theorem whenRunning_of_not {f : State → State} {s : State} (h : s.phase ≠ .running) : whenRunning f s = s := by
  simp [whenRunning, h]

/-- Only the end of a start-up takes a part to work (R176). -/
theorem exec_starts {c : Instr} {s t : State} (hp : s.phase ≠ .running) (he : exec c s = .next t)
    (hr : t.phase = .running) :
    ∃ p, s.phase = .settling ∧ t = conclude s (endStartUp (s.sense p)) := by
  have l := keptByRequests_notRunning
  have linked {u : State} {f : State → State} (hu : u.phase ≠ .running) (hf : (f u).phase ≠ .running) :
      (conclude s (whenLinked f u)).phase ≠ .running := by
    simp only [conclude_frame, whenLinked]
    split
    · exact hf
    · exact hu
  have idle {u : State} (f : State → State) (hu : u.phase ≠ .running) :
      (conclude s (whenRunning f u)).phase ≠ .running := by
    simpa [whenRunning_of_not hu] using hu
  cases hq : requestOf c with
  | some r =>
    rw [exec_request hq] at he
    obtain rfl := Host.Outcome.next.inj he
    exact absurd hr (linked (by simpa using hp) (l.submit r (by simpa using hp)))
  | none =>
    cases c <;> try (cases hq; done)
    all_goals clear hq; obtain rfl := Host.Outcome.next.inj he; clear he
    case supervisoryByteReceived b high p => exact absurd hr (linked hp (l.receiveByte b high hp))
    case receiveGapExpiry =>
      refine absurd hr (linked hp ?_)
      unfold ifTimerRuns
      split
      · exact l.receiveGap hp
      · exact hp
    case transmitComplete p =>
      refine absurd hr (linked hp ?_)
      rcases l.endTransmission (s := s.sense p) hp with h | ⟨q, x, h⟩
      · exact h
      · rw [h]; exact requestedReset_not_running _ _
    case powerOnReset => exact absurd hr (coldReset_not_running _ _ _)
    case supplyBelowOperatingLevel => exact absurd hr nofun
    case coldRestartLine =>
      revert hr
      unfold assertCold
      dsimp only
      split
      · exact fun hr => absurd hr hp
      · exact fun hr => absurd hr (coldReset_not_running _ _ _)
    case warmRestartLine =>
      revert hr
      unfold assertWarm
      dsimp only
      split
      · exact fun hr => absurd hr hp
      · exact fun hr => absurd hr (warmReset_not_running _ _)
    case restartLineReleased x =>
      cases x <;> (
        unfold releaseLine at hr
        dsimp only at hr
        split at hr
        · exact absurd hr (beginStartUp_not_running _)
        · exact absurd hr hp)
    case profileReadComplete image =>
      unfold completeProfileRead at hr
      split at hr
      · exact absurd hr nofun
      · exact absurd hr hp
    case endOfStartUp p =>
      by_cases hs : s.phase = .settling
      · exact ⟨p, hs, by rw [if_pos hs]⟩
      · rw [if_neg hs] at hr
        exact absurd hr hp
    all_goals exact absurd hr (idle _ hp)

/-! ### Steps -/

/-- A step is the execution of a command with the rest of the queue waiting, or 10 ms of the clock (log entries 1 and
6). -/
theorem step_cases {s t : State} (h : step s = .next t) :
    (∃ c q n, exec c { s with pending := q, choices := n } = .next t) ∨ t = tick s := by
  unfold step idleStep at h
  split at h
  · exact .inl ⟨_, _, _, h⟩
  · split at h
    · exact .inl ⟨_, _, _, h⟩
    · exact .inr (Host.Outcome.next.inj h).symm

theorem Timer.tick_idle (t : Timer) : t.tick = .idle ↔ t = .idle := by cases t <;> simp [Timer.tick]

theorem Timer.tick_expired (t : Timer) : t.tick = .expired ↔ t = .expired := by cases t <;> simp [Timer.tick]

theorem tickRunning_spur (s : State) (n : Quad) :
    ((tickRunning s).stations.get n).spur = (s.stations.get n).spur := by
  match n with
  | 0 => rfl
  | 1 => rfl
  | 2 => rfl
  | 3 => rfl

/-- What 10 ms leave of the queues of the return. -/
theorem Return.tick_queues (p : Bool) (r : Return) :
    (r.tick p).lane = r.lane ∧ (r.tick p).cleanEnd = r.cleanEnd ∧ (r.tick p).surplus = r.surplus ∧
      (r.tick p).inspections = r.inspections ∧ (r.tick p).transit.map (·.record) = r.transit.map (·.record) := by
  unfold Return.tick
  split <;> simp [Function.comp_def]

theorem Settled.tickRunning {s : State} (h : Settled s) : Settled (tickRunning s) := by
  obtain ⟨⟨hr, hh, hp⟩, hg, hi⟩ := h
  have hq := Return.tick_queues (returnPaused s) s.ret
  have hroute : exitRoute (Machine.tickRunning s) = exitRoute s := by
    funext r
    simp only [exitRoute, cleanHasPlace, cleanCount, laneCount, cleanReserved, laneReserved, State.reservation,
      Machine.tickRunning, hq]
    rfl
  have hfound : routeFound (Machine.tickRunning s) = routeFound s := by
    simp only [routeFound, hroute]
    rfl
  have hdose : doseMet (Machine.tickRunning s) = doseMet s := by
    have : (s.track.extension.tick == .expired) = (s.track.extension == .expired) := by
      rw [Bool.eq_iff_iff, beq_iff_eq, beq_iff_eq, Timer.tick_expired]
    simp only [doseMet, Machine.tickRunning, this]
    rfl
  have hholds : holdsNow (Machine.tickRunning s) = holdsNow s := by
    simp only [holdsNow, hfound, hdose]
    rfl
  have hwait : headWaiting (Machine.tickRunning s) = headWaiting s := by
    funext n
    simp only [headWaiting, StationUnit.head, tickRunning_spur]
    rfl
  have hopen : grantOpen (Machine.tickRunning s) = grantOpen s := by
    simp only [grantOpen, hwait]
    simp only [Machine.tickRunning, hq]
    rfl
  have hidle : idleInReady (Machine.tickRunning s) = idleInReady s := by
    simp only [idleInReady, partIdle, Machine.tickRunning, hq]
    rfl
  refine ⟨⟨hr, fun e => ?_, fun e hd hm => ?_⟩, hopen.trans hg, ?_⟩
  · obtain ⟨hx, hy, hz⟩ := hh e
    exact ⟨hx.imp_right fun hne hti => hne ((Timer.tick_idle _).mp hti), hholds ▸ hy, hz⟩
  · obtain ⟨hx, hy⟩ := hp e hd hm
    exact ⟨hfound.trans hx, hy⟩
  · rw [hidle]
    exact hi.imp_right (Timer.tick_idle _).mpr

/-- The guard of the moving parts and what every command does at its end leave nothing to follow (R7, R9, R92, R161). -/
theorem step_settled {s t : State} (hm : Moving s) (hs : s.phase = .running → Settled s) (h : step s = .next t)
    (hr : t.phase = .running) : Settled t := by
  rcases step_cases h with ⟨c, q, n, he⟩ | rfl
  · by_cases hp : s.phase = .running
    · exact exec_settled (s := { s with pending := q, choices := n }) (hm.guarded hp)
        ((hs hp).congr rfl rfl rfl rfl rfl rfl) hp he hr
    · obtain ⟨p, _, rfl⟩ := exec_starts (s := { s with pending := q, choices := n }) hp he hr
      have hoff : s.track.state = .off := (hm.2.2 hp).1
      have hrest := trackRestarted_resting (s := ({ s with pending := q, choices := n } : State).sense p) hoff
      exact settled_conclude (by simpa using hr) fun hev => by
        rw [endStartUp_track (by exact hoff), hrest] at hev
        cases hev
  · unfold tick at hr ⊢
    split at hr
    · next hp => exact (hs hp).tickRunning
    all_goals next hp => exact absurd (hp.symm.trans hr) nofun

/-- Settles O56: the guard of the moving parts is kept by every command's own effect, and the end of a command then leaves
nothing to follow. -/
theorem nothingIsLeftToFollow : Obligations.NothingIsLeftToFollow :=
  fun _ _ hm hs h hr => step_settled hm hs h hr

/-! ### A motion carried into a cold start-up -/

/-- A part at rest before the end of a cold start-up, with a motion recorded as in flight: `Moving` asks nothing of the
motion before start-up has ended, and a cold start-up, unlike a warm one, resolves none. -/
def motionBeforeColdStart : State :=
  { State.reset with
    pending := [.endOfStartUp plantAtRest], phase := .settling, resetKind := .cold,
    track := { Track.fresh with motion := .inFlight } }

theorem moving_motionBeforeColdStart : Moving motionBeforeColdStart := by
  refine ⟨⟨.inr rfl, by decide⟩, (fun h => absurd h (by decide)), fun _ => ?_⟩
  unfold AtRest
  decide

/-- The step that ends its start-up leaves the motion in flight with the drive stopped. -/
theorem step_motionBeforeColdStart : ∃ t, step motionBeforeColdStart = .next t ∧ t.phase = .running ∧
    t.track.motion = .inFlight ∧ t.track.chainDrive = false :=
  ⟨_, rfl, by decide +kernel, by decide +kernel, by decide +kernel⟩

/-- Refutes O54: before start-up has ended the invariant admits a motion in flight in a part at rest, and the end of a cold
start-up takes it over with the drive stopped. No run reaches such a state, since a cold reset leaves no motion. -/
theorem not_movingPartsStayConsistent : ¬ Obligations.MovingPartsStayConsistent := by
  intro h
  obtain ⟨t, hstep, hrun, hmotion, hdrive⟩ := step_motionBeforeColdStart
  obtain ⟨⟨hd, _⟩, _⟩ := (h _ t moving_motionBeforeColdStart hstep).2.1 hrun
  rw [hd.mpr hmotion] at hdrive
  cases hdrive

end Sys2Proof.Machine
end

section
namespace Sys2Proof.Machine
open Sys2Proof

/-! ## Right after a power-on reset -/

theorem reset_position (i : Fin 17) : State.reset.track.positions[i] = none := by
  simp [State.reset, Track.fresh]

theorem reset_station (n : Quad) : State.reset.stations.get n = .fresh := Four.get_all _ _

theorem reset_dirSet (i : Fin 64) : State.reset.directory[i] = .fresh := by
  simp [State.reset]

/-- Settles O48: the values stand in `State.reset` as the tables give them. -/
theorem powerOnValuesAreTheTables : Obligations.PowerOnValuesAreTheTables := by
  refine ⟨rfl, rfl, rfl, rfl, rfl, rfl, reset_position, rfl, rfl, rfl, rfl, rfl, rfl, rfl, rfl, rfl, rfl, rfl, rfl, rfl,
    rfl, rfl, rfl, rfl, rfl, rfl, reset_station, rfl, reset_dirSet, rfl, rfl, rfl, rfl, rfl, rfl, rfl⟩

theorem reset_not_running : State.reset.phase ≠ .running := nofun

theorem moving_reset : Moving State.reset :=
  ⟨⟨.inl rfl, by simp [State.reset, Merge.fresh]⟩, fun h => absurd h reset_not_running, fun _ =>
    ⟨rfl, rfl, rfl, rfl, rfl, rfl, rfl, rfl, rfl, rfl, rfl, rfl, rfl, rfl⟩⟩

theorem reset_holds_no_record : ∀ r ∈ State.reset.track.positions.toList, r = none := by
  simp [State.reset, Track.fresh]

theorem lockSound_reset : LockSound State.reset := by
  refine ⟨fun _ => rfl, nofun, fun _ => ⟨rfl, nofun, rfl, fun r hr x hx => ?_⟩⟩
  rw [reset_holds_no_record r hr] at hx
  cases hx

theorem reset_unreserved : State.reset.reservation = none := by
  rw [State.reservation, Track.x, show State.reset.track.positions[16] = none from reset_position 16, Option.bind_none]

theorem places_reset : Places State.reset := by
  refine ⟨⟨fun i _ r h => ?_, fun r h => ?_, fun _ h => absurd h List.not_mem_nil,
      fun _ h => absurd h List.not_mem_nil⟩, ?_, ?_, by decide, by decide, by decide, fun n => ?_⟩
  · rw [reset_position] at h; cases h
  · rw [Track.x, show State.reset.track.positions[16] = none from reset_position 16] at h; cases h
  · rw [cleanCount, cleanReserved, reset_unreserved]; decide
  · rw [laneCount, laneReserved, reset_unreserved]; decide
  · rw [reset_station]; decide

theorem countsInRange_reset : CountsInRange State.reset := by
  refine ⟨fun i r h => ?_, fun _ h => absurd h List.not_mem_nil, fun _ h => absurd h List.not_mem_nil,
    fun _ h => absurd h List.not_mem_nil, by decide, by decide, by decide, by decide⟩
  rw [reset_position] at h; cases h

theorem heldIds_reset : heldIds State.reset = [] := by decide

theorem keptRecords_reset : keptRecords State.reset = [] := by decide

theorem tracked_reset : Tracked State.reset := by
  refine ⟨⟨by rw [heldIds_reset]; exact .nil, trivial⟩, fun i => ?_, ?_⟩
  · rw [reset_dirSet]
    exact ⟨fun w e h => by simp [DirSet.fresh] at h, fun v w e f h => by simp [DirSet.fresh] at h⟩
  · simp [Pinned, keptRecords_reset]

theorem linkSound_reset : LinkSound State.reset := by
  refine ⟨by decide, .nil, by decide, by decide, fun _ => rfl, nofun, fun _ => ⟨rfl, rfl⟩, nofun, by decide, by decide,
    by decide, by decide, by decide⟩

/-- Settles O60, invariant by invariant. -/
theorem theInvariantsHoldAtReset : Obligations.TheInvariantsHoldAtReset :=
  ⟨moving_reset, lockSound_reset, fun h => absurd h reset_not_running, places_reset, countsInRange_reset,
    tracked_reset.1, tracked_reset, linkSound_reset⟩

/-! ## The exit routing -/

/-- The lane takes a SHORT record again: its snapshot allows rewash, its count is below the limit, and the lane has a
place (R12). -/
def washableAgain (s : State) (r : TrackRecord) : Prop :=
  ∃ p, r.programme = some p ∧ p.allowed = true ∧ r.rewashCount < p.rewash ∧ laneCount s < Config.lanePlaces

theorem exitRoute_sanitised {s : State} {r : TrackRecord} (h : r.verdict = .sanitised) :
    exitRoute s r = if cleanHasPlace s then some .clean else none := by
  simp [exitRoute, h]

theorem exitRoute_again {s : State} {r : TrackRecord} (h : r.verdict = .short) (ha : washableAgain s r) :
    exitRoute s r = some .rewash := by
  obtain ⟨p, hp, h1, h2, h3⟩ := ha
  simp [exitRoute, h, hp, h1, h2, h3]

theorem exitRoute_not_again {s : State} {r : TrackRecord} (h : r.verdict = .short) (ha : ¬ washableAgain s r) :
    exitRoute s r = if cleanHasPlace s then some .quarantine else none := by
  unfold exitRoute
  rw [h]
  cases hp : r.programme with
  | none => simp
  | some p =>
    have hn : (p.allowed && decide (r.rewashCount < p.rewash) && decide (laneCount s < Config.lanePlaces)) = false := by
      rw [← Bool.not_eq_true]
      simp only [Bool.and_eq_true, decide_eq_true_eq]
      exact fun ⟨⟨h1, h2⟩, h3⟩ => ha ⟨p, hp, h1, h2, h3⟩
    dsimp only
    rw [hn, if_neg Bool.false_ne_true]

theorem cleanCount_eq_length (s : State) : cleanCount s = s.ret.cleanEnd.length +
    (if s.reservation = some .clean ∨ s.reservation = some .quarantine then 1 else 0) := by
  simp [cleanCount, cleanReserved]

theorem laneCount_eq_length (s : State) : laneCount s = s.ret.lane.length +
    (if s.reservation = some .rewash then 1 else 0) := by
  simp [laneCount, laneReserved]

theorem cleanHasPlace_iff (s : State) : cleanHasPlace s = true ↔ cleanCount s < 4 := decide_eq_true_iff

/-- Settles O18: the routing verdict by verdict, with the places of the clean end and the lane. -/
theorem exitRoutingFollowsTheVerdict : Obligations.ExitRoutingFollowsTheVerdict := by
  unfold Obligations.ExitRoutingFollowsTheVerdict
  intro s r
  simp only [← cleanCount_eq_length, ← laneCount_eq_length]
  have full (h : 4 ≤ cleanCount s) : ¬ cleanHasPlace s = true := by rw [cleanHasPlace_iff]; omega
  refine ⟨fun h hc => ?_, fun h hc => ?_, exitRoute_again, fun h ha hc => ?_, fun h ha hc => ?_, fun hx => ?_, fun hx => ?_⟩
  · rw [exitRoute_sanitised h, if_pos ((cleanHasPlace_iff s).mpr hc)]
  · rw [exitRoute_sanitised h, if_neg (full hc)]
  · rw [exitRoute_not_again h ha, if_pos ((cleanHasPlace_iff s).mpr hc)]
  · rw [exitRoute_not_again h ha, if_neg (full hc)]
  · simp [holdsNow, routeFound, Track.x, hx]
  · simp [holdsNow, routeFound, Track.x, hx]

/-! ## The period -/

theorem mem_divisors {t : Track} {d : Nat} : d ∈ t.divisors ↔ ∃ (i : Fin 17) (r : TrackRecord) (p : Snapshot),
    2 ≤ i.val ∧ i.val ≤ 12 ∧ t.positions[i] = some r ∧ r.programme = some p ∧ p.divisor = d := by
  unfold Track.divisors
  rw [List.mem_filterMap]
  constructor
  · rintro ⟨o, ho, hd⟩
    obtain ⟨i, hi, rfl⟩ := List.getElem_of_mem ho
    simp only [List.length_take, List.length_drop, Vector.length_toList] at hi
    simp only [List.getElem_take, List.getElem_drop, Vector.getElem_toList, Option.map_eq_some_iff,
      Option.bind_eq_some_iff] at hd
    obtain ⟨p, ⟨r, hr, hp⟩, rfl⟩ := hd
    exact ⟨⟨2 + i, by omega⟩, r, p, by dsimp only; omega, by dsimp only; omega, hr, hp, rfl⟩
  · rintro ⟨i, r, p, h2, h12, hr, hp, rfl⟩
    refine ⟨t.positions[i], ?_, by simp [hr, hp]⟩
    refine List.mem_iff_getElem.mpr ⟨i.val - 2, by simp; omega, ?_⟩
    simp [show 2 + (i.val - 2) = i.val by omega]

/-- The period is one more than the largest divisor, and that is one of them. -/
theorem periodOf_cases (s : State) :
    (s.track.divisors = [] ∧ periodOf s = defaultDivisor s + 1) ∨
      ∃ d ∈ s.track.divisors, (∀ e ∈ s.track.divisors, e ≤ d) ∧ periodOf s = d + 1 := by
  unfold periodOf
  split
  · next h => exact .inl ⟨h, rfl⟩
  · next d ds h =>
    obtain ⟨hm, hle⟩ := List.max?_eq_some_iff.mp (List.max?_cons' (x := d) (xs := ds))
    exact .inr ⟨ds.foldl max d, h ▸ hm, h ▸ hle, rfl⟩

theorem defaultDivisor_succ (s : State) : defaultDivisor s + 1 = match s.programmes.table[1] with
    | some d => d.divisor + 1
    | none => 180 := by
  unfold defaultDivisor
  cases s.programmes.table[1] <;> rfl

/-- Settles O20: the divisors are those of the records in positions 2 to 12, and the period is their maximum plus one. -/
theorem periodIsFixedByTheSlowest : Obligations.PeriodIsFixedByTheSlowest := by
  intro s
  refine ⟨fun i r p h2 h12 hr hp => ?_, fun ⟨i, r, p, h2, h12, hr, hp⟩ => ?_, fun hn => ?_⟩
  · have hd : p.divisor ∈ s.track.divisors := mem_divisors.mpr ⟨i, r, p, h2, h12, hr, hp, rfl⟩
    rcases periodOf_cases s with ⟨he, _⟩ | ⟨d, _, hle, hq⟩
    · rw [he] at hd; cases hd
    · rw [hq]; exact Nat.succ_le_succ (hle _ hd)
  · have hd : p.divisor ∈ s.track.divisors := mem_divisors.mpr ⟨i, r, p, h2, h12, hr, hp, rfl⟩
    rcases periodOf_cases s with ⟨he, _⟩ | ⟨d, hm, _, hq⟩
    · rw [he] at hd; cases hd
    · obtain ⟨j, r', p', h2', h12', hr', hp', rfl⟩ := mem_divisors.mp hm
      exact ⟨j, r', p', h2', h12', hr', hp', hq⟩
  · rcases periodOf_cases s with ⟨_, hq⟩ | ⟨d, hm, _⟩
    · exact hq.trans (defaultDivisor_succ s)
    · obtain ⟨j, r, p, h2, h12, hr, hp, _⟩ := mem_divisors.mp hm
      rw [hn j r h2 h12 hr] at hp
      cases hp

end Sys2Proof.Machine
end

section
namespace Sys2Proof.Machine
open Sys2Proof

/-! ## Resets -/

/-! ### Held in reset, or begun at once -/

theorem holdOrBegin_of_clear {s : State} (hc : s.coldLine = false) (hw : s.warmLine = false) :
    holdOrBegin s = beginStartUp s := by
  simp [holdOrBegin, lineAsserted, hc, hw]

theorem holdOrBegin_of_asserted {s : State} (h : s.coldLine = true ∨ s.warmLine = true) :
    holdOrBegin s = { s with
      phase := .held, settle := .idle, profile := { s.profile with reading := false, bits := 0 } } := by
  rcases h with h | h <;> simp [holdOrBegin, lineAsserted, h]

theorem beginStartUp_of_warm {s : State} (h : s.resetKind = .warm) :
    beginStartUp s = { s with phase := .settling, settle := .running 5 } := if_pos h

theorem beginStartUp_of_not_warm {s : State} (h : s.resetKind ≠ .warm) :
    beginStartUp s = { s with
      phase := .profileRead, settle := .idle, profile := { s.profile with reading := true, bits := 0 } } := if_neg h

/-- A fresh state stands at the beginning of its profile read already. -/
theorem beginStartUp_freshState {k : ResetKind} (h : k ≠ .warm) (c : ResetCause) (s : State) :
    beginStartUp (freshState k c s) = freshState k c s := beginStartUp_of_not_warm h

theorem coldReset_of_clear {k : ResetKind} (h : k ≠ .warm) (c : ResetCause) {s : State} (hc : s.coldLine = false)
    (hw : s.warmLine = false) : coldReset k c s = freshState k c s := by
  exact (holdOrBegin_of_clear (s := freshState k c s) hc hw).trans (beginStartUp_freshState h c s)

/-- A link with nothing to send leaves an idle transmitter idle. -/
theorem chooseMessage_of_empty {s : State} (hr : s.link.reply = none) (hn : s.link.notices = []) :
    chooseMessage s = s := by
  unfold chooseMessage
  rw [hr, hn]
  split <;> simp_all

/-- The end of a reply that asks for a reset takes it (R175). -/
theorem endTransmission_restart {s : State} {r : Reply} {k : ResetKind} (ht : s.link.transmitter = .reply)
    (hr : s.link.reply = some r) (hk : r.body = .restart k) :
    endTransmission s = requestedReset k { s with link := { s.link with transmitter := .idle } } := by
  simp only [endTransmission, ht, hr, Reply.restartKind, hk]

theorem exec_transmitComplete_restart {s : State} {p : Plant} {r : Reply} {k : ResetKind} (hl : s.linkWorks = true)
    (ht : s.link.transmitter = .reply) (hr : s.link.reply = some r) (hk : r.body = .restart k) :
    exec (.transmitComplete p) s =
      .next (chooseMessage (requestedReset k { s.sense p with link := { s.link with transmitter := .idle } })) := by
  have h : exec (.transmitComplete p) s = .next (conclude s (whenLinked endTransmission (s.sense p))) := rfl
  rw [h, whenLinked, if_pos (by exact hl), endTransmission_restart (s := s.sense p) ht hr hk,
    conclude_not_running (requestedReset_not_running _ _)]
  rfl

/-! ### Cold resets -/

/-- The power-on and cold resets, case by case of the lines. -/
theorem cold_resets (s : State) :
    let fresh := fun (k : ResetKind) (c : ResetCause) => freshState k c s
    let held := fun t : State => { t with phase := .held, profile := { t.profile with reading := false } }
    (s.coldLine = false → s.warmLine = false → exec .powerOnReset s = .next (fresh .powerOn .supply)) ∧
    (s.coldLine = true ∨ s.warmLine = true → exec .powerOnReset s = .next (held (fresh .powerOn .supply))) ∧
    (s.coldLine = false → s.phase ≠ .noSupply →
      exec .coldRestartLine s = .next { held (fresh .cold .line) with coldLine := true }) ∧
    (s.coldLine = true ∨ s.phase = .noSupply → exec .coldRestartLine s = .next { s with coldLine := true }) ∧
    (∀ p r, s.linkWorks = true → s.coldLine = false → s.warmLine = false → s.link.transmitter = .reply →
      s.link.reply = some r → r.body = .restart .cold →
      exec (.transmitComplete p) s = .next { fresh .cold .request with plant := p }) ∧
    exec .supplyBelowOperatingLevel s = .next { held (fresh .powerOn .supply) with phase := .noSupply } := by
  refine ⟨fun hc hw => ?_, fun h => ?_, fun hc hp => ?_, fun h => ?_, fun p r hl hc hw ht hr hk => ?_, rfl⟩
  · exact congrArg Host.Outcome.next (coldReset_of_clear (by decide) .supply hc hw)
  · exact congrArg Host.Outcome.next (holdOrBegin_of_asserted (s := freshState .powerOn .supply s) h)
  · have h : assertCold s = coldReset .cold .line { s with coldLine := true } := by simp [assertCold, hc, hp]
    exact congrArg Host.Outcome.next (h.trans (holdOrBegin_of_asserted (.inl rfl)))
  · have ha : assertCold s = { s with coldLine := true } := by rcases h with h | h <;> simp [assertCold, h]
    exact congrArg Host.Outcome.next ha
  · rw [exec_transmitComplete_restart hl ht hr hk]
    have h : requestedReset .cold { s.sense p with link := { s.link with transmitter := .idle } } =
        { freshState .cold .request s with plant := p } := coldReset_of_clear (by decide) .request hc hw
    rw [h, chooseMessage_of_empty rfl rfl]

/-- The release of a restart line, by the other line and the kind of the reset. -/
theorem releaseLine_cases (s : State) (l : RestartLine) :
    let t : State := { s with coldLine := if l = .cold then false else s.coldLine,
                              warmLine := if l = .warm then false else s.warmLine }
    let last := if l = .cold then s.warmLine = false else s.coldLine = false
    (s.phase = .held → last → releaseLine l s = beginStartUp t) ∧ (s.phase ≠ .held ∨ ¬ last → releaseLine l s = t) := by
  cases l <;> refine ⟨fun hp hl => ?_, fun h => ?_⟩
  · have hl : s.warmLine = false := hl
    simp [releaseLine, lineAsserted, hp, hl]
  · have h : s.phase ≠ .held ∨ ¬ s.warmLine = false := h
    rcases h with h | h <;> simp_all [releaseLine, lineAsserted]
  · have hl : s.coldLine = false := hl
    simp [releaseLine, lineAsserted, hp, hl]
  · have h : s.phase ≠ .held ∨ ¬ s.coldLine = false := h
    rcases h with h | h <;> simp_all [releaseLine, lineAsserted]

/-- Settles O49. -/
theorem coldResetsStartAfresh : Obligations.ColdResetsStartAfresh := by
  refine ⟨cold_resets, fun s l => ?_⟩
  obtain ⟨hb, hn⟩ := releaseLine_cases s l
  refine ⟨fun hp hl hk => ?_, fun hp hl hk => ?_, fun h => congrArg Host.Outcome.next (hn h)⟩
  · exact congrArg Host.Outcome.next ((hb hp hl).trans (beginStartUp_of_warm hk))
  · exact congrArg Host.Outcome.next ((hb hp hl).trans (beginStartUp_of_not_warm hk))

/-! ### Warm resets -/

theorem assertWarm_taken {s : State} (hw : s.warmLine = false) (hc : s.coldLine = false) (hp : s.phase ≠ .noSupply) :
    assertWarm s = warmReset .line { s with warmLine := true } := by
  simp [assertWarm, hw, hc, hp]

/-- A warm reset of a part that works or is in a warm start-up (R174). -/
theorem warmReset_of_not_cold (c : ResetCause) {s : State} (h : s.phase = .running ∨ s.resetKind = .warm) :
    warmReset c s = holdOrBegin { warmState s with
      resetKind := .warm, resetCause := if s.phase = .running then c else s.resetCause } := by
  rcases h with h | h <;> simp [warmReset, coldUnderWay, h]

/-- A warm reset during a power-on or cold start-up (R174). -/
theorem warmReset_of_cold (c : ResetCause) {s : State} (hp : s.phase ≠ .running) (hk : s.resetKind ≠ .warm) :
    warmReset c s = { coldReset s.resetKind s.resetCause s with link := s.link.warm } := by
  simp [warmReset, coldUnderWay, hp, hk]

/-- Settles O50. -/
theorem warmResetsKeepTheRecords : Obligations.WarmResetsKeepTheRecords := by
  intro s
  refine ⟨fun hw hc hp => ?_, fun hw hc hp hs hk => ?_, fun hw hc hp hs hk => ?_, fun h => ?_,
    fun p r hp hc hw ht hr hk => ?_⟩
  · have ht := assertWarm_taken hw hc (by rw [hp]; nofun)
    have hr := warmReset_of_not_cold .line (s := { s with warmLine := true }) (.inl hp)
    rw [if_pos hp] at hr
    exact congrArg Host.Outcome.next (ht.trans (hr.trans (holdOrBegin_of_asserted (.inr rfl))))
  · have ht := assertWarm_taken hw hc hs
    have hr := warmReset_of_not_cold .line (s := { s with warmLine := true }) (.inr hk)
    rw [if_neg hp] at hr
    exact congrArg Host.Outcome.next (ht.trans (hr.trans (holdOrBegin_of_asserted (.inr rfl))))
  · have ht := assertWarm_taken hw hc hs
    have hr := warmReset_of_cold .line (s := { s with warmLine := true }) hp hk
    rw [coldReset, holdOrBegin_of_asserted (.inr rfl)] at hr
    refine congrArg Host.Outcome.next (ht.trans (hr.trans ?_))
    simp only [freshState, hc]
    rfl
  · have ha : assertWarm s = { s with warmLine := true } := by rcases h with h | h | h <;> simp [assertWarm, h]
    exact congrArg Host.Outcome.next ha
  · rw [exec_transmitComplete_restart (by simp [State.linkWorks, hp]) ht hr hk]
    have hq := warmReset_of_not_cold .request (s := { s.sense p with link := { s.link with transmitter := .idle } }) (.inl hp)
    rw [if_pos (by exact hp), holdOrBegin_of_clear (by exact hc) (by exact hw), beginStartUp_of_warm rfl] at hq
    have h : requestedReset .warm { s.sense p with link := { s.link with transmitter := .idle } } = _ := hq
    rw [h, chooseMessage_of_empty rfl rfl]
    rfl

end Sys2Proof.Machine
end

section
namespace Sys2Proof.Machine
open Sys2Proof

/-! ## The track's requests and timers -/

/-! ### Times -/

theorem preset_seconds (n : Nat) : Timer.preset (seconds n) = .running (100 * n) := by
  rw [Timer.preset, seconds, Nat.mul_comm]

theorem preset_tensOfSeconds (n : Nat) : Timer.preset (tensOfSeconds n) = .running (1000 * n) := by
  rw [Timer.preset, tensOfSeconds, Nat.mul_comm]

/-! ### Expiries -/

theorem event_running {f : State → State} {s : State} (h : s.phase = .running) : event f s = conclude s (f s) := by
  rw [event, whenRunning, if_pos h]

theorem event_timer_running {t : Timer} {g : Nat} {f : State → State} {s : State} (h : s.phase = .running)
    (ht : t = .running g) : event (ifTimerRuns t f) s = conclude s (f s) := by
  subst ht
  exact event_running h

/-- A sound link has its transmitter's choice made already. -/
theorem LinkSound.chooseMessage_eq {s : State} (h : LinkSound s) : chooseMessage s = s := by
  obtain ⟨_, _, _, _, _, _, hidle, _⟩ := h
  cases ht : s.link.transmitter with
  | idle => exact chooseMessage_of_empty (hidle ht).1 (hidle ht).2
  | reply => simp [chooseMessage, ht]
  | notice n => simp [chooseMessage, ht]

/-- With nothing left to follow a command without an effect changes nothing. -/
theorem conclude_self {s : State} (hs : Settled s) (hl : LinkSound s) : conclude s s = s :=
  (conclude_settled hs id).trans hl.chooseMessage_eq

theorem event_timer_stopped {t : Timer} {f : State → State} {s : State} (hs : Settled s) (hl : LinkSound s)
    (ht : t.isRunning = false) : event (ifTimerRuns t f) s = s := by
  have h : whenRunning (ifTimerRuns t f) s = s := by
    unfold whenRunning ifTimerRuns
    rw [ht]
    exact ite_self s
  rw [event, h]
  exact conclude_self hs hl

theorem motionExpiry_inFlight {s : State} (h : s.track.motion = .inFlight) : motionExpiry s = jamMotion s := if_pos h

/-- Settles O21. -/
theorem trackTimersExpire : Obligations.TrackTimersExpire := by
  intro s hr
  refine ⟨fun g hg => ?_, fun g hg => ?_, fun g hg hm => ?_, fun hs hl => ⟨fun h => ?_, fun h => ?_, fun h => ?_⟩⟩
  · exact congrArg Host.Outcome.next (event_timer_running hr hg)
  · exact congrArg Host.Outcome.next (event_timer_running hr hg)
  · have he := event_timer_running (f := motionExpiry) hr hg
    rw [motionExpiry_inFlight hm] at he
    exact congrArg Host.Outcome.next he
  · exact congrArg Host.Outcome.next (event_timer_stopped hs hl h)
  · exact congrArg Host.Outcome.next (event_timer_stopped hs hl h)
  · exact congrArg Host.Outcome.next (event_timer_stopped hs hl h)

/-! ### RUN -/

theorem chainsClosed_iff {s : State} :
    chainsClosed s = true ↔ s.interlock.live.estop = false ∧ s.interlock.live.door = false := by
  simp [chainsClosed]

theorem runRefused_iff {s : State} : runRefused s = true ↔ s.interlock.live.estop = true ∨ s.interlock.live.door = true ∨
    s.track.state = .fault ∨ s.track.state = .purging ∨ s.programmes.required = true := by
  simp only [runRefused, chainsClosed, Bool.or_eq_true, Bool.not_eq_true', Bool.and_eq_false_iff, beq_iff_eq]
  cases s.interlock.live.estop <;> cases s.interlock.live.door <;> simp [or_assoc]

theorem requestRun_refused {s : State} (h : runRefused s = true) : requestRun s = (s, .state, .empty) := if_pos h

theorem resolveInterrupted_of_not {s : State} (h : s.merge.state ≠ .interrupted) : resolveInterrupted s = s := if_neg h

/-- A RUN that is taken sets the lock and moves the track (R3, R64). -/
theorem exec_run_taken {s : State} (p : Plant) (hl : Listening s) (hr : runRefused s = false)
    (hm : s.merge.state ≠ .interrupted) :
    exec (.run p) s = .next (conclude s (answered 0x08 .ok .empty
      (runMove { s with plant := p, programmes := { s.programmes with lock := true } }))) := by
  have he : executeRequest .run (s.sense p) =
      (runMove { s with plant := p, programmes := { s.programmes with lock := true } }, .ok, .empty) := by
    have hr' : ¬ runRefused (s.sense p) = true := ne_true_of_eq_false hr
    simp only [executeRequest, requestRun, if_neg hr']
    rw [resolveInterrupted_of_not (by exact hm)]
    rfl
  have := exec_listening (c := .run p) (r := .run) rfl hl
  rw [show withReadings (.run p) s = s.sense p from rfl, he] at this
  exact this

/-- The recovery that begins afresh (R48, R164). -/
theorem enterRecovery_notified {s : State} (h : stateNotified s.track.state .recovery = true) :
    enterRecovery s = withStateNotice { s with
      track := { s.track with state := .recovery, recoveryPending := false }, dose := { s.dose with recoveryRun := 0 },
      interlock := { s.interlock with
        recovery := if s.profile.values.recoveryMode = .fixed then .running (1000 * s.profile.values.recoveryTime)
          else .idle,
        limit := if s.profile.values.recoveryMode = .fixed then .idle
          else .running (1000 * s.profile.values.recoveryLimit) } } := by
  unfold enterRecovery
  rw [enterState_notified (by exact h)]
  cases s.profile.values.recoveryMode <;> simp [preset_tensOfSeconds]

/-- The resumption of an interrupted motion whose index is not made (R22). -/
theorem resumeMotion_drives {s : State} (hi : s.plant.index = false) (h : stateNotified s.track.state .stepping = true) :
    resumeMotion s = withStateNotice { s with track := { s.track with
      state := .stepping, motion := .inFlight, chainDrive := true,
      rewashGate := s.track.rewashGate || s.reservation == some .rewash,
      motionTimer := .running (100 * s.profile.values.motionLimit) } } := by
  unfold resumeMotion
  rw [hi, if_neg Bool.false_ne_true, enterState_notified (by exact h), runDrive, preset_seconds]

/-- The resumption of an interrupted motion whose index is made (R22). -/
theorem resumeMotion_completes {s : State} (hi : s.plant.index = true) (h : stateNotified s.track.state .ready = true) :
    resumeMotion s = withStateNotice { completeMotion s with
      track := { (completeMotion s).track with state := .ready } } := by
  unfold resumeMotion
  rw [if_pos hi, enterState_notified (by rw [completeMotion_track]; exact h)]

/-- Settles O14. -/
theorem runIsRefusedOrMovesTheTrack : Obligations.RunIsRefusedOrMovesTheTrack := by
  refine ⟨fun s p hl hs h => ?_, fun s p hl he hd hq hm => ?_⟩
  · exact exec_unchanged (c := .run p) (r := .run) rfl hl hs (requestRun_refused (runRefused_iff.mpr h))
  have taken (hf : s.track.state ≠ .fault ∧ s.track.state ≠ .purging) := exec_run_taken p hl (s := s)
    (by rw [← Bool.not_eq_true, runRefused_iff]; simp [he, hd, hq, hf]) hm
  have moves {m : State} (hf : s.track.state ≠ .fault ∧ s.track.state ≠ .purging)
      (h : runMove { s with plant := p, programmes := { s.programmes with lock := true } } = m) :
      exec (.run p) s = .next (conclude s (answered 0x08 .ok .empty m)) := h ▸ taken hf
  refine ⟨fun h => ?_, fun hn h => ?_, fun hn h hi => ?_, fun hn h hi => ?_, fun hn h hp => ?_, fun h => ?_⟩
  · rcases h with h | h | h | h <;> exact moves (by rw [h]; simp) (by simp [runMove, h])
  · rcases h with h | ⟨h, hp⟩
    · refine moves (by rw [h]; simp) ?_
      simp only [runMove, h, hn, if_false]
      exact enterState_notified rfl
    · refine moves (by rw [h]; simp) ?_
      simp only [runMove, h, hn, hp, if_false, Bool.false_eq_true]
      exact enterState_notified rfl
  · rcases h with h | h <;> refine moves (by rw [h]; simp) ?_ <;> simp only [runMove, h, hn, if_true] <;>
      exact resumeMotion_drives hi rfl
  · rcases h with h | h <;> refine moves (by rw [h]; simp) ?_ <;> simp only [runMove, h, hn, if_true] <;>
      exact resumeMotion_completes hi rfl
  · refine moves (by rw [h]; simp) ?_
    simp only [runMove, h, hn, hp, if_false, if_true]
    exact enterRecovery_notified rfl
  · refine moves (by rw [h]; simp) ?_
    simp only [runMove, h, wake]
    rw [if_pos (by simp [chainsClosed, he, hd])]
    exact enterRecovery_notified rfl

end Sys2Proof.Machine
end

section
namespace Sys2Proof.Machine
open Sys2Proof

/-! ### HALT, STANDBY and PURGE -/

theorem four_all_iff {α : Type} (f : Four α) (q : α → Bool) : f.list.all q = true ↔ ∀ n, q (f.get n) = true := by
  simp only [Four.list, List.all_cons, List.all_nil, Bool.and_true, Bool.and_eq_true]
  constructor
  · rintro ⟨h0, h1, h2, h3⟩ n
    match n with
    | 0 => exact h0
    | 1 => exact h1
    | 2 => exact h2
    | 3 => exact h3
  · exact fun h => ⟨h 0, h 1, h 2, h 3⟩

theorem transferInFlight_eq_false {s : State} : transferInFlight s = false ↔ s.merge.state = .idle := by
  simp [transferInFlight]

/-- The part stands idle in READY (R24), with the number of records as a count. -/
theorem idleInReady_iff_count {s : State} : idleInReady s = true ↔ s.track.state = .ready ∧ s.track.records = 0 ∧
    s.ret.lane = [] ∧ (∀ n, (s.stations.get n).spur = []) ∧ s.merge.state = .idle := by
  simp only [idleInReady, partIdle, Bool.and_eq_true, beq_iff_eq, List.isEmpty_iff, four_all_iff, Bool.not_eq_true',
    transferInFlight_eq_false, and_assoc]

theorem records_eq_zero {t : Track} : t.records = 0 ↔ ∀ i : Fin 17, t.positions[i] = none := by
  unfold Track.records
  rw [List.countP_eq_zero]
  constructor
  · intro h i
    simpa using h t.positions[i] (by simp)
  · intro h r hr
    obtain ⟨i, hi, rfl⟩ := Vector.mem_iff_getElem.mp (Vector.mem_toList_iff.mp hr)
    simp [show t.positions[i] = none from h ⟨i, hi⟩]

/-- A request that is taken with these effects ends its command with its answer and what follows. -/
theorem exec_answered {c : Instr} {r : Request} {s t : State} {res : Result} {body : ReplyBody} (hr : requestOf c = some r)
    (hl : Listening s) (he : executeRequest r (withReadings c s) = (t, res, body)) :
    exec c s = .next (conclude s (answered r.kindByte res body t)) := by
  rw [exec_listening hr hl, he]

theorem requestHalt_fault {s : State} (h : s.track.state = .fault) : requestHalt s = (s, .state, .empty) := by
  simp only [requestHalt, h]

/-- HALT in every track state but FAULT (R4, R27, R162, R166). -/
theorem halt_cases {s : State} (hl : Listening s) :
    let ok := fun t : State => (.next (conclude s (answered 0x09 .ok .empty t)) : Answer)
    (s.track.state = .off ∨ s.track.state = .stepping →
      exec .halt s = ok { s with track := { s.track with runEnable := false } }) ∧
    (s.track.state = .ready ∨ s.track.state = .hold → exec .halt s =
      ok (withStateNotice { s with track := { s.track with state := .off, runEnable := false, holds := .empty } })) ∧
    (s.track.state = .stopped → exec .halt s =
      ok (withStateNotice { s with track := { s.track with
        state := .off, runEnable := false, recoveryPending := false } })) ∧
    (s.track.state = .standby ∨ s.track.state = .recovery → exec .halt s =
      ok (withStateNotice { s with
        track := { s.track with state := .off, runEnable := false },
        interlock := { s.interlock with recovery := .idle, limit := .idle, heat := false } })) ∧
    (s.track.state = .purging → s.track.motion = .none → exec .halt s =
      ok (withStateNotice { s with track := { s.track with
        state := .off, runEnable := false, purgeCount := 0, holds := .empty } })) ∧
    (s.track.state = .purging → s.track.motion ≠ .none → exec .halt s =
      ok { s with track := { s.track with runEnable := false, purgeCount := 0 } }) := by
  have taken {t : State} (he : requestHalt s = (t, .ok, .empty)) :
      exec .halt s = .next (conclude s (answered 0x09 .ok .empty t)) := exec_answered (r := .halt) rfl hl he
  have off {u t : State} (he : requestHalt s = (enterState .off u, .ok, .empty)) (hu : stateNotified u.track.state .off = true)
      (ht : { u with track := { u.track with state := .off } } = t) :
      exec .halt s = .next (conclude s (answered 0x09 .ok .empty (withStateNotice t))) := by
    rw [enterState_notified hu, ht] at he
    exact taken he
  refine ⟨fun h => ?_, fun h => ?_, fun h => ?_, fun h => ?_, fun h hm => ?_, fun h hm => ?_⟩
  · rcases h with h | h <;> exact taken (by simp only [requestHalt, h])
  · rcases h with h | h <;> exact off (by rw [requestHalt, h]) (by simp [h, stateNotified, TrackState.isStepping3]) rfl
  · exact off (by rw [requestHalt, h]) (by simp [h, stateNotified, TrackState.isStepping3]) rfl
  · rcases h with h | h <;>
      exact off (by rw [requestHalt, h]) (by simp [stopRecoveryTimers, h, stateNotified, TrackState.isStepping3]) rfl
  · exact off (by rw [requestHalt, h]; exact if_pos hm) (by simp [h, stateNotified, TrackState.isStepping3]) rfl
  · exact taken (by simp only [requestHalt, h, hm, if_false])

/-- PURGE is taken in OFF with nothing in flight and the chains closed (R25). -/
theorem requestPurge_taken {s : State} (h : s.track.state = .off ∧ s.track.motion = .none ∧ s.merge.state = .idle ∧
    s.interlock.live.estop = false ∧ s.interlock.live.door = false) :
    requestPurge s = (withStateNotice { s with track := { s.track with
      state := .purging, purgeCount := 18, period := defaultDivisor s + 1, stepDue := true } }, .ok, .empty) := by
  obtain ⟨ht, hm, hi, he, hd⟩ := h
  unfold requestPurge
  rw [if_pos (by simp [ht, hm, transferInFlight, hi, chainsClosed, he, hd]),
    enterState_notified (by simp [ht, stateNotified, TrackState.isStepping3])]

theorem requestPurge_refused {s : State} (h : ¬ (s.track.state = .off ∧ s.track.motion = .none ∧ s.merge.state = .idle ∧
    s.interlock.live.estop = false ∧ s.interlock.live.door = false)) : requestPurge s = (s, .state, .empty) := by
  unfold requestPurge
  rw [if_neg]
  simpa [transferInFlight, chainsClosed] using h

/-- Settles O15. -/
theorem haltStandbyAndPurgeMoveTheTrack : Obligations.HaltStandbyAndPurgeMoveTheTrack := by
  refine ⟨fun s hl => ⟨fun h hs => ?_, halt_cases hl⟩, fun s hl => ⟨fun h => ?_, fun h hs => ?_, fun h => ?_, fun h hs => ?_⟩⟩
  · exact exec_unchanged (c := .halt) (r := .halt) rfl hl hs (requestHalt_fault h)
  · refine exec_answered (c := .standby) (r := .standby) rfl hl ?_
    have hq : requestStandby s = (enterStandby s, .ok, .empty) := if_pos (idleInReady_iff_count.mpr h)
    refine hq.trans ?_
    rw [enterStandby, enterState_notified (by simp [h.1, stateNotified, TrackState.isStepping3])]
  · exact exec_unchanged (c := .standby) (r := .standby) rfl hl hs (if_neg (idleInReady_iff_count.not.mpr h))
  · exact exec_answered (c := .purge) (r := .purge) rfl hl (requestPurge_taken h)
  · exact exec_unchanged (c := .purge) (r := .purge) rfl hl hs (requestPurge_refused h)

/-! ### The idle timer and the recovery timers -/

/-- The idle timer after a command that leaves no step to evaluate and no grant to make (R161). -/
theorem idleTimerHook_eq (b s : State) : idleTimerHook b s = { s with interlock := { s.interlock with
    idle := if idleInReady s = false then .idle else if idleInReady b = true then s.interlock.idle
      else if s.profile.values.idleLimit = 0 then .idle else .running (1000 * s.profile.values.idleLimit) } } := by
  unfold idleTimerHook
  rw [preset_tensOfSeconds]
  cases idleInReady s <;> cases idleInReady b <;> rfl

theorem conclude_nothing {b s : State} (hr : s.phase = .running) (hd : NothingDue s) (hg : grantOpen s = false) :
    conclude b s = chooseMessage (idleTimerHook b s) := by
  rw [conclude, if_pos hr, dueEvaluation_of_nothingDue hd, grantOpportunity_of_closed hg]

/-- Settles O25. -/
theorem idleAndRecoveryTimersExpire : Obligations.IdleAndRecoveryTimersExpire := by
  refine ⟨fun s hr => ⟨fun g hg hi => ?_, fun g hg hi => ?_, fun g hg ht => ?_, fun g hg ht => ?_, fun g hg ht => ?_,
    fun g hg ht => ?_, fun hs hl ht => ?_⟩, fun s => ?_, fun b s hr hd hg => ?_⟩
  · have he := event_timer_running (f := idleExpiry) hr hg
    have hx : idleExpiry s = enterStandby { s with interlock := { s.interlock with idle := .idle } } := if_pos hi
    rw [hx, enterStandby, enterState_notified (by
      simp [(idleInReady_iff_count.mp hi).1, stateNotified, TrackState.isStepping3])] at he
    exact congrArg Host.Outcome.next he
  · have he := event_timer_running (f := idleExpiry) hr hg
    rw [show idleExpiry s = _ from if_neg (ne_true_of_eq_false hi)] at he
    exact congrArg Host.Outcome.next he
  · have he := event_timer_running (f := recoveryExpiry) hr hg
    rw [show recoveryExpiry s = _ from if_pos ht, completeRecovery,
      enterState_notified (by simp [stopRecoveryTimers, ht, stateNotified, TrackState.isStepping3])] at he
    exact congrArg Host.Outcome.next he
  · have he := event_timer_running (f := recoveryExpiry) hr hg
    rw [show recoveryExpiry s = _ from if_neg ht] at he
    exact congrArg Host.Outcome.next he
  · have he := event_timer_running (f := limitExpiry) hr hg
    rw [show limitExpiry s = _ from if_pos ht] at he
    exact congrArg Host.Outcome.next he
  · have he := event_timer_running (f := limitExpiry) hr hg
    rw [show limitExpiry s = _ from if_neg ht] at he
    exact congrArg Host.Outcome.next he
  · exact congrArg Host.Outcome.next (event_timer_stopped hs hl ht)
  · rw [idleInReady_iff_count, records_eq_zero]
  · rw [conclude_nothing hr hd hg, idleTimerHook_eq]

end Sys2Proof.Machine
end

section
namespace Sys2Proof.Machine
open Sys2Proof

/-! ## The interlock group -/

/-! ### Openings of a chain -/

theorem grantOpen_of_not_evaluates {s : State} (h : s.track.state.evaluates = false) : grantOpen s = false := by
  rw [← Bool.not_eq_true]
  intro hg
  rcases (grantOpen_cases hg).2.2 with hs | hs <;> simp [hs, TrackState.evaluates] at h

theorem idleInReady_of_not_evaluates {s : State} (h : s.track.state.evaluates = false) : idleInReady s = false := by
  rw [← Bool.not_eq_true, idleInReady_iff_count]
  rintro ⟨hs, _⟩
  simp [hs, TrackState.evaluates] at h

/-- In a track state without evaluations the end of a command stops the idle timer and lets the transmitter choose. -/
theorem conclude_of_not_evaluates {b s : State} (hr : s.phase = .running) (h : s.track.state.evaluates = false) :
    conclude b s = chooseMessage { s with interlock := { s.interlock with idle := .idle } } := by
  rw [conclude_nothing hr (nothingDue_of_not_evaluates h) (grantOpen_of_not_evaluates h), idleTimerHook_eq,
    if_pos (idleInReady_of_not_evaluates h)]

theorem reportChange_interlock (s : State) : (reportChange s).interlock = { s.interlock with
    snapshot := if s.interlock.latched then s.interlock.snapshot else s.interlock.live, latched := true,
    count := if s.interlock.latched then s.interlock.count else s.interlock.count + 1,
    cause := if s.interlock.latched then s.interlock.cause else .change } := by
  unfold reportChange
  cases h : s.interlock.latched
  · simp
  · simp [← h]

theorem trackOpening_interlock (s : State) : (trackOpening s).interlock = { s.interlock with
    recovery := if s.track.state = .recovery then .idle else s.interlock.recovery,
    limit := if s.track.state = .recovery then .idle else s.interlock.limit } := by
  unfold trackOpening
  cases h : s.track.state <;> simp [h, stopRecoveryTimers]

theorem mergeOpening_merge (s : State) : (mergeOpening s).merge = if s.merge.state = .transferring then
    { s.merge with state := .interrupted, pusher := none, timer := .idle } else s.merge := by
  unfold mergeOpening
  split <;> rfl

/-- After the opening of a chain the track stands in a state without evaluations. -/
theorem trackOpening_resting (s : State) : (trackOpening s).track.state.evaluates = false := by
  rw [trackOpening_track]
  cases s.track.state <;> rfl

/-- What the opening of a chain does to the blocks, once the new live members `m` stand (R21, R97, R153). -/
theorem opening_concludes {b s u : State} {m : Members} (hr : s.phase = .running)
    (hu : u = reportChange (mergeOpening (trackOpening (setLive m s))) ∨
      u = reportChange (returnOpening (mergeOpening (trackOpening (setLive m s))))) :
    let t := conclude b u
    t.track = (trackOpening (setLive m s)).track ∧ t.merge = (mergeOpening s).merge ∧ t.ret = u.ret ∧
      t.interlock = { u.interlock with idle := .idle } ∧
      u.interlock = { s.interlock with
        live := m, snapshot := if s.interlock.latched then s.interlock.snapshot else m, latched := true,
        count := if s.interlock.latched then s.interlock.count else s.interlock.count + 1,
        cause := if s.interlock.latched then s.interlock.cause else .change,
        recovery := if s.track.state = .recovery then .idle else s.interlock.recovery,
        limit := if s.track.state = .recovery then .idle else s.interlock.limit } ∧
      t.stations = s.stations ∧ t.dose = s.dose ∧ t.programmes = s.programmes ∧ t.directory = s.directory ∧
      t.profile = s.profile := by
  have ht : u.track = (trackOpening (setLive m s)).track := by rcases hu with rfl | rfl <;> simp
  have hp : u.phase = .running := by rcases hu with rfl | rfl <;> simpa [setLive] using hr
  dsimp only
  rw [conclude_of_not_evaluates hp (by rw [ht]; exact trackOpening_resting _)]
  rcases hu with rfl | rfl <;>
    simp [reportChange_interlock, trackOpening_interlock, mergeOpening_merge, setLive]

theorem changeEstop_opens {s : State} (h : s.interlock.live.estop = false) : changeEstop true s =
    reportChange (returnOpening (mergeOpening (trackOpening (setLive { s.interlock.live with estop := true } s)))) := by
  simp [changeEstop, h]

theorem changeDoor_opens {s : State} (h : s.interlock.live.door = false) : changeDoor true s =
    reportChange (mergeOpening (trackOpening (setLive { s.interlock.live with door := true } s))) := by
  simp [changeDoor, h]

theorem changeEstop_closes {s : State} (h : s.interlock.live.estop = true) : changeEstop false s =
    reportChange (returnClearance (setLive { s.interlock.live with estop := false } s)) := by
  simp [changeEstop, h]

theorem changeDoor_closes {s : State} (h : s.interlock.live.door = true) : changeDoor false s =
    reportChange (setLive { s.interlock.live with door := false } s) := by
  simp [changeDoor, h]

/-- Settles O22. -/
theorem chainOpeningsStopTheParts : Obligations.ChainOpeningsStopTheParts := by
  rintro s c hr (⟨rfl, he⟩ | ⟨rfl, hd⟩)
  · have hx : exec (.estopChainChange true) s = .next (conclude s
        (whenRunning (changeEstop true) { s with inputs := { s.inputs with estopOpen := true } })) := rfl
    rw [whenRunning, if_pos hr, changeEstop_opens (by exact he)] at hx
    refine ⟨_, hx, ?_⟩
    obtain ⟨htrack, hmerge, hret, hidle, hgroup, hrest⟩ := opening_concludes (b := s)
      (s := { s with inputs := { s.inputs with estopOpen := true } }) (m := { s.interlock.live with estop := true })
      hr (.inr rfl)
    refine ⟨htrack.trans (trackOpening_track _), hmerge.trans (mergeOpening_merge _), hret.trans (by simp [setLive]), ?_⟩
    simp only [if_true]
    rw [hidle, hgroup]
    refine ⟨rfl, rfl, rfl, rfl, rfl, fun h => ?_, rfl, hrest⟩
    simp [h]
  · have hx : exec (.doorChainChange true) s = .next (conclude s
        (whenRunning (changeDoor true) { s with inputs := { s.inputs with doorOpen := true } })) := rfl
    rw [whenRunning, if_pos hr, changeDoor_opens (by exact hd)] at hx
    refine ⟨_, hx, ?_⟩
    obtain ⟨htrack, hmerge, hret, hidle, hgroup, hrest⟩ := opening_concludes (b := s)
      (s := { s with inputs := { s.inputs with doorOpen := true } }) (m := { s.interlock.live with door := true })
      hr (.inl rfl)
    refine ⟨htrack.trans (trackOpening_track _), hmerge.trans (mergeOpening_merge _), hret.trans (by simp [setLive]), ?_⟩
    simp only [reduceCtorEq, if_false]
    rw [hidle, hgroup]
    refine ⟨rfl, rfl, rfl, rfl, rfl, fun h => ?_, rfl, hrest⟩
    simp [h]

/-! ### Closings of a chain -/

theorem Moving.resting_of_open {s : State} (hr : s.phase = .running) (hm : Moving s) (ho : chainsClosed s = false) :
    s.track.state.evaluates = false := by
  obtain ⟨_, hd, _⟩ := hm
  obtain ⟨⟨_, _, _, _, _, hc, _⟩, _⟩ := hd hr
  have := hc
  cases h : s.track.state <;> simp_all [TrackState.active, TrackState.evaluates]

/-- The end of a command that leaves the track resting leaves all but the link and the idle timer as they are. -/
theorem conclude_resting_frame {b u : State} (hr : u.phase = .running) (h : u.track.state.evaluates = false) :
    (conclude b u).track = u.track ∧ (conclude b u).merge = u.merge ∧ (conclude b u).ret = u.ret ∧
      (conclude b u).stations = u.stations ∧ (conclude b u).directory = u.directory ∧
      (conclude b u).interlock = { u.interlock with idle := .idle } := by
  rw [conclude_of_not_evaluates hr h]
  simp

theorem reportChange_ret (s : State) : (reportChange s).ret = s.ret := by simp

/-- Settles O23. -/
theorem chainClosingsReleaseTheReturn : Obligations.ChainClosingsReleaseTheReturn := by
  intro s hr hm
  refine ⟨fun he => ?_, fun hd => ?_⟩
  · have hx : exec (.estopChainChange false) s = .next (conclude s
        (whenRunning (changeEstop false) { s with inputs := { s.inputs with estopOpen := false } })) := rfl
    rw [whenRunning, if_pos hr, changeEstop_closes (by exact he)] at hx
    have hrest := Moving.resting_of_open hr hm (by simp [chainsClosed, he])
    have htrack := (keptByEvaluation_restingTrack s.track hrest).returnClearance (s := setLive
      { s.interlock.live with estop := false } { s with inputs := { s.inputs with estopOpen := false } }) rfl
    refine ⟨_, hx, ?_⟩
    obtain ⟨h1, h2, h3, _, _, h6⟩ := conclude_resting_frame (b := s) (u := reportChange (returnClearance (setLive
      { s.interlock.live with estop := false } { s with inputs := { s.inputs with estopOpen := false } })))
      (by simpa [setLive] using hr) (by simpa [htrack] using hrest)
    rw [h1, h2, h3, h6]
    refine ⟨by simpa using htrack, by simp [setLive], by simp [reportChange_interlock, setLive],
      by simp [reportChange_interlock], ?_⟩
    exact reportChange_ret _
  · have hx : exec (.doorChainChange false) s = .next (conclude s
        (whenRunning (changeDoor false) { s with inputs := { s.inputs with doorOpen := false } })) := rfl
    rw [whenRunning, if_pos hr, changeDoor_closes (by exact hd)] at hx
    have hrest := Moving.resting_of_open hr hm (by simp [chainsClosed, hd])
    refine ⟨_, hx, ?_⟩
    obtain ⟨h1, h2, h3, h4, h5, h6⟩ := conclude_resting_frame (b := s) (u := reportChange (setLive
      { s.interlock.live with door := false } { s with inputs := { s.inputs with doorOpen := false } }))
      (by simpa [setLive] using hr) (by simpa [setLive] using hrest)
    rw [h1, h2, h3, h4, h5, h6]
    simp [reportChange_interlock, setLive]

/-! ### Changes and the release of the group -/

/-- What is settled rests, of the interlock monitor, on the tank level and the idle timer alone. -/
theorem Settled.congr_group {s t : State} (h : Settled s) (track : t.track = s.track) (ret : t.ret = s.ret)
    (merge : t.merge = s.merge) (stations : t.stations = s.stations) (profile : t.profile = s.profile)
    (tank : t.interlock.live.tank = s.interlock.live.tank) (idle : t.interlock.idle = s.interlock.idle) : Settled t := by
  obtain ⟨h1, h2, h3⟩ := h
  have hm : t.merge.state = s.merge.state := by rw [merge]
  refine ⟨h1.congr track ret hm tank, ?_, ?_⟩
  · rw [grantOpen_congr track ret hm stations (by rw [profile]), h2]
  · rwa [idleInReady_congr track ret hm stations, idle]

theorem releaseGroup_live (s : State) : (releaseGroup s).interlock.live = s.interlock.live ∧
    (releaseGroup s).interlock.idle = s.interlock.idle := by
  unfold releaseGroup
  dsimp only
  (repeat' split) <;> simp

/-- RELEASE_INTERLOCKS in a settled state leaves nothing to follow (R158). -/
theorem exec_releaseInterlocks {s : State} (hl : Listening s) (hs : Settled s) :
    exec .releaseInterlocks s = .next (onlyAnswered 0x31 .ok (.interlocksReleased (releaseGroup s).interlock.snapshot
      (releaseGroup s).interlock.live (releaseGroup s).interlock.latched (releaseGroup s).interlock.count
      (releaseGroup s).interlock.cause) (releaseGroup s)) := by
  have he := exec_answered (c := .releaseInterlocks) (r := .releaseInterlocks) (t := releaseGroup s) rfl hl rfl
  refine he.trans (congrArg Host.Outcome.next (conclude_settled ?_ ?_))
  · obtain ⟨hlive, hidle⟩ := releaseGroup_live s
    exact hs.congr_group (by simp [answered]) (by simp [answered]) (by simp [answered]) (by simp [answered])
      (by simp [answered]) (by simp [answered, hlive]) (by simp [answered, hidle])
  · exact fun hi => (idleInReady_congr (s := s) (by simp [answered]) (by simp [answered]) (by simp [answered])
      (by simp [answered])).symm.trans hi

/-- An INTERLOCK notice takes the place of the one that waits (R157, R187). -/
theorem enqueueInterlock_waiting {n m : Notice} {s : State} {before after : List Notice}
    (he : n.enabled s.link.mask = true) (hq : s.link.notices = before ++ m :: after) (hm : m.isInterlock = true)
    (ho : ∀ x ∈ before ++ after, x.isInterlock = false) :
    enqueueInterlock n s = { s with link := { s.link with notices := before ++ n :: after } } := by
  have kept {q : List Notice} (h : ∀ x ∈ q, x.isInterlock = false) :
      q.map (fun x => if x.isInterlock then n else x) = q := by
    rw [List.map_congr_left (g := id) fun x hx => by simp [h x hx], List.map_id]
  have ha : s.link.notices.any Notice.isInterlock = true := by simp [hq, hm]
  have hmap : s.link.notices.map (fun x => if x.isInterlock then n else x) = before ++ n :: after := by
    rw [hq, List.map_append, List.map_cons, kept fun x hx => ho x (List.mem_append_left _ hx),
      kept fun x hx => ho x (List.mem_append_right _ hx), if_pos hm]
  simp [enqueueInterlock, he, ha, hmap]

theorem enqueueInterlock_none {n : Notice} {s : State} (he : n.enabled s.link.mask = true)
    (ho : ∀ x ∈ s.link.notices, x.isInterlock = false) : enqueueInterlock n s = enqueue n s := by
  have ha : s.link.notices.any Notice.isInterlock = false := List.any_eq_false.mpr fun x hx => by simp [ho x hx]
  simp [enqueueInterlock, he, ha]

/-- Settles O24. -/
theorem membersAreLatchedAndReleased : Obligations.MembersAreLatchedAndReleased := by
  refine ⟨fun s hr => ⟨fun flow h => ?_, fun flow h => ?_, fun low h => ?_, fun low h => ?_⟩, fun s hl hs => ?_, fun n s => ?_⟩
  · have hx : exec (.rinseFlowChange flow) s = .next (conclude s
        (whenRunning (changeRinse !flow) { s with inputs := { s.inputs with noFlow := !flow } })) := rfl
    rw [hx, whenRunning, if_pos (by exact hr), changeRinse, if_neg (by exact h)]
    rfl
  · have hx : exec (.rinseFlowChange flow) s = .next (conclude s
        (whenRunning (changeRinse !flow) { s with inputs := { s.inputs with noFlow := !flow } })) := rfl
    rw [hx, whenRunning, if_pos (by exact hr), changeRinse, if_pos (by exact h)]
  · have hx : exec (.tankLevelChange low) s = .next (conclude s
        (whenRunning (changeTank low) { s with inputs := { s.inputs with tankLow := low } })) := rfl
    rw [hx, whenRunning, if_pos (by exact hr), changeTank, if_neg (by exact h)]
    rfl
  · have hx : exec (.tankLevelChange low) s = .next (conclude s
        (whenRunning (changeTank low) { s with inputs := { s.inputs with tankLow := low } })) := rfl
    rw [hx, whenRunning, if_pos (by exact hr), changeTank, if_pos (by exact h)]
  · have hx := exec_releaseInterlocks hl hs
    refine ⟨fun h => ?_, fun h he => ?_, fun h he => ?_⟩
    · have hg : releaseGroup s = s := by simp [releaseGroup, h]
      rw [hx, hg]
    · have hg : releaseGroup s = { s with interlock := { s.interlock with latched := false } } := by
        simp [releaseGroup, h, he]
      rw [hx, hg]
    · have hg : releaseGroup s = latch .release { s with interlock := { s.interlock with latched := false } } := by
        simp [releaseGroup, h, he]
      rw [hx, hg, latch_interlock]
      rfl
  · exact ⟨fun h => by simp [enqueueInterlock, h], fun _ _ _ he hq hm ho => enqueueInterlock_waiting he hq hm ho,
      enqueueInterlock_none⟩

end Sys2Proof.Machine
end

section
namespace Sys2Proof.Machine
open Sys2Proof

/-! ## The clean end -/

/-- The oldest clean-end entry joins transit, and the place freed lets the track re-test (R133). -/
def movedToTransit (e : CleanEntry) (rest : List CleanEntry) (s : State) : State :=
  dueEvaluation (sendUnpin e.record.id .onReturn { s with
    ret := { s.ret with
      cleanEnd := rest, confirm := false,
      transit := s.ret.transit ++ [⟨e.record, .running (100 * s.profile.values.travelTime)⟩] } })

theorem completeConfirm_cons {e : CleanEntry} {rest : List CleanEntry} {s : State} (h : s.ret.cleanEnd = e :: rest) :
    completeConfirm s = movedToTransit e rest s := by
  simp only [completeConfirm, h, preset_seconds, movedToTransit]

theorem confirmOldest_room {e : CleanEntry} {rest : List CleanEntry} {s : State} (h : s.ret.cleanEnd = e :: rest)
    (hr : s.ret.transit.length < 12) : confirmOldest s = movedToTransit e rest s := by
  rw [confirmOldest, if_pos hr, completeConfirm_cons h]

theorem confirmOldest_full {s : State} (hr : 12 ≤ s.ret.transit.length) :
    confirmOldest s = { s with ret := { s.ret with confirm := true } } := if_neg (by simpa using hr)

theorem pressUnload_cons {e : CleanEntry} {rest : List CleanEntry} {s : State} (h : s.ret.cleanEnd = e :: rest) :
    pressUnload s = if s.ret.confirm || e.quarantined then s else confirmOldest s := by
  simp only [pressUnload, h]

theorem releaseIsReturn_cases (a : Byte) :
    (1 < a.toNat → releaseIsReturn a = none) ∧ (a.toNat ≤ 1 → ∃ b, releaseIsReturn a = some b) := by
  unfold releaseIsReturn
  split
  · next h => exact ⟨fun hn => by omega, fun _ => ⟨true, rfl⟩⟩
  · next h => exact ⟨fun hn => by omega, fun _ => ⟨false, rfl⟩⟩
  · next h0 h1 => exact ⟨fun _ => rfl, fun hn => (Nat.le_one_iff_eq_zero_or_eq_one.mp hn).elim (absurd · h0) (absurd · h1)⟩

theorem requestReleaseQuarantine_none {a : Byte} {s : State} (h : releaseIsReturn a = none) :
    requestReleaseQuarantine a s = (s, .range, .empty) := by
  simp only [requestReleaseQuarantine, h]

theorem requestReleaseQuarantine_unquarantined {a : Byte} {b : Bool} {s : State} (h : releaseIsReturn a = some b)
    (hq : ∀ e ∈ s.ret.cleanEnd.head?, e.quarantined = false) :
    requestReleaseQuarantine a s = (s, .state, .empty) := by
  unfold requestReleaseQuarantine
  rw [h]
  cases hc : s.ret.cleanEnd with
  | nil => rfl
  | cons e rest => simp [hq e (by simp [hc])]

theorem requestReleaseQuarantine_return {e : CleanEntry} {rest : List CleanEntry} {s : State}
    (h : s.ret.cleanEnd = e :: rest) (hq : e.quarantined = true) :
    requestReleaseQuarantine 0 s = releaseReturn e rest s := by
  simp [requestReleaseQuarantine, releaseIsReturn, h, hq]

theorem requestReleaseQuarantine_rewash {e : CleanEntry} {rest : List CleanEntry} {s : State}
    (h : s.ret.cleanEnd = e :: rest) (hq : e.quarantined = true) :
    requestReleaseQuarantine 1 s = releaseRewash e rest s := by
  simp [requestReleaseQuarantine, releaseIsReturn, h, hq]

theorem releaseReturn_room {e : CleanEntry} {rest : List CleanEntry} {s : State} (hr : s.ret.transit.length < 12) :
    releaseReturn e rest s = (movedToTransit e rest s, .ok, .released true) := by
  have hm := confirmOldest_room (s := { s with ret := { s.ret with cleanEnd := { e with quarantined := false } :: rest } })
    rfl hr
  simp only [releaseReturn, hm, Config.transitPlaces, hr, decide_true]
  rfl

theorem releaseReturn_full {e : CleanEntry} {rest : List CleanEntry} {s : State} (hr : 12 ≤ s.ret.transit.length) :
    releaseReturn e rest s = ({ s with ret := { s.ret with
      cleanEnd := { e with quarantined := false } :: rest, confirm := true } }, .ok, .released false) := by
  have hm := confirmOldest_full (s := { s with ret := { s.ret with cleanEnd := { e with quarantined := false } :: rest } })
    hr
  have hn : ¬ s.ret.transit.length < 12 := by omega
  simp only [releaseReturn, hm, Config.transitPlaces, hn, decide_false]

/-- Settles O44. -/
theorem cleanRacksAreUnloaded : Obligations.CleanRacksAreUnloaded := by
  intro s hr
  have press : exec .unloadButton s = .next (conclude s (pressUnload s)) :=
    congrArg Host.Outcome.next (event_running hr)
  refine ⟨fun h => ?_, fun e rest h => ⟨fun hq => ?_, fun hc hq ht => ?_, fun hc hq ht => ?_⟩, fun hl => ⟨fun a ha hs => ?_,
    fun a ha hq hs => ?_, fun e rest h hq => ⟨fun ht => ?_, fun ht => ?_, fun hp hs => ?_, fun hp hf hs => ?_,
    fun hp hf => ?_⟩⟩⟩
  · simp only [press, pressUnload, h]
  · rw [press, pressUnload_cons h, if_pos (by simpa using hq)]
  · rw [press, pressUnload_cons h, if_neg (by simp [hc, hq]), confirmOldest_room h ht]
    rfl
  · rw [press, pressUnload_cons h, if_neg (by simp [hc, hq]), confirmOldest_full ht]
  · exact exec_unchanged (c := .releaseQuarantine a) (r := .releaseQuarantine a) rfl hl hs
      (requestReleaseQuarantine_none ((releaseIsReturn_cases a).1 ha))
  · obtain ⟨b, hb⟩ := (releaseIsReturn_cases a).2 ha
    exact exec_unchanged (c := .releaseQuarantine a) (r := .releaseQuarantine a) rfl hl hs
      (requestReleaseQuarantine_unquarantined hb hq)
  · exact exec_answered (c := .releaseQuarantine 0) (r := .releaseQuarantine 0) rfl hl
      ((requestReleaseQuarantine_return h hq).trans (releaseReturn_room ht))
  · exact exec_answered (c := .releaseQuarantine 0) (r := .releaseQuarantine 0) rfl hl
      ((requestReleaseQuarantine_return h hq).trans (releaseReturn_full ht))
  · exact exec_unchanged (c := .releaseQuarantine 1) (r := .releaseQuarantine 1) rfl hl hs
      ((requestReleaseQuarantine_rewash h hq).trans (by simp [releaseRewash, hp] : releaseRewash e rest s = (s, .state, .empty)))
  · exact exec_unchanged (c := .releaseQuarantine 1) (r := .releaseQuarantine 1) rfl hl hs
      ((requestReleaseQuarantine_rewash h hq).trans
        (by simp [releaseRewash, hp, hf] : releaseRewash e rest s = (s, .full, .empty)))
  · exact exec_answered (c := .releaseQuarantine 1) (r := .releaseQuarantine 1) rfl hl
      ((requestReleaseQuarantine_rewash h hq).trans (by simp [releaseRewash, hp, Nat.not_le.mpr hf]))

end Sys2Proof.Machine
end

section
namespace Sys2Proof.Machine
open Sys2Proof

/-! ## Clearing a fault -/

/-! ### Messages to the directory rest on the directory alone -/

theorem lookup_congr {s t : State} (h : s.directory = t.directory) (id : RackId) : lookup s id = lookup t id := by
  simp only [lookup, h]

theorem updateEntry_directory_congr {s t : State} (h : s.directory = t.directory) (id : RackId) (f : DirEntry → DirEntry) :
    (updateEntry id f s).directory = (updateEntry id f t).directory := by
  unfold updateEntry
  rw [lookup_congr h]
  split
  · simp [h]
  · exact h

theorem sendUnpin_directory_congr {s t : State} (h : s.directory = t.directory) (id : RackId) (l : Location) :
    (sendUnpin id l s).directory = (sendUnpin id l t).directory := updateEntry_directory_congr h id _

theorem sendLocation_directory_congr {s t : State} (h : s.directory = t.directory) (id : RackId) (l : Location) :
    (sendLocation id l s).directory = (sendLocation id l t).directory := updateEntry_directory_congr h id _

theorem sendPass_directory_congr {s t : State} (h : s.directory = t.directory) (id : RackId) (v : Verdict) (d : Nat) :
    (sendPass id v d s).directory = (sendPass id v d t).directory := updateEntry_directory_congr h id _

/-! ### The reading of a spur head -/

/-- The spur of a station after its head sensor has been read: an unprofiled head takes the kind, and an empty spur an
anonymous entry (R78). -/
theorem readSpurHead_eq (n : Quad) (s : State) : readSpurHead n s =
    if n.val + 1 ≤ s.profile.values.stations ∧ s.plant.spurHead.get n = true then match (s.stations.get n).spur with
      | [] => { s with stations := s.stations.set n { s.stations.get n with
          spur := [⟨0, s.plant.profile.get n, true, false, none⟩] } }
      | h :: rest => if h.profiled then s else sendKind h.expected (s.plant.profile.get n) { s with
          stations := s.stations.set n { s.stations.get n with
            spur := { h with kind := s.plant.profile.get n, profiled := true } :: rest } }
    else s := by
  unfold readSpurHead
  simp only [fitted, Bool.and_eq_true, decide_eq_true_eq]
  split
  · unfold profileHead StationUnit.head
    cases hs : (s.stations.get n).spur with
    | nil => simp only [hs, List.head?_nil]; rfl
    | cons h rest => simp only [hs, List.head?_cons, setHead, List.tail_cons]; rfl
  · rfl

theorem readSpurHead_of_clear {n : Quad} {s : State} (h : s.plant.spurHead.get n = false) : readSpurHead n s = s := by
  rw [readSpurHead_eq, if_neg (by simp [h])]

/-! ### CLEAR_FAULT -/

/-- The track enters OFF from FAULT, with its STATE notice. -/
def faultLeft (s : State) : State := withStateNotice { s with track := { s.track with state := .off } }

theorem enterState_off_of_fault {s : State} (h : s.track.state = .fault) : enterState .off s = faultLeft s :=
  enterState_notified (by rw [h]; rfl)

/-- FAULT with its cause given up. -/
def causeCleared (s : State) : State := { s with track := { s.track with fault := none } }

theorem requestClearFault_not_fault {s : State} (h : s.track.state ≠ .fault) :
    requestClearFault s = (s, .state, .empty) := by
  unfold requestClearFault
  split
  · exact absurd ‹_› h
  · exact absurd ‹_› h
  · exact absurd ‹_› h
  · rfl

theorem requestClearFault_open {s : State} (h : s.track.fault = some .jamMotion ∨ s.track.fault = some .jamTransfer)
    (ho : chainsClosed s = false) : requestClearFault s = (s, .state, .empty) := by
  unfold requestClearFault
  rcases h with h | h <;> rw [h] <;> cases s.track.state <;> simp [ho]

theorem requestClearFault_recovery {s : State} (hs : s.track.state = .fault) (h : s.track.fault = some .recoveryFailed) :
    requestClearFault s = (faultLeft (causeCleared s), .ok, .faultCleared .recoveryFailed .none) := by
  unfold requestClearFault
  rw [hs, h]
  dsimp only
  rw [enterState_off_of_fault (by exact hs)]
  rfl

theorem requestClearFault_motion {s : State} (hs : s.track.state = .fault) (h : s.track.fault = some .jamMotion)
    (hc : chainsClosed s = true) : requestClearFault s =
      if s.plant.index then
        (setJam false (faultLeft (completeMotion (causeCleared s))), .ok, .faultCleared .jamMotion .completed)
      else (setJam false (faultLeft (causeCleared s)), .ok, .faultCleared .jamMotion .pending) := by
  unfold requestClearFault
  rw [hs, h]
  dsimp only
  rw [hc, if_neg (by simp), leaveFault, leaveFault, enterState_off_of_fault (by rw [completeMotion_track]; exact hs),
    enterState_off_of_fault (by exact hs)]
  rfl

theorem requestClearFault_transfer {s : State} (hs : s.track.state = .fault) (h : s.track.fault = some .jamTransfer)
    (hc : chainsClosed s = true) : requestClearFault s =
      (setJam false (faultLeft (settleJam (causeCleared s)).1), .ok,
        .faultCleared .jamTransfer (((settleJam (causeCleared s)).2.map ClearOutcome.settled).getD .none)) := by
  unfold requestClearFault
  rw [hs, h]
  dsimp only
  rw [hc, if_neg (by simp), leaveFault, enterState_off_of_fault]
  · rfl
  · rw [settleJam_track (by show s.track.state.evaluates = false; rw [hs]; rfl)]
    exact hs

/-- The settlement of a jam with the rack past position 0 (R99). -/
theorem settleJam_completed {s : State} {g : Grant} (hg : s.merge.grant = some g) (hp : s.plant.position0 = true) :
    settleJam s = (completeTransfer (emptyTags s), some ⟨.completed, g.requester, g.expected⟩) := by
  simp only [settleJam, hg, hp, if_true]

theorem settleJam_rewash_kept {s : State} {r : TrackRecord} (hg : s.merge.grant = some (.rewash r))
    (hp : s.plant.position0 = false) :
    settleJam s = (mergeIdle (stopPusher (emptyTags s)), some ⟨.kept, .rewash, none⟩) := by
  simp only [settleJam, hg, hp, Bool.false_eq_true, if_false, dropTransfer, emptyTags_merge, readGranted]
  rfl

theorem settleJam_spur_kept {s : State} {n : Quad} {e : RackId} {k : Kind} {q : Snapshot}
    (hg : s.merge.grant = some (.spur n e k q)) (hp : s.plant.position0 = false) (hh : s.plant.spurHead.get n = true) :
    settleJam s = (readSpurHead n (mergeIdle (stopPusher (emptyTags s))), some ⟨.kept, .spur n, some e⟩) := by
  simp only [settleJam, hg, hp, hh, Bool.false_eq_true, if_false, if_true, dropTransfer, emptyTags_merge, readGranted]
  rfl

theorem settleJam_lost {s : State} {n : Quad} {e : RackId} {k : Kind} {q : Snapshot}
    (hg : s.merge.grant = some (.spur n e k q)) (hp : s.plant.position0 = false) (hh : s.plant.spurHead.get n = false) :
    settleJam s = (mergeIdle (sendUnpin e .unknown (removeHead n (emptyTags s))), some ⟨.lost, .spur n, some e⟩) := by
  simp only [settleJam, hg, hp, hh, Bool.false_eq_true, if_false]
  rw [readSpurHead_of_clear (by simpa using hh)]
  rfl

/-- The parts of a state after the fault has been left and the command has come to its end. -/
theorem faultLeft_concluded {b u : State} {rep : Result} {body : ReplyBody} (hr : u.phase = .running) :
    let t := conclude b (answered 0x0B rep body (setJam false (faultLeft u)))
    t.track = { u.track with state := .off } ∧ t.merge = u.merge ∧ t.interlock.live.jam = false ∧
      t.stations = u.stations ∧ t.directory = u.directory ∧ t.ret = u.ret ∧ t.dose = u.dose ∧
      t.link.reply = some ⟨0x8B, rep, body⟩ := by
  have ht : (answered 0x0B rep body (setJam false (faultLeft u))).track = { u.track with state := .off } := by
    simp [answered, faultLeft, withStateNotice]
  obtain ⟨h1, h2, h3, h4, h5, h6⟩ := conclude_resting_frame (b := b)
    (u := answered 0x0B rep body (setJam false (faultLeft u))) (by simpa [answered, faultLeft, withStateNotice] using hr)
    (by rw [ht]; rfl)
  dsimp only
  rw [h1, h2, h3, h4, h5, h6, ht]
  simp [answered, faultLeft, withStateNotice]
  rfl

/-- Settles O26. -/
theorem faultsAreCleared : Obligations.FaultsAreCleared := by
  intro s p hl hf
  have isFault {c : FaultCause} (h : s.track.fault = some c) : s.track.state = .fault := hf.mp (by rw [h]; rfl)
  have closed (h : s.interlock.live.estop = false ∧ s.interlock.live.door = false) : chainsClosed (s.sense p) = true :=
    chainsClosed_iff.mpr h
  have taken {t : State} {res : Result} {body : ReplyBody} (he : requestClearFault (s.sense p) = (t, res, body)) :
      exec (.clearFault p) s = .next (conclude s (answered 0x0B res body t)) :=
    exec_answered (c := .clearFault p) (r := .clearFault) rfl hl he
  have motion (h : s.track.fault = some .jamMotion) (hc : _) :=
    requestClearFault_motion (s := s.sense p) (isFault h) h (closed hc)
  have transfer (h : s.track.fault = some .jamTransfer) (hc : _) :=
    requestClearFault_transfer (s := s.sense p) (isFault h) h (closed hc)
  refine ⟨fun h hs => ?_, fun h ho hs => ?_, fun h => ?_, fun h hc hi => ?_, fun h hc hi => ?_, fun g h hc hg hp => ?_,
    fun r h hc hg hp => ?_, fun n e k q h hc hg hp hh => ?_, fun n e k q h hc hg hp hh => ?_⟩
  · exact exec_unchanged (c := .clearFault p) (r := .clearFault) rfl hl hs (requestClearFault_not_fault (s := s.sense p) h)
  · refine exec_unchanged (c := .clearFault p) (r := .clearFault) rfl hl hs (requestClearFault_open (s := s.sense p) h ?_)
    rw [← Bool.not_eq_true]
    exact fun hc => ho (chainsClosed_iff.mp hc)
  · exact taken (requestClearFault_recovery (s := s.sense p) (isFault h) h)
  · have hm := motion h hc
    rw [if_neg (by simpa using hi)] at hm
    exact taken hm
  · have hm := motion h hc
    rw [if_pos (by exact hi)] at hm
    exact taken hm
  · have hm := transfer h hc
    rw [settleJam_completed (by exact hg) (by exact hp)] at hm
    exact taken hm
  · have hm := transfer h hc
    rw [settleJam_rewash_kept (by exact hg) (by exact hp)] at hm
    exact taken hm
  · have hm := transfer h hc
    rw [settleJam_spur_kept (by exact hg) (by exact hp) (by exact hh), readSpurHead_eq] at hm
    exact taken hm
  · have hm := transfer h hc
    rw [settleJam_lost (by exact hg) (by exact hp) (by exact hh)] at hm
    simp only [Option.map_some, Option.getD_some] at hm
    refine ⟨taken hm, _, taken hm, ?_⟩
    obtain ⟨htrack, hmerge, hjam, hstations, hdir, hret, hdose, hreply⟩ := faultLeft_concluded (b := s) (rep := .ok)
      (u := mergeIdle (sendUnpin e .unknown (removeHead n (emptyTags (causeCleared (s.sense p))))))
      (body := .faultCleared .jamTransfer (.settled ⟨.lost, .spur n, some e⟩))
      (by simpa [causeCleared] using hl.1)
    refine ⟨by rw [htrack], by rw [htrack]; simp [causeCleared], by rw [hmerge]; simp [causeCleared],
      by rw [hmerge]; simp, by rw [hmerge]; simp, hjam, by rw [hstations]; simp [causeCleared, removeHead],
      by rw [htrack]; simp [causeCleared], hdir.trans (sendUnpin_directory_congr
        (s := removeHead n (emptyTags (causeCleared (s.sense p)))) (t := s) rfl e .unknown),
      by rw [hret]; simp [causeCleared], by rw [hdose]; simp [causeCleared], fun m hm => ?_, hreply⟩
    rw [hstations]
    simp [causeCleared, removeHead, Four.get_set_ne _ _ hm]

end Sys2Proof.Machine
end

section
namespace Sys2Proof.Machine
open Sys2Proof

/-! ## The end of a command that starts or holds a step -/

/-! ### The link after a notice -/

theorem enqueue_link_congr {s t : State} (h : s.link = t.link) (n : Notice) :
    (enqueue n s).link = (enqueue n t).link := by
  unfold enqueue
  simp only [h]
  (repeat' split) <;> first | rfl | exact h

theorem chooseMessage_link_congr {s t : State} (h : s.link = t.link) :
    (chooseMessage s).link = (chooseMessage t).link := by
  unfold chooseMessage
  simp only [h]
  split <;> first | rfl | exact h

/-! ### Held steps -/

theorem conclude_of_due {b s u : State} (hr : s.phase = .running) (hd : dueEvaluation s = u) (hg : grantOpen u = false) :
    conclude b s = chooseMessage (idleTimerHook b u) := by
  rw [conclude, if_pos hr, hd, grantOpportunity_of_closed hg]

/-- The stop of the idle timer at the end of a command outside READY (R161). -/
theorem idleTimerHook_of_not_ready {b u : State} (h : u.track.state ≠ .ready) :
    idleTimerHook b u = { u with interlock := { u.interlock with idle := .idle } } := by
  rw [idleTimerHook_eq, if_pos]
  simp [idleInReady, h]

/-- The track makes the evaluation of R7 in READY with a record and the mark set, and in HOLD. -/
theorem dueEvaluation_evaluates {s : State}
    (h : (s.track.state = .ready ∧ s.track.stepDue = true ∧ s.track.records ≠ 0) ∨ s.track.state = .hold) :
    dueEvaluation s = evaluate s := by
  rcases h with ⟨hs, hd, hn⟩ | hs
  · simp [dueEvaluation, hs, hd, hn]
  · simp [dueEvaluation, hs]

/-- The extension timer after the start that an evaluation may give it (R10). -/
def extensionStarted (s : State) : Timer :=
  if f2Below s = true ∧ s.track.extension = .idle then
    extensionPreset (((s.track.positions[12].bind (·.programme)).map (·.limit)).getD 0)
  else s.track.extension

theorem startExtension_withExtension (s : State) : startExtension s = withExtension (extensionStarted s) s := by
  unfold startExtension extensionStarted withExtension Track.f2
  simp only [Bool.and_eq_true, beq_iff_eq]
  split <;> rfl

/-- The conditions of R7 that are unmet once the extension timer has been started. -/
theorem holdsNow_startExtension (s : State) : holdsNow (startExtension s) =
    { transfer := s.merge.state != .idle, tank := s.interlock.live.tank, exit := !routeFound s,
      dose := f2Below s && extensionStarted s != .expired } := by
  rw [startExtension_withExtension]
  have hd : doseMet (withExtension (extensionStarted s) s) = (!f2Below s || extensionStarted s == .expired) := rfl
  simp only [holdsNow, hd, Bool.not_or, Bool.not_not]
  rfl

theorem evaluate_held {s : State} (h : holdsNow (startExtension s) ≠ .empty) :
    evaluate s = heldFor (holdsNow (startExtension s)) (withExtension (extensionStarted s) s) := by
  unfold evaluate
  dsimp only
  rw [if_neg h, startExtension_withExtension]
  rfl

theorem purgeStep_held {s : State} (hc : chainsClosed s = true) (hr : routeFound s = false) :
    purgeStep s = { s with track := { s.track with holds := { Holds.empty with exit := true } } } := by
  simp [purgeStep, hc, hr]

theorem dueEvaluation_purges {s : State} (h : s.track.state = .purging) (hd : s.track.stepDue = true)
    (hm : s.track.motion = .none) : dueEvaluation s = purgeStep s := by
  simp [dueEvaluation, h, hd, hm]

/-- Settles O17. -/
theorem unmetStepsAreHeld : Obligations.UnmetStepsAreHeld := by
  intro b s hr he hd
  refine ⟨fun hs hn hg => ?_, fun hs hdue hm hroute => ?_⟩
  · have hn' : holdsNow (startExtension s) ≠ .empty := by rw [holdsNow_startExtension]; exact hn
    have hdue : dueEvaluation s = _ := (dueEvaluation_evaluates hs).trans (evaluate_held hn')
    rw [conclude_of_due hr hdue (by exact hg), idleTimerHook_of_not_ready (by exact nofun), holdsNow_startExtension]
    rfl
  · have hdue : dueEvaluation s = _ :=
      (dueEvaluation_purges hs hdue hm).trans (purgeStep_held (chainsClosed_iff.mpr ⟨he, hd⟩) hroute)
    rw [conclude_of_due hr hdue (by simp [grantOpen, hs]), idleTimerHook_of_not_ready (by simp [hs])]

/-! ### Started steps -/

theorem fixVerdict_directory (s : State) : (fixVerdict s).directory = match s.track.positions[12] with
    | some r => if r.tracked then (sendPass r.id (verdictOf r) r.dose s).directory else s.directory
    | none => s.directory := by
  unfold fixVerdict Track.f2
  cases s.track.positions[12] with
  | none => rfl
  | some r =>
    have hp := sendPass_directory_congr (s := s.setPosition 12 (some { r with verdict := verdictOf r, leaving := true }))
      (t := s) rfl r.id (verdictOf r) r.dose
    dsimp only
    split <;> split <;> simp [hp]

theorem verdictOf_short {r : TrackRecord} : verdictOf r = .short ↔ r.dose < r.required := by
  unfold verdictOf
  split <;> simp <;> omega

/-- The SHORT_DOSE notice of a record (R14). -/
def shortDoseNotice (r : TrackRecord) : Notice :=
  .shortDose r.id ((r.programme.map (·.number)).getD 0) r.dose r.required r.rewashCount

theorem fixVerdict_link (s : State) : (fixVerdict s).link = (match s.track.positions[12] with
    | some r => if r.dose < r.required then enqueue (shortDoseNotice r) s else s
    | none => s).link := by
  unfold fixVerdict Track.f2
  cases s.track.positions[12] with
  | none => rfl
  | some r =>
    simp only [verdictOf_short]
    split
    · refine enqueue_link_congr ?_ _
      split <;> simp
    · split <;> simp

theorem stepStart_directory {s t : State} (h : s.directory = t.directory) :
    (stepStart s).directory = match s.track.positions[12] with
      | some r => if r.tracked then (sendPass r.id (verdictOf r) r.dose t).directory else t.directory
      | none => t.directory := by
  have hd : (stepStart s).directory = (fixVerdict (reserveExit s)).directory := rfl
  have h12 : (reserveExit s).track.positions[12] = s.track.positions[12] := by simp [reserveExit_track]
  have hr : (reserveExit s).directory = t.directory := by simpa using h
  rw [hd, fixVerdict_directory, h12]
  simp only [fun r : TrackRecord => sendPass_directory_congr hr r.id (verdictOf r) r.dose, hr]

theorem stepStart_link {s t : State} (h : s.link = t.link) : (stepStart s).link = (match s.track.positions[12] with
    | some r => if r.dose < r.required then enqueue (shortDoseNotice r) t else t
    | none => t).link := by
  have hd : (stepStart s).link = (fixVerdict (reserveExit s)).link := rfl
  have h12 : (reserveExit s).track.positions[12] = s.track.positions[12] := by simp [reserveExit_track]
  have hr : (reserveExit s).link = t.link := by simpa using h
  rw [hd, fixVerdict_link, h12]
  cases s.track.positions[12] with
  | none => exact hr
  | some r =>
    dsimp only
    split
    · exact enqueue_link_congr hr _
    · exact hr

/-- The F2 dose is met, or waits for no time (R7, R10). -/
theorem doseMet_startExtension {s : State} (h : ∀ r, s.track.positions[12] = some r → r.required ≤ r.dose ∨
    s.track.extension = .expired ∨ (s.track.extension = .idle ∧ (r.programme.map (·.limit)).getD 0 = 0)) :
    (f2Below s && extensionStarted s != .expired) = false := by
  unfold extensionStarted f2Below Track.f2
  cases hp : s.track.positions[12] with
  | none => rfl
  | some r =>
    rcases h r hp with h | h | ⟨h, hl⟩
    · simp [Nat.not_lt.mpr h]
    · simp [h]
    · by_cases hb : r.dose < r.required
      · simp [h, hb, extensionPreset, hl]
      · simp [hb]

/-- The due steps of R7 and R26 that start. -/
theorem dueEvaluation_starts {s : State} (hc : chainsClosed s = true) (hroute : routeFound s = true)
    (h : (((s.track.state = .ready ∧ s.track.stepDue = true ∧ s.track.records ≠ 0) ∨ s.track.state = .hold) ∧
        s.merge.state = .idle ∧ s.interlock.live.tank = false ∧
        (∀ r, s.track.positions[12] = some r → r.required ≤ r.dose ∨ s.track.extension = .expired ∨
          (s.track.extension = .idle ∧ (r.programme.map (·.limit)).getD 0 = 0))) ∨
      (s.track.state = .purging ∧ s.track.stepDue = true ∧ s.track.motion = .none)) :
    ∃ e, dueEvaluation s = stepStart (withExtension e s) := by
  rcases h with ⟨hs, hm, ht, hdose⟩ | ⟨hs, hd, hm⟩
  · refine ⟨extensionStarted s, (dueEvaluation_evaluates hs).trans ?_⟩
    have hq : holdsNow (startExtension s) = .empty := by
      rw [holdsNow_startExtension, doseMet_startExtension hdose, hm, ht, hroute]
      rfl
    unfold evaluate
    dsimp only
    rw [if_pos hq, startExtension_withExtension, if_pos (by exact hc)]
  · refine ⟨s.track.extension, (dueEvaluation_purges hs hd hm).trans ?_⟩
    rw [purgeStep, if_neg (by simp [hc]), if_pos hroute]
    rfl

/-- Settles O16. -/
theorem dueStepsStart : Obligations.DueStepsStart := by
  intro b s hr he hd hroute h
  obtain ⟨e, hdue⟩ := dueEvaluation_starts (chainsClosed_iff.mpr ⟨he, hd⟩) hroute h
  have htrack := stepStart_track (withExtension e s)
  have hc : conclude b s = chooseMessage { stepStart (withExtension e s) with
      interlock := { s.interlock with idle := .idle } } := by
    rw [conclude_of_due hr hdue (by simp [grantOpen, htrack]), idleTimerHook_of_not_ready]
    · simp; rfl
    · rw [htrack]
      dsimp only
      split <;> nofun
  have hpos (i : Fin 17) : (startedRecords (withExtension e s))[i] = if i.val = 12 then s.track.positions[12].map judged
      else if i.val = 16 then s.track.positions[16].map fun r => { r with destination := exitRoute s r }
      else s.track.positions[i] := startedRecords_getElem _ i i.isLt
  dsimp only
  rw [hc]
  simp only [chooseMessage_frame, htrack, stepStart_frame, true_and]
  refine ⟨hpos 16, hpos 12, fun i h12 h16 => ?_, rfl, preset_seconds _, rfl, rfl, rfl, rfl, rfl, rfl, rfl, rfl, rfl, rfl, rfl,
    rfl, rfl, rfl, rfl, rfl, rfl, rfl, rfl, rfl, rfl, rfl, rfl, ?_, ?_⟩
  · rw [hpos, if_neg (show i.val ≠ 12 from fun h => h12 (Fin.ext h)), if_neg (show i.val ≠ 16 from fun h => h16 (Fin.ext h))]
  · exact stepStart_directory rfl
  · refine chooseMessage_link_congr ?_
    have hlink : (stepStart (withExtension e s)).link = (match s.track.positions[12] with
        | some r => if r.dose < r.required then enqueue (shortDoseNotice r) s else s
        | none => s).link := stepStart_link rfl
    refine hlink.trans ?_
    cases s.track.positions[12] with
    | none => rfl
    | some r => cases hq : r.programme <;> simp only [shortDoseNotice, hq] <;> rfl

end Sys2Proof.Machine
end

section
namespace Sys2Proof.Machine
open Sys2Proof

/-! ## Notices that stay queued -/

theorem mem_placeNotice {m n : Notice} {q : List Notice} : m ∈ placeNotice n q ↔ m = n ∨ m ∈ q := by
  induction q with
  | nil => simp [placeNotice]
  | cons x q ih =>
    unfold placeNotice
    split
    · simp only [List.mem_cons, ih]
      exact or_left_comm
    · simp

/-- The discard takes a notice of the largest number. -/
theorem mem_discardNewest {m : Notice} {q : List Notice} (hm : m ∈ q) (hp : m.priority ≠ largestNumber q) :
    m ∈ discardNewest q := by
  unfold discardNewest
  rw [List.mem_reverse]
  exact (List.mem_eraseP_of_neg (by simpa using hp)).mpr (List.mem_reverse.mpr hm)

/-- A queued notice stays queued when one of the same or a larger priority number comes (R186). -/
theorem mem_enqueue_of_mem {m n : Notice} {s : State} (hm : m ∈ s.link.notices) (hp : m.priority ≤ n.priority) :
    m ∈ (enqueue n s).link.notices := by
  unfold enqueue
  split
  · exact hm
  · split
    · exact mem_placeNotice.mpr (.inr hm)
    · dsimp only
      split
      · next hl => exact mem_placeNotice.mpr (.inr (mem_discardNewest hm (by omega)))
      · exact hm

/-- An enabled notice finds its place while the queue has one (R186). -/
theorem mem_enqueue_self {n : Notice} {s : State} (he : n.enabled s.link.mask = true) (hl : s.link.notices.length < 16) :
    n ∈ (enqueue n s).link.notices := by
  unfold enqueue
  rw [he, if_neg (by simp), if_pos hl]
  exact mem_placeNotice.mpr (.inl rfl)

/-- The transmitter's choice takes a notice from the queue to send it (R185). -/
theorem mem_chooseMessage {m : Notice} {s : State} (hm : m ∈ s.link.notices) :
    m ∈ (chooseMessage s).link.notices ∨ (chooseMessage s).link.transmitter = .notice m := by
  unfold chooseMessage
  split
  · exact .inl hm
  · next hq =>
    rw [hq] at hm
    rcases List.mem_cons.mp hm with rfl | hm
    · exact .inr rfl
    · exact .inl hm
  · exact .inl hm

theorem mem_enterState_of_mem {m : Notice} {st : TrackState} {s : State} (hm : m ∈ s.link.notices)
    (hp : m.priority ≤ 9) : m ∈ (enterState st s).link.notices := by
  unfold enterState
  dsimp only
  split
  · exact mem_enqueue_of_mem hm hp
  · exact hm

/-! ### A grant opportunity adds REFUSED notices only -/

theorem mem_resolveStation_of_mem {m : Notice} {n : Quad} {s : State} (hm : m ∈ s.link.notices) (hp : m.priority ≤ 6) :
    m ∈ (resolveStation n s).link.notices := by
  unfold resolveStation
  split
  · split
    · exact mem_enqueue_of_mem hm hp
    · exact hm
  · exact hm

theorem mem_resolveHeads_of_mem {m : Notice} {s : State} (hm : m ∈ s.link.notices) (hp : m.priority ≤ 6) :
    m ∈ (resolveHeads s).link.notices := by
  simp only [resolveHeads, quads, List.foldl]
  exact mem_resolveStation_of_mem (mem_resolveStation_of_mem (mem_resolveStation_of_mem
    (mem_resolveStation_of_mem hm hp) hp) hp) hp

theorem mem_grantOpportunity_of_mem {m : Notice} {s : State} (hm : m ∈ s.link.notices) (hp : m.priority ≤ 6) :
    m ∈ (grantOpportunity s).link.notices := by
  cases ho : grantOpen s with
  | false => rwa [grantOpportunity_of_closed ho]
  | true =>
    obtain ⟨u, hu, hc⟩ := grantOpportunity_open ho
    have hmu : m ∈ u.link.notices := by rcases hu with rfl | rfl <;> simpa using hm
    rcases hc with ⟨g, hg⟩ | ⟨hg, _⟩
    · rw [hg]; exact mem_resolveHeads_of_mem hmu hp
    · rw [hg]; exact mem_resolveHeads_of_mem hmu hp

theorem grantOpportunity_track {s : State} (h : s.track.state ≠ .hold) : (grantOpportunity s).track = s.track := by
  cases ho : grantOpen s with
  | false => rw [grantOpportunity_of_closed ho]
  | true =>
    obtain ⟨u, hu, hc⟩ := grantOpportunity_open ho
    have hut : u.track = s.track := by rcases hu with rfl | rfl <;> simp
    rcases hc with ⟨g, hg⟩ | ⟨hg, _⟩
    · rw [hg]
      simp [makeGrant, hut, h]
    · simp [hg, hut]

/-! ## Step completion -/

theorem dueEvaluation_of_not_due {s : State} (hd : s.track.stepDue = false) (h : s.track.state ≠ .hold) :
    dueEvaluation s = s := by
  unfold dueEvaluation
  split <;> simp_all

/-- The end of a command that leaves no step due and the track out of HOLD (R92, R161, R185). -/
theorem conclude_not_due {b s : State} (hr : s.phase = .running) (hd : s.track.stepDue = false)
    (h : s.track.state ≠ .hold) : conclude b s = chooseMessage (idleTimerHook b (grantOpportunity s)) := by
  rw [conclude, if_pos hr, dueEvaluation_of_not_due hd h]

theorem stateAfterCompletion_track (s : State) : (stateAfterCompletion s).track = { s.track with
    state := if s.track.state = .purging then (if s.track.purgeCount ≤ 1 then .off else .purging)
      else if s.track.runEnable = true then .ready else .off,
    purgeCount := if s.track.state = .purging then s.track.purgeCount - 1 else s.track.purgeCount,
    holds := if s.track.state = .purging ∧ s.track.purgeCount ≤ 1 then .empty else s.track.holds } := by
  unfold stateAfterCompletion
  by_cases hp : s.track.state = .purging
  · by_cases hc : s.track.purgeCount ≤ 1
    · have : s.track.purgeCount - 1 = 0 := by omega
      simp [hp, hc, this, endPurge]
    · have : ¬ s.track.purgeCount - 1 = 0 := by omega
      simp [hp, hc, this]
  · cases s.track.runEnable <;> simp [hp]

theorem mem_stateAfterCompletion_of_mem {m : Notice} {s : State} (hm : m ∈ s.link.notices) (hp : m.priority ≤ 9) :
    m ∈ (stateAfterCompletion s).link.notices := by
  unfold stateAfterCompletion endPurge
  dsimp only
  (repeat' split)
  · exact mem_enterState_of_mem hm hp
  · exact hm
  · exact mem_enterState_of_mem hm hp
  · exact mem_enterState_of_mem hm hp

/-- The part once the directory has been told of the record handed over from X (R16). -/
def handedTo (x : Option TrackRecord) (s : State) : State :=
  match x with
  | some r => match r.destination with
    | some d => if r.tracked then sendLocation r.id (if d = .rewash then .rewash else .clean) s else s
    | none => s
  | none => s

theorem handOver_directory {s t : State} (h : s.directory = t.directory) :
    (handOver s).directory = (handedTo s.track.positions[16] t).directory := by
  unfold handOver handedTo Track.x
  cases s.track.positions[16] with
  | none => exact h
  | some r =>
    dsimp only
    cases r.destination with
    | none => exact h
    | some d =>
      dsimp only
      split
      · exact sendLocation_directory_congr (by cases d <;> exact h) _ _
      · cases d <;> exact h

/-- The clean-end entry that the record at X becomes, if its destination is there (R16). -/
def handedClean (x : Option TrackRecord) : List CleanEntry :=
  match x with
  | some r => if r.destination = some .clean then [⟨{ r with destination := none }, false⟩]
              else if r.destination = some .quarantine then [⟨{ r with destination := none }, true⟩] else []
  | none => []

/-- The lane record that the record at X becomes, if its destination is there (R16). -/
def handedLane (x : Option TrackRecord) : List TrackRecord :=
  match x with
  | some r => if r.destination = some .rewash then [{ r with destination := none }] else []
  | none => []

theorem handedRet_eq (s : State) : handedRet s = { s.ret with
    cleanEnd := s.ret.cleanEnd ++ handedClean s.track.positions[16],
    lane := s.ret.lane ++ handedLane s.track.positions[16] } := by
  unfold handedRet handedClean handedLane
  cases s.track.positions[16] with
  | none => simp
  | some r =>
    cases hd : r.destination with
    | none => simp [hd]
    | some d => cases d <;> simp [hd]

theorem exitEyeCheck_directory {s t : State} (h : s.directory = t.directory) :
    (exitEyeCheck s).directory = match s.track.positions[16], s.plant.exitEye with
      | some r, false => if r.tracked then (sendUnpin r.id .unknown t).directory else t.directory
      | _, _ => t.directory := by
  unfold exitEyeCheck Track.x
  cases s.track.positions[16] with
  | none => cases s.plant.exitEye <;> exact h
  | some r =>
    cases s.plant.exitEye with
    | true => exact h
    | false =>
      simp only [enqueue_frame]
      split
      · exact sendUnpin_directory_congr (s := s.setPosition 16 none) h _ _
      · exact h

theorem afterShift_directory {s t : State} (h : s.directory = t.directory) :
    (afterShift s).directory = (handedTo s.track.positions[16] t).directory := by
  simpa [afterShift, endMotion] using handOver_directory (s := endMotion s) h

theorem completeMotion_directory {s t : State} (h : s.directory = t.directory) :
    (completeMotion s).directory = match s.track.positions[15], s.plant.exitEye with
      | some r, false => if r.tracked then (sendUnpin r.id .unknown (handedTo s.track.positions[16] t)).directory
          else (handedTo s.track.positions[16] t).directory
      | _, _ => (handedTo s.track.positions[16] t).directory := by
  have hx : (fixPeriod (afterShift s)).track.positions[16] = s.track.positions[15] := by
    simp [fixPeriod, afterShift_track, shiftRecords_getElem]
  have hp : (fixPeriod (afterShift s)).plant = s.plant := by simp [fixPeriod, afterShift]
  rw [completeMotion_eq, exitEyeCheck_directory (s := fixPeriod (afterShift s)) (afterShift_directory h), hx, hp]

theorem sendUnpin_link (id : RackId) (l : Location) (s : State) : (sendUnpin id l s).link = s.link := by simp

/-- The notice of a rack missing at the exit eye is queued while there is a place (R18). -/
theorem mem_completeMotion_missing {s : State} {r : TrackRecord} (hr : s.track.positions[15] = some r)
    (he : s.plant.exitEye = false) (hm : s.link.mask.getLsbD 2 = true) (hl : s.link.notices.length < 16) :
    Notice.fault (.missingRack r.id r.source) ∈ (completeMotion s).link.notices := by
  have hx : (fixPeriod (afterShift s)).track.x = some r := by
    simpa [Track.x, fixPeriod, afterShift_track, shiftRecords_getElem] using hr
  have hp : (fixPeriod (afterShift s)).plant.exitEye = false := by simpa [fixPeriod, afterShift] using he
  have hq : (fixPeriod (afterShift s)).link = s.link := by simp [fixPeriod, afterShift, endMotion]
  have key (t : State) (ht : t.link = s.link) :
      Notice.fault (.missingRack r.id r.source) ∈ (enqueue (.fault (.missingRack r.id r.source)) t).link.notices :=
    mem_enqueue_self (by rw [ht, Notice.enabled, Notice.maskBit, hm]; rfl) (by rw [ht]; exact hl)
  rw [completeMotion_eq, exitEyeCheck, hx, hp]
  refine key _ ?_
  split
  · exact (sendUnpin_link ..).trans hq
  · exact hq

theorem indexMade_inFlight {s : State} (h : s.track.motion = .inFlight) :
    indexMade s = stateAfterCompletion (completeMotion s) := if_pos h

/-- The part once a motion in flight has completed and the track has taken its next state (R15, R17). -/
def stepCompleted (p : Plant) (s : State) : State :=
  stateAfterCompletion (completeMotion (s.sense { p with index := true }))

theorem preset_tenths (n : Nat) : Timer.preset (n * 10) = .running (10 * n) := by rw [Timer.preset, Nat.mul_comm]

/-- The whole track after a completed step (R15, R17, R27). -/
theorem stepCompleted_track (p : Plant) (s : State) : (stepCompleted p s).track = { s.track with
    positions := movedRecords s.track.positions p.exitEye, chainDrive := false, rewashGate := false,
    motionTimer := .idle, motion := .none, stepDue := false, period := periodOf (stepCompleted p s),
    stepTimer := .running (10 * periodOf (stepCompleted p s)),
    state := if s.track.state = .purging then (if s.track.purgeCount ≤ 1 then .off else .purging)
      else if s.track.runEnable = true then .ready else .off,
    purgeCount := if s.track.state = .purging then s.track.purgeCount - 1 else s.track.purgeCount,
    holds := if s.track.state = .purging ∧ s.track.purgeCount ≤ 1 then .empty else s.track.holds } := by
  have hperiod : periodOf (completeMotion (s.sense { p with index := true })) = periodOf (stepCompleted p s) := by
    refine periodOf_congr (fun i h _ _ => ?_) (by simp [stepCompleted])
    simp only [stepCompleted, stateAfterCompletion_track]
  have hm := completeMotion_track (s.sense { p with index := true })
  rw [hperiod, preset_tenths] at hm
  generalize hu : completeMotion (s.sense { p with index := true }) = u at hm
  have ht : (stepCompleted p s).track = (stateAfterCompletion u).track := by rw [← hu, stepCompleted]
  generalize periodOf (stepCompleted p s) = d at hm ⊢
  rw [ht, stateAfterCompletion_track, hm]
  rfl

/-- The end of a step completion: what follows is at most a grant (R92), which leaves the track. -/
theorem conclude_stepCompleted_track {p : Plant} {s : State} (hr : s.phase = .running) :
    (conclude s (stepCompleted p s)).track = (stepCompleted p s).track ∧
      (conclude s (stepCompleted p s)).directory = (stepCompleted p s).directory ∧
      ∀ m ∈ (stepCompleted p s).link.notices, m.priority ≤ 6 → m ∈ (conclude s (stepCompleted p s)).link.notices ∨
        (conclude s (stepCompleted p s)).link.transmitter = .notice m := by
  have hstate : (stepCompleted p s).track.state ≠ .hold := by
    rw [stepCompleted_track]
    dsimp only
    (repeat' split) <;> nofun
  rw [conclude_not_due (by simpa [stepCompleted] using hr) (by rw [stepCompleted_track]) hstate]
  refine ⟨by simp [grantOpportunity_track hstate], by simp, fun m hm hp => mem_chooseMessage ?_⟩
  simpa using mem_grantOpportunity_of_mem hm hp

/-- Settles O19. -/
theorem stepCompletionMovesTheRecords : Obligations.StepCompletionMovesTheRecords := by
  intro s p hr hm
  have hx : exec (.stepCompletion p) s = .next (conclude s (stepCompleted p s)) := by
    rw [stepCompleted, ← indexMade_inFlight (by exact hm)]
    exact congrArg (fun t => Host.Outcome.next (conclude s t)) (if_pos (by exact hr))
  refine ⟨_, hx, ?_⟩
  obtain ⟨htrack, hdir, hlink⟩ := conclude_stepCompleted_track (p := p) hr
  rw [stepCompleted_track] at htrack
  have hpos (i : Nat) (h : i < 17) : (conclude s (stepCompleted p s)).track.positions[i] =
      (movedRecords s.track.positions p.exitEye)[i] := by simp only [htrack]
  have hperiod : periodOf (stepCompleted p s) = periodOf (conclude s (stepCompleted p s)) :=
    periodOf_congr (fun i h _ _ => by rw [hpos, stepCompleted_track]) (by simp)
  refine ⟨by rw [hpos, movedRecords_getElem]; rfl, fun i h h12 => ?_, by rw [hpos, movedRecords_getElem]; rfl, ?_, ?_,
    by rw [htrack], by rw [htrack], by rw [htrack], by rw [htrack], by rw [htrack], by rw [htrack, hperiod],
    by rw [htrack, hperiod], by rw [htrack], fun h => by rw [htrack]; exact if_pos h,
    fun h hc => by rw [htrack]; exact if_pos ⟨h, hc⟩, by rw [htrack], by rw [htrack], by simp [stepCompleted],
    by simp [stepCompleted], by simp [stepCompleted], by simp [stepCompleted], ?_, fun r h15 he hmask hl => ?_⟩
  · rw [hpos, movedRecords_getElem, if_neg (by omega), if_neg (by omega), if_neg (by omega)]
    rfl
  · rw [hpos, movedRecords_getElem, if_pos rfl]
    cases s.track.positions[15] <;> cases p.exitEye <;> rfl
  · simp only [conclude_frame, stepCompleted, stateAfterCompletion_frame, completeMotion_ret, handedRet_eq]
    rfl
  · have hd : (stepCompleted p s).directory = (completeMotion (s.sense { p with index := true })).directory := by
      simp [stepCompleted]
    exact hdir.trans (hd.trans (completeMotion_directory (s := s.sense { p with index := true }) (t := s) rfl))
  · exact hlink _ (mem_stateAfterCompletion_of_mem
      (mem_completeMotion_missing (s := s.sense { p with index := true }) h15 he hmask hl) (by simp [Notice.priority]))
      (by simp [Notice.priority])

end Sys2Proof.Machine
end

section
namespace Sys2Proof.Machine
open Sys2Proof

/-! ## The grant -/

/-! ### The order of the rotation -/

/-- The place of a spur in the order after the rotation pointer. -/
def rotationRank (r n : Quad) : Nat := (n - r - 1).val

/-- The first spur of the rotation order that satisfies a condition is the one of the smallest rank. -/
theorem find_rotationOrder {r n : Quad} {p : Quad → Bool} (hn : p n = true)
    (hmin : ∀ m, p m = true → rotationRank r n ≤ rotationRank r m) : (rotationOrder r).find? p = some n := by
  have first : ∀ r n : Quad, rotationRank r n ≤ rotationRank r (r + 1) → n = r + 1 := by decide
  have second : ∀ r n : Quad, rotationRank r n ≤ rotationRank r (r + 2) → n = r + 1 ∨ n = r + 2 := by decide
  have third : ∀ r n : Quad, rotationRank r n ≤ rotationRank r (r + 3) → n = r + 1 ∨ n = r + 2 ∨ n = r + 3 := by decide
  have all : ∀ r n : Quad, n = r + 1 ∨ n = r + 2 ∨ n = r + 3 ∨ n = r := by decide
  have ne {m : Quad} (hm : p m = false) : n ≠ m := fun h => by rw [h, hm] at hn; cases hn
  unfold rotationOrder
  cases h1 : p (r + 1) with
  | true => rw [List.find?_cons_of_pos h1, first r n (hmin _ h1)]
  | false =>
    rw [List.find?_cons_of_neg (ne_true_of_eq_false h1)]
    cases h2 : p (r + 2) with
    | true => rw [List.find?_cons_of_pos h2, (second r n (hmin _ h2)).resolve_left (ne h1)]
    | false =>
      rw [List.find?_cons_of_neg (ne_true_of_eq_false h2)]
      cases h3 : p (r + 3) with
      | true =>
        rw [List.find?_cons_of_pos h3, ((third r n (hmin _ h3)).resolve_left (ne h1)).resolve_left (ne h2)]
      | false =>
        have hr := (((all r n).resolve_left (ne h1)).resolve_left (ne h2)).resolve_left (ne h3)
        rw [List.find?_cons_of_neg (ne_true_of_eq_false h3), List.find?_cons_of_pos (hr ▸ hn), hr]

/-- An eligible head of a full spur (R93). -/
def fullEligible (s : State) (n : Quad) : Bool := eligible s n && (s.stations.get n).spur.length == Config.spurPlaces

theorem fullEligible_iff {s : State} {n : Quad} :
    fullEligible s n = true ↔ eligible s n = true ∧ (s.stations.get n).spur.length = 3 := by
  simp [fullEligible]

/-- The choice of R93 with the lane empty: the first full eligible spur of the rotation order, or the first eligible. -/
theorem chooseRequester_spur {s : State} (hl : s.ret.lane = []) : chooseRequester s =
    (((rotationOrder s.merge.rotation).find? (fullEligible s)).or
      ((rotationOrder s.merge.rotation).find? (eligible s))).map .spur := by
  have hf : fullEligible s = fun n => eligible s n && (s.stations.get n).spur.length == Config.spurPlaces := rfl
  simp only [chooseRequester, hl, List.isEmpty_nil, Bool.not_true, Bool.false_eq_true, if_false, List.find?_filter,
    List.head?_filter, Bool.decide_and, Bool.decide_eq_true, ← hf]
  cases (rotationOrder s.merge.rotation).find? (fullEligible s) <;> rfl

theorem chooseRequester_eligible {s : State} {n : Quad} (hl : s.ret.lane = []) (he : eligible s n = true)
    (h : ((s.stations.get n).spur.length = 3 ∧ ∀ m, eligible s m = true → (s.stations.get m).spur.length = 3 →
        rotationRank s.merge.rotation n ≤ rotationRank s.merge.rotation m) ∨
      ((∀ m, eligible s m = true → ¬ (s.stations.get m).spur.length = 3) ∧
        ∀ m, eligible s m = true → rotationRank s.merge.rotation n ≤ rotationRank s.merge.rotation m)) :
    chooseRequester s = some (.spur n) := by
  rw [chooseRequester_spur hl]
  rcases h with ⟨hf, hmin⟩ | ⟨hnone, hmin⟩
  · rw [find_rotationOrder (fullEligible_iff.mpr ⟨he, hf⟩) fun m hm =>
      hmin m (fullEligible_iff.mp hm).1 (fullEligible_iff.mp hm).2]
    rfl
  · rw [List.find?_eq_none.mpr fun m _ hm => hnone m (fullEligible_iff.mp hm).1 (fullEligible_iff.mp hm).2,
      find_rotationOrder he hmin]
    rfl

/-! ### The refusals -/

/-- The notice of a head that a resolution refuses (R89). -/
def refusalOf (s : State) (n : Quad) : Option Notice :=
  if headWaiting s n && !eligible s n then (s.stations.get n).spur.head?.map (refusedNotice s n) else none

/-- The notices of the heads at these stations that a resolution refuses (R89). -/
def refusals (s : State) (q : List Quad) : List Notice := q.filterMap (refusalOf s)

theorem refusals_eq (s : State) (q : List Quad) : refusals s q =
    (q.filter fun n => headWaiting s n && !eligible s n).filterMap fun n =>
      (s.stations.get n).spur.head?.map (refusedNotice s n) := by
  rw [List.filterMap_filter]
  rfl

theorem resolveStation_link (n : Quad) (s : State) :
    (resolveStation n s).link = (enqueueAll (refusalOf s n).toList s).link := by
  unfold resolveStation refusalOf StationUnit.head
  cases hs : (s.stations.get n).spur with
  | nil => simp [enqueueAll]
  | cons e rest =>
    have he : (headWaiting s n && !eligible s n) = (headWaiting s n && !(resolveHead s e).isSome) := by
      simp only [eligible, StationUnit.head, hs, List.head?_cons]
      cases headWaiting s n <;> rfl
    simp only [List.head?_cons, Option.map_some, he]
    split
    · exact enqueue_link_congr (setHead_link ..) _
    · rfl

/-- The refusal at a station rests on the station, the programmes and the stations fitted. -/
theorem refusalOf_congr {s t : State} {n : Quad} (hs : t.stations.get n = s.stations.get n)
    (hp : t.programmes = s.programmes) (hf : t.profile = s.profile) : refusalOf t n = refusalOf s n := by
  have hr : refusedNotice t n = refusedNotice s n := by
    funext e
    simp only [refusedNotice, headProgramme, hp]
  simp only [refusalOf, head_congr hs hp hf, hs, hr]

theorem enqueueAll_append (a b : List Notice) (s : State) : enqueueAll (a ++ b) s = enqueueAll b (enqueueAll a s) :=
  List.foldl_append ..

theorem enqueueAll_link_congr {s t : State} (h : s.link = t.link) (q : List Notice) :
    (enqueueAll q s).link = (enqueueAll q t).link := by
  induction q generalizing s t with
  | nil => exact h
  | cons n q ih => exact ih (enqueue_link_congr h n)

theorem foldl_resolveStation_link {q : List Quad} (hq : q.Nodup) (s : State) :
    (q.foldl (fun s n => resolveStation n s) s).link = (enqueueAll (refusals s q) s).link := by
  induction q generalizing s with
  | nil => rfl
  | cons n q ih =>
    obtain ⟨hn, hq⟩ := List.nodup_cons.mp hq
    have hother : refusals (resolveStation n s) q = refusals s q := List.filterMap_congr fun m hm => by
      have hne : m ≠ n := fun h => hn (by rwa [← h])
      exact refusalOf_congr (by rw [resolveStation_get, if_neg hne]) (by simp) (by simp)
    have hcons : refusals s (n :: q) = (refusalOf s n).toList ++ refusals s q := by
      unfold refusals
      rw [List.filterMap_cons]
      cases refusalOf s n <;> rfl
    rw [List.foldl_cons, ih hq, hother, hcons, enqueueAll_append]
    exact enqueueAll_link_congr (resolveStation_link n s) _

theorem resolveHeads_link (s : State) : (resolveHeads s).link = (enqueueAll (refusals s quads) s).link :=
  foldl_resolveStation_link (by decide) s

/-! ### The opportunity taken -/

theorem grantOpportunity_eq {s : State} (hg : grantOpen s = true) (hr : s.merge.retest = false) :
    grantOpportunity s = match (chooseRequester (resolveHeads s)).bind (grantOf (resolveHeads s)) with
      | some g => makeGrant g (resolveHeads s)
      | none => resolveHeads s := by
  simp only [grantOpportunity, hg, hr, if_true, Bool.false_eq_true, if_false] <;> rfl

theorem grantOf_rewash {s : State} {r : TrackRecord} {rest : List TrackRecord} (h : s.ret.lane = r :: rest) :
    (chooseRequester (resolveHeads s)).bind (grantOf (resolveHeads s)) = some (.rewash r) := by
  simp [chooseRequester, h, grantOf]

theorem grantOf_nobody {s : State} (hl : s.ret.lane = []) (hn : ∀ m, eligible s m = false) :
    (chooseRequester (resolveHeads s)).bind (grantOf (resolveHeads s)) = none := by
  have hf (m : Quad) : fullEligible (resolveHeads s) m = false := by simp [fullEligible, eligible_resolveHeads, hn]
  rw [chooseRequester_spur (by simpa using hl), List.find?_eq_none.mpr fun m _ => ne_true_of_eq_false (hf m),
    List.find?_eq_none.mpr fun m _ => by simp [eligible_resolveHeads, hn]]
  rfl

/-- An eligible head is granted with its expected id, its kind and the snapshot of its programme (R94). -/
theorem grantOf_eligible {s : State} {n : Quad} (he : eligible s n = true) : ∃ e q,
    (s.stations.get n).spur.head? = some e ∧ resolveHead s e = some q ∧
      grantOf (resolveHeads s) (.spur n) = some (.spur n e.expected e.kind q) := by
  cases hs : (s.stations.get n).spur with
  | nil => simp [eligible, StationUnit.head, hs] at he
  | cons e rest =>
    have hq : (resolveHead s e).isSome = true := by
      simp only [eligible, StationUnit.head, hs, List.head?_cons, Bool.and_eq_true] at he
      exact he.2
    obtain ⟨q, hq⟩ := Option.isSome_iff_exists.mp hq
    refine ⟨e, q, rfl, hq, ?_⟩
    simp only [grantOf, resolveHeads_get, resolvedUnit, StationUnit.head, hs, List.head?_cons, Option.bind_some,
      resolveHead_resolveHeads, hq, Option.map_some]

/-! ### The re-test after a warm start-up -/

/-- A station after its head has been re-tested: a refused head of a fitted station that resolves is refused no more
(R90). -/
def retestedUnit (s : State) (n : Quad) : StationUnit :=
  { s.stations.get n with spur := match (s.stations.get n).spur with
    | e :: rest => (if n.val + 1 ≤ s.profile.values.stations ∧ e.refused = true ∧ (resolveHead s e).isSome = true then
        { e with refused := false } else e) :: rest
    | [] => [] }

theorem retestHead_get (n m : Quad) (s : State) :
    (retestHead n s).stations.get m = if m = n then retestedUnit s n else s.stations.get m := by
  unfold retestHead retestedUnit StationUnit.head
  cases hs : (s.stations.get n).spur with
  | nil =>
    simp only [List.head?_nil]
    split
    · next h => subst h; rw [← hs]
    · rfl
  | cons e rest =>
    simp only [List.head?_cons, fitted, Bool.and_eq_true, decide_eq_true_eq, and_assoc]
    split
    · simp [Four.get_set, hs]
    · split
      · next h => subst h; rw [← hs]
      · rfl

theorem resolveHead_congr {s t : State} (hp : t.programmes = s.programmes) : resolveHead t = resolveHead s := by
  funext e
  simp only [resolveHead, descriptor, headProgramme, hp]
  rfl

theorem retestedUnit_congr {s t : State} {n : Quad} (hs : t.stations.get n = s.stations.get n)
    (hp : t.programmes = s.programmes) (hf : t.profile = s.profile) : retestedUnit t n = retestedUnit s n := by
  simp only [retestedUnit, hs, hf, resolveHead_congr hp]

theorem retestHeads_get (m : Quad) (s : State) : (retestHeads s).stations.get m = retestedUnit s m := by
  have other {n : Quad} (h : m ≠ n) (t : State) : (retestHead n t).stations.get m = t.stations.get m := by
    rw [retestHead_get, if_neg h]
  have kept {n : Quad} (h : m ≠ n) (t : State) : retestedUnit (retestHead n t) m = retestedUnit t m :=
    retestedUnit_congr (other h t) (by simp) (by simp)
  have own (t : State) : (retestHead m t).stations.get m = retestedUnit t m := by
    rw [retestHead_get, if_pos rfl]
  simp only [retestHeads, quads, List.foldl]
  match m with
  | 0 => rw [other (by decide), other (by decide), other (by decide), own]
  | 1 => rw [other (by decide), other (by decide), own, kept (by decide)]
  | 2 => rw [other (by decide), own, kept (by decide), kept (by decide)]
  | 3 => rw [own, kept (by decide), kept (by decide), kept (by decide)]

theorem retestHeads_eq (s : State) : retestHeads s = { s with stations := (retestHeads s).stations } := by
  have one (n : Quad) (t : State) : retestHead n t = { t with stations := (retestHead n t).stations } := by
    unfold retestHead
    split
    · split <;> rfl
    · rfl
  simp only [retestHeads, quads, List.foldl]
  rw [one 3, one 2, one 1, one 0]

/-- A head that waits before a re-test waits after it. -/
theorem headWaiting_retestHeads {s : State} {n : Quad} (h : headWaiting s n = true) :
    headWaiting (retestHeads s) n = true := by
  unfold headWaiting at h ⊢
  have hf : fitted (retestHeads s) n = fitted s n := by simp [fitted]
  rw [retestHeads_get, hf]
  unfold StationUnit.head at h ⊢
  cases hs : (s.stations.get n).spur with
  | nil => simp [hs] at h
  | cons e rest =>
    simp only [hs, List.head?_cons, Bool.and_eq_true, Bool.not_eq_true'] at h
    simp [retestedUnit, hs, h]

theorem grantOpen_retestHeads {s : State} (h : grantOpen s = true) : grantOpen (retestHeads s) = true := by
  simp only [grantOpen, Bool.and_eq_true, Bool.or_eq_true, List.any_eq_true, retestHeads_frame] at h ⊢
  exact ⟨h.1, h.2.imp_right fun ⟨n, hn, hw⟩ => ⟨n, hn, headWaiting_retestHeads hw⟩⟩

/-- The first opportunity after a warm start-up is one of the re-tested heads with no re-test owed (R90). -/
theorem grantOpportunity_retest {s : State} (hg : grantOpen s = true) (hr : s.merge.retest = true) :
    grantOpportunity s = grantOpportunity (retestHeads { s with merge := { s.merge with retest := false } }) := by
  have hg' : grantOpen (retestHeads { s with merge := { s.merge with retest := false } }) = true :=
    grantOpen_retestHeads (s := { s with merge := { s.merge with retest := false } }) hg
  rw [grantOpportunity_eq hg' (by simp)]
  simp only [grantOpportunity, hg, hr, if_true] <;> rfl

/-- What an open opportunity with no re-test owed leaves of the blocks, whoever is granted. -/
theorem grantOpportunity_parts {s : State} (hg : grantOpen s = true) (hr : s.merge.retest = false) :
    (grantOpportunity s).stations = (resolveHeads s).stations ∧ (grantOpportunity s).link = (resolveHeads s).link := by
  rw [grantOpportunity_eq hg hr]
  split <;> exact ⟨rfl, rfl⟩

theorem refusedNotice_eq (s : State) (n : Quad) (e : SpurEntry) : refusedNotice s n e = .admission (.refused n e.expected
    e.kind (match e.forced with
      | some q => q
      | none => match e.kind with
        | .unknown => s.programmes.kindMap.unknown
        | .plate => s.programmes.kindMap.plate
        | .cup => s.programmes.kindMap.cup
        | .cutlery => s.programmes.kindMap.cutlery
        | .tray => s.programmes.kindMap.tray) e.forced.isSome) := by
  unfold refusedNotice headProgramme
  cases e.forced with
  | some q => rfl
  | none => cases e.kind <;> rfl

theorem conclude_opportunity {b s : State} (hr : s.phase = .running) (hd : NothingDue s) :
    conclude b s = chooseMessage (idleTimerHook b (grantOpportunity s)) := by
  rw [conclude, if_pos hr, dueEvaluation_of_nothingDue hd]

/-- The rotation pointer after a grant: it names a granted spur (R93). -/
def pointerAfter (r : Quad) : Grant → Quad
  | .spur n _ _ _ => n
  | .rewash _ => r

theorem makeGrant_merge (g : Grant) (s : State) : (makeGrant g s).merge = { s.merge with
    state := .transferring, grant := some g, pusher := some g.requester, tags := [], overrun := false,
    rotation := pointerAfter s.merge.rotation g, timer := .running (100 * s.profile.values.transferLimit) } := by
  cases g <;> simp only [makeGrant, preset_seconds, pointerAfter]

theorem resolveHeads_spur_length (s : State) (n : Quad) :
    ((resolveHeads s).stations.get n).spur.length = (s.stations.get n).spur.length := by
  rw [resolveHeads_get, resolvedUnit]
  cases (s.stations.get n).spur <;> rfl

theorem idleTimerHook_link (b s : State) : (idleTimerHook b s).link = s.link := by simp

/-- The end of a command with an opportunity taken by this grant (R94). -/
theorem conclude_granted {b s : State} {g : Grant} (hr : s.phase = .running) (hd : NothingDue s) (hg : grantOpen s = true)
    (hre : s.merge.retest = false)
    (hc : (chooseRequester (resolveHeads s)).bind (grantOf (resolveHeads s)) = some g) :
    (conclude b s).merge = { s.merge with
        state := .transferring, grant := some g, pusher := some g.requester, tags := [], overrun := false,
        rotation := pointerAfter s.merge.rotation g, timer := .running (100 * s.profile.values.transferLimit) } ∧
      (conclude b s).track = { s.track with
        holds := if s.track.state = .hold then { s.track.holds with transfer := true } else s.track.holds } := by
  rw [conclude_opportunity hr hd, grantOpportunity_eq hg hre, hc]
  simp only [chooseMessage_frame, idleTimerHook_frame, makeGrant_merge, resolveHeads_frame]
  exact ⟨trivial, by simp [makeGrant]⟩

/-- Settles O36. -/
theorem grantsFollowTheOrder : Obligations.GrantsFollowTheOrder := by
  refine ⟨fun b s hr hd hg hre => ?_, fun b s hr hd hg hre => ?_⟩
  · obtain ⟨hstations, hlink⟩ := grantOpportunity_parts hg hre
    have hconc := conclude_opportunity (b := b) hr hd
    refine ⟨fun r rest hl => conclude_granted hr hd hg hre (grantOf_rewash hl), fun n hl he h => ?_, fun hl hn => ?_,
      fun n e rest hs => ?_, ?_, by rw [hconc]; simp, by rw [hconc]; simp, by rw [hconc]; simp, by rw [hconc]; simp⟩
    · obtain ⟨e, q, hhead, hq, hgrant⟩ := grantOf_eligible he
      have hchoice : chooseRequester (resolveHeads s) = some (.spur n) :=
        chooseRequester_eligible (by simpa using hl) (by rwa [eligible_resolveHeads])
          (by simp only [resolveHeads_spur_length, eligible_resolveHeads, resolveHeads_frame]; exact h)
      exact ⟨e, q, hhead, hq, conclude_granted hr hd hg hre (by rw [hchoice]; exact hgrant)⟩
    · rw [hconc, grantOpportunity_eq hg hre, grantOf_nobody hl hn]
      simp
    · rw [hconc]
      simp only [chooseMessage_frame, idleTimerHook_frame, hstations, resolveHeads_get, resolvedUnit, hs]
    · rw [hconc]
      refine chooseMessage_link_congr ?_
      rw [idleTimerHook_link, hlink, resolveHeads_link, refusals_eq]
      exact congrArg (fun f => (enqueueAll ((quads.filter fun n => headWaiting s n && !eligible s n).filterMap fun n =>
        (s.stations.get n).spur.head?.map (f n)) s).link) (funext₂ (refusedNotice_eq s))
  · refine ⟨(retestHeads { s with merge := { s.merge with retest := false } }).stations, fun n => ?_, ?_⟩
    · rw [retestHeads_get]
      rfl
    · have heq := retestHeads_eq { s with merge := { s.merge with retest := false } }
      rw [conclude_opportunity hr hd, grantOpportunity_retest hg hre]
      refine (conclude_opportunity (b := b) (s := retestHeads { s with merge := { s.merge with retest := false } })
        (by simpa using hr) hd.congr).symm.trans ?_
      rw [heq]

end Sys2Proof.Machine
end

section
namespace Sys2Proof.Machine
open Sys2Proof

/-! ## Queues and counts -/

/-! ### The invariant block by block -/

/-- The records of the track: none but the X record has a destination, and that one only with a motion; doses and rewash
counts in range. -/
def TrackBounded (t : Track) : Prop :=
  (∀ (i : Fin 17) (r : TrackRecord), t.positions[i] = some r → RecordInRange r ∧ (i ≠ 16 → Unrouted r)) ∧
    (∀ r, t.positions[16] = some r → r.destination ≠ none → t.motion ≠ .none)

/-- The place that a destination reserves at the clean end (R13). -/
def cleanPlacesOf (d : Option Destination) : Nat := if d = some .clean ∨ d = some .quarantine then 1 else 0

/-- The place that a destination reserves in the lane (R13). -/
def lanePlacesOf (d : Option Destination) : Nat := if d = some .rewash then 1 else 0

/-- A record of the lane or the clean end. -/
def QueuedRecord (r : TrackRecord) : Prop := RecordInRange r ∧ Unrouted r

/-- The queues of the return with the reservation of the X record's destination. -/
structure ReturnBounded (r : Return) (d : Option Destination) : Prop where
  clean : r.cleanEnd.length + cleanPlacesOf d ≤ Config.cleanPlaces
  lane : r.lane.length + lanePlacesOf d ≤ Config.lanePlaces
  transit : r.transit.length ≤ Config.transitPlaces
  surplus : r.surplus.length ≤ Config.surplusPlaces
  laneRecords : ∀ x ∈ r.lane, QueuedRecord x
  cleanRecords : ∀ e ∈ r.cleanEnd, QueuedRecord e.record
  transitRecords : ∀ x ∈ r.transit, RecordInRange x.record
  inspections : r.inspections ≤ 65535

/-- A station within its places. -/
def UnitBounded (u : StationUnit) : Prop := u.committed ≤ Config.stackPlaces ∧ u.spur.length ≤ Config.spurPlaces

/-- The runs of the dose unit within their length. -/
def RunsBounded (d : Dose) : Prop := d.disagreeRun ≤ 8 ∧ d.invalidRun ≤ 8 ∧ d.recoveryRun ≤ 8

/-- The invariant of queues and counts, block by block. -/
structure Bounded (s : State) : Prop where
  track : TrackBounded s.track
  ret : ReturnBounded s.ret s.reservation
  stations : ∀ n, UnitBounded (s.stations.get n)
  tags : s.merge.tags.length ≤ Config.tagPlaces
  runs : RunsBounded s.dose

theorem cleanCount_eq (s : State) : cleanCount s = s.ret.cleanEnd.length + cleanPlacesOf s.reservation :=
  cleanCount_eq_length s

theorem laneCount_eq (s : State) : laneCount s = s.ret.lane.length + lanePlacesOf s.reservation := laneCount_eq_length s

/-- The invariant is the one the statement names. -/
theorem bounded_iff (s : State) : Bounded s ↔ Places s ∧ CountsInRange s := by
  constructor
  · rintro ⟨⟨hp, hm⟩, hr, hu, ht, h1, h2, h3⟩
    refine ⟨⟨⟨fun i hi r h => (hp i r h).2 hi, hm, fun r h => (hr.laneRecords r h).2, fun e h => (hr.cleanRecords e h).2⟩,
      cleanCount_eq s ▸ hr.clean, laneCount_eq s ▸ hr.lane, hr.transit, hr.surplus, ht, hu⟩,
      fun i r h => (hp i r h).1, fun r h => (hr.laneRecords r h).1, fun e h => (hr.cleanRecords e h).1,
      hr.transitRecords, h1, h2, h3, hr.inspections⟩
  · rintro ⟨⟨⟨hp, hm, hl, hc⟩, hcc, hlc, htr, hsu, htag, hu⟩, hpr, hlr, hcr, htrr, h1, h2, h3, hin⟩
    exact ⟨⟨fun i r h => ⟨hpr i r h, fun hi => hp i hi r h⟩, hm⟩,
      ⟨cleanCount_eq s ▸ hcc, laneCount_eq s ▸ hlc, htr, hsu, fun r h => ⟨hlr r h, hl r h⟩,
        fun e h => ⟨hcr e h, hc e h⟩, htrr, hin⟩, hu, htag, h1, h2, h3⟩

/-- The invariant rests on these parts of the state. -/
theorem Bounded.congr {s t : State} (h : Bounded s) (positions : t.track.positions = s.track.positions := by simp)
    (motion : t.track.motion = s.track.motion := by simp) (ret : t.ret = s.ret := by simp)
    (stations : t.stations = s.stations := by simp) (tags : t.merge.tags = s.merge.tags := by simp)
    (dose : t.dose = s.dose := by simp) : Bounded t := by
  refine ⟨?_, ?_, stations ▸ h.stations, tags ▸ h.tags, dose ▸ h.runs⟩
  · simpa only [TrackBounded, positions, motion] using h.track
  · simpa only [State.reservation, Track.x, positions, ret] using h.ret

theorem Bounded.of_parts {s t : State} (h : Bounded s) (ht : TrackBounded t.track) (hr : ReturnBounded t.ret t.reservation)
    (stations : t.stations = s.stations := by simp) (tags : t.merge.tags = s.merge.tags := by simp)
    (dose : t.dose = s.dose := by simp) : Bounded t :=
  ⟨ht, hr, stations ▸ h.stations, tags ▸ h.tags, dose ▸ h.runs⟩

/-- Other queues of the return, with the track as it stands. -/
theorem Bounded.of_ret {s t : State} (h : Bounded s) (hr : ReturnBounded t.ret s.reservation)
    (track : t.track = s.track := by simp) (stations : t.stations = s.stations := by simp)
    (tags : t.merge.tags = s.merge.tags := by simp) (dose : t.dose = s.dose := by simp) : Bounded t :=
  ⟨track ▸ h.track, by simpa only [State.reservation, track] using hr, stations ▸ h.stations, tags ▸ h.tags, dose ▸ h.runs⟩

/-- Another station unit within its places. -/
theorem Bounded.setStation {s : State} (h : Bounded s) (n : Quad) {u : StationUnit} (hu : UnitBounded u) :
    Bounded (s.setStation n u) := by
  refine ⟨h.track, h.ret, fun m => ?_, h.tags, h.runs⟩
  rw [State.setStation_stations, Four.get_set]
  split
  · exact hu
  · exact h.stations m

/-! ### The exit routing keeps within the places -/

/-- A destination that the exit routing gives finds its place, whatever was reserved before it. -/
theorem exitRoute_places {s : State} (h : Bounded s) (r : TrackRecord) :
    s.ret.cleanEnd.length + cleanPlacesOf (exitRoute s r) ≤ Config.cleanPlaces ∧
      s.ret.lane.length + lanePlacesOf (exitRoute s r) ≤ Config.lanePlaces := by
  have hc := h.ret.clean
  have hl := h.ret.lane
  have none : s.ret.cleanEnd.length + cleanPlacesOf none ≤ Config.cleanPlaces ∧
      s.ret.lane.length + lanePlacesOf none ≤ Config.lanePlaces := by
    simp only [cleanPlacesOf, lanePlacesOf, reduceCtorEq, or_self, if_false]
    omega
  have clean (hp : cleanHasPlace s = true) : s.ret.cleanEnd.length + 1 ≤ Config.cleanPlaces ∧
      s.ret.lane.length + 0 ≤ Config.lanePlaces := by
    rw [cleanHasPlace_iff, cleanCount_eq] at hp
    simp only [Config.cleanPlaces, Config.lanePlaces] at hl ⊢
    omega
  cases hv : r.verdict with
  | none => simpa [exitRoute, hv] using none
  | sanitised =>
    rw [exitRoute_sanitised hv]
    split
    · exact clean ‹_›
    · exact none
  | short =>
    by_cases ha : washableAgain s r
    · rw [exitRoute_again hv ha]
      obtain ⟨_, _, _, _, hlane⟩ := ha
      rw [laneCount_eq] at hlane
      simp only [cleanPlacesOf, lanePlacesOf, reduceCtorEq, or_self, if_false, if_true, Option.some.injEq]
      omega
    · rw [exitRoute_not_again hv ha]
      split
      · exact clean ‹_›
      · exact none

/-! ### The track -/

theorem Bounded.stepStart {s : State} (h : Bounded s) : Bounded (stepStart s) := by
  obtain ⟨htrack, hret, -, -, -⟩ := id h
  have hx : (startedRecords s)[16] = s.track.positions[16].map fun r => { r with destination := exitRoute s r } := by
    rw [startedRecords_getElem]; rfl
  refine h.of_parts ?_ ?_
  · rw [stepStart_track]
    refine ⟨fun i r hr => ?_, fun _ _ _ => nofun⟩
    have hr : (startedRecords s)[i.val] = some r := hr
    rw [startedRecords_getElem] at hr
    split at hr
    · obtain ⟨q, hq, rfl⟩ := Option.map_eq_some_iff.mp hr
      obtain ⟨hrange, hun⟩ := htrack.1 12 q hq
      exact ⟨hrange, fun _ => hun (by decide)⟩
    · split at hr
      · next h16 =>
        obtain ⟨q, hq, rfl⟩ := Option.map_eq_some_iff.mp hr
        exact ⟨(htrack.1 16 q hq).1, fun hne => absurd (Fin.ext h16) hne⟩
      · exact htrack.1 i r hr
  · have hplaces : s.ret.cleanEnd.length + cleanPlacesOf ((Machine.stepStart s).reservation) ≤ Config.cleanPlaces ∧
        s.ret.lane.length + lanePlacesOf ((Machine.stepStart s).reservation) ≤ Config.lanePlaces := by
      have hres : (Machine.stepStart s).reservation = s.track.positions[16].bind (exitRoute s) := by
        rw [State.reservation, Track.x, stepStart_track]
        dsimp only
        rw [hx]
        cases s.track.positions[16] <;> rfl
      rw [hres]
      cases hp : s.track.positions[16] with
      | some r => exact exitRoute_places h r
      | none =>
        have := hret.clean
        have := hret.lane
        simp only [Option.bind_none, cleanPlacesOf, lanePlacesOf, reduceCtorEq, or_self, if_false]
        omega
    simp only [stepStart_frame]
    exact { hret with clean := hplaces.1, lane := hplaces.2 }

theorem Bounded.dueEvaluation {s : State} (h : Bounded s) : Bounded (dueEvaluation s) := by
  generalize hd : Machine.dueEvaluation s = t
  have ho := dueEvaluation_outcome s
  rw [hd] at ho
  cases ho with
  | nothing => exact h
  | blocked e => exact h.congr rfl rfl rfl rfl rfl rfl
  | starts e => exact Bounded.stepStart (h.congr rfl rfl rfl rfl rfl rfl)
  | held e q => exact h.congr rfl rfl rfl rfl rfl rfl
  | purges => exact h.stepStart
  | purgeHeld q => exact h.congr rfl rfl rfl rfl rfl rfl

/-- A queue takes the record handed over in the place that was reserved for it (R13, R16). -/
theorem handedRet_bounded {s : State} (h : Bounded s) : ReturnBounded (handedRet s) none := by
  obtain ⟨htrack, hret, -, -, -⟩ := h
  have hres : s.reservation = s.track.positions[16].bind (·.destination) := rfl
  rw [hres] at hret
  have free {q : Return} {d : Option Destination} (hq : ReturnBounded q d) : ReturnBounded q none :=
    { hq with clean := (Nat.le_add_right ..).trans hq.clean, lane := (Nat.le_add_right ..).trans hq.lane }
  unfold handedRet
  cases hp : s.track.positions[16] with
  | none => exact free hret
  | some r =>
    rw [hp, Option.bind_some] at hret
    have hr : QueuedRecord { r with destination := none } := ⟨(htrack.1 16 r hp).1, rfl⟩
    have clean (hc : s.ret.cleanEnd.length + 1 ≤ Config.cleanPlaces) (flag : Bool) : ReturnBounded
        { s.ret with cleanEnd := s.ret.cleanEnd ++ [⟨{ r with destination := none }, flag⟩] } none :=
      { free hret with
        clean := by simpa [cleanPlacesOf] using hc
        cleanRecords := fun e he => (List.mem_append.mp he).elim (hret.cleanRecords e)
          fun he => by rw [List.mem_singleton.mp he]; exact hr }
    cases hd : r.destination with
    | none =>
      simp only [hd] at hret ⊢
      exact free hret
    | some d =>
      simp only [hd] at hret ⊢
      cases d with
      | clean => exact clean hret.clean _
      | quarantine => exact clean hret.clean _
      | rewash => exact
        { free hret with
          lane := by simpa [lanePlacesOf] using hret.lane
          laneRecords := fun x hx => (List.mem_append.mp hx).elim (hret.laneRecords x)
            fun hx => by rw [List.mem_singleton.mp hx]; exact hr }

/-- After a completed motion no record has a destination. -/
theorem movedRecords_queued {t : Track} (h : TrackBounded t) (eye : Bool) {i : Fin 17} {r : TrackRecord}
    (hr : (movedRecords t.positions eye)[i.val] = some r) : QueuedRecord r := by
  have kept (j : Nat) (hj : j < 16) {q : TrackRecord} (hq : t.positions[j] = some q) : QueuedRecord q :=
    ⟨(h.1 ⟨j, by omega⟩ q hq).1, (h.1 ⟨j, by omega⟩ q hq).2 fun he => by simp [Fin.ext_iff] at he; omega⟩
  have hi := i.isLt
  rw [movedRecords_getElem] at hr
  split at hr
  · unfold checkedAtX at hr
    split at hr
    · obtain rfl := Option.some.inj hr
      cases hp : t.positions[15] with
      | none => exact ⟨⟨Nat.zero_le _, Nat.zero_le _⟩, rfl⟩
      | some q => exact kept 15 (by omega) hp
    · cases hr
  · split at hr
    · obtain ⟨q, hq, rfl⟩ := Option.map_eq_some_iff.mp hr
      have hq := kept 12 (by omega) hq
      exact ⟨hq.1, hq.2⟩
    · split at hr
      · cases hr
      · exact kept (i.val - 1) (by omega) hr

theorem Bounded.completeMotion {s : State} (h : Bounded s) : Bounded (completeMotion s) := by
  have hmoved {i : Fin 17} {r : TrackRecord} := movedRecords_queued h.track s.plant.exitEye (i := i) (r := r)
  refine h.of_parts ?_ ?_
  · rw [completeMotion_track]
    exact ⟨fun i r hr => ⟨(hmoved hr).1, fun _ => (hmoved hr).2⟩, fun r hr hd => absurd (hmoved (i := 16) hr).2 hd⟩
  · have hres : (Machine.completeMotion s).reservation = none := by
      rw [State.reservation, Track.x, completeMotion_track]
      dsimp only
      cases hx : (movedRecords s.track.positions s.plant.exitEye)[16] with
      | none => rfl
      | some r => exact (hmoved (i := 16) hx).2
    rw [completeMotion_ret, hres]
    exact handedRet_bounded h

section
variable {s : State} (h : Bounded s)
include h

theorem Bounded.enterState (st : TrackState) : Bounded (enterState st s) := h.congr
theorem Bounded.endPurge : Bounded (endPurge s) := h.congr (by simp [Machine.endPurge]) (by simp [Machine.endPurge])

theorem Bounded.stateAfterCompletion : Bounded (stateAfterCompletion s) :=
  h.congr (by rw [stateAfterCompletion_track]) (by rw [stateAfterCompletion_track])

theorem Bounded.trackOpening : Bounded (trackOpening s) := by
  refine h.of_parts ?_ ?_
  · rw [trackOpening_track]
    refine ⟨h.track.1, fun r hr hd => ?_⟩
    have := h.track.2 r hr hd
    dsimp only
    split
    · nofun
    · exact this
  · have hres : (Machine.trackOpening s).reservation = s.reservation := by
      rw [State.reservation, Track.x, trackOpening_track]; rfl
    rw [hres]
    simpa using h.ret

theorem Bounded.enterJam (c : FaultCause) (n : FaultNotice) : Bounded (enterJam c n s) := by
  unfold Machine.enterJam
  exact h.congr

/-- A motion that runs, or is left interrupted, keeps the invariant. -/
theorem Bounded.withMotion {t : State} (positions : t.track.positions = s.track.positions) (motion : t.track.motion ≠ .none)
    (ret : t.ret = s.ret := by simp) (stations : t.stations = s.stations := by simp)
    (tags : t.merge.tags = s.merge.tags := by simp) (dose : t.dose = s.dose := by simp) : Bounded t := by
  refine h.of_parts ⟨by rw [positions]; exact h.track.1, fun _ _ _ => motion⟩ ?_ stations tags dose
  simpa only [State.reservation, Track.x, positions, ret] using h.ret

theorem Bounded.jamMotion : Bounded (jamMotion s) :=
  Bounded.enterJam (h.withMotion (t := { s with track := { s.track with
    chainDrive := false, motion := .interrupted, motionTimer := .idle } }) rfl nofun rfl rfl rfl rfl) _ _

theorem Bounded.runDrive : Bounded (runDrive s) := h.withMotion rfl nofun rfl rfl rfl rfl

theorem Bounded.resumeMotion : Bounded (resumeMotion s) := by
  unfold Machine.resumeMotion
  split
  · exact h.completeMotion.enterState _
  · exact h.runDrive.enterState _

end

end Sys2Proof.Machine
end

section
namespace Sys2Proof.Machine
open Sys2Proof

/-! ### The stations and the heads of the spurs -/

section
variable {s : State} (h : Bounded s)
include h

theorem Bounded.sendLocation (id : RackId) (l : Location) : Bounded (sendLocation id l s) := h.congr

theorem Bounded.enqueue (n : Notice) : Bounded (enqueue n s) := h.congr

theorem Bounded.enqueueAll (ns : List Notice) : Bounded (enqueueAll ns s) := h.congr

/-- Another spur of a station within its places. -/
theorem Bounded.setSpur (n : Quad) {q : List SpurEntry} (hq : q.length ≤ Config.spurPlaces) :
    Bounded (s.setStation n { s.stations.get n with spur := q }) := h.setStation n ⟨(h.stations n).1, hq⟩

theorem Bounded.setHead (n : Quad) (e : SpurEntry) : Bounded (setHead n e s) := by
  refine h.setSpur n ?_
  have := (h.stations n).2
  simp only [List.length_cons, List.length_tail, Config.spurPlaces] at this ⊢
  omega

theorem Bounded.removeHead (n : Quad) : Bounded (removeHead n s) := by
  refine h.setSpur n ?_
  have := (h.stations n).2
  rw [List.length_tail]
  omega

theorem Bounded.retestHead (n : Quad) : Bounded (retestHead n s) := by
  unfold Machine.retestHead
  split
  · split
    · exact h.setHead n _
    · exact h
  · exact h

theorem Bounded.resolveStation (n : Quad) : Bounded (resolveStation n s) := by
  unfold Machine.resolveStation
  split
  · split
    · exact (h.setHead n _).enqueue _
    · exact h
  · exact h

end

/-- What every station's turn keeps, the turns of all four keep. -/
theorem foldl_stations_keeps {P : State → Prop} {f : Quad → State → State} (hf : ∀ n s, P s → P (f n s)) (q : List Quad)
    {s : State} (h : P s) : P (q.foldl (fun s n => f n s) s) := by
  induction q generalizing s with
  | nil => exact h
  | cons n q ih => exact ih (hf n s h)

section
variable {s : State} (h : Bounded s)
include h

theorem Bounded.retestHeads : Bounded (retestHeads s) := foldl_stations_keeps (fun n _ h => h.retestHead n) _ h

theorem Bounded.resolveHeads : Bounded (resolveHeads s) := foldl_stations_keeps (fun n _ h => h.resolveStation n) _ h

/-- A grant empties the tag read queue and moves no record. -/
theorem Bounded.makeGrant (g : Grant) : Bounded (makeGrant g s) := ⟨h.track, h.ret, h.stations, Nat.zero_le _, h.runs⟩

theorem Bounded.grantOpportunity : Bounded (grantOpportunity s) := by
  have htested : Bounded (if s.merge.retest then Machine.retestHeads { s with merge := { s.merge with retest := false } }
      else s) := by
    split
    · exact Bounded.retestHeads (h.congr rfl rfl rfl rfl rfl rfl)
    · exact h
  unfold Machine.grantOpportunity
  dsimp only
  split
  · split
    · exact htested.resolveHeads.makeGrant _
    · exact htested.resolveHeads
  · exact h

theorem Bounded.profileHead (n : Quad) : Bounded (profileHead n s) := by
  unfold Machine.profileHead
  dsimp only
  split
  · next e _ =>
    split
    · exact h
    · exact (h.setHead n { e with kind := s.plant.profile.get n, profiled := true }).congr
  · exact h.setSpur n (by simp [Config.spurPlaces])

theorem Bounded.readSpurHead (n : Quad) : Bounded (readSpurHead n s) := by
  unfold Machine.readSpurHead
  split
  · exact h.profileHead n
  · exact h

theorem Bounded.readGranted (g : Option Grant) : Bounded (readGranted g s) := by
  unfold Machine.readGranted
  split
  · exact h.readSpurHead _
  · exact h

theorem Bounded.withdrawHead (n : Quad) : Bounded (withdrawHead n s) := by
  unfold Machine.withdrawHead
  split
  · split
    · exact (h.removeHead n).congr
    · exact h
  · exact h

/-- A pop leaves a shorter stack, or the stack as it was. -/
theorem Bounded.popStack (n : Quad) : Bounded (popStack n s) := by
  have hloose : Bounded (match (s.stations.get n).bay with
      | some e => Machine.sendLocation e.id .loose s
      | none => s) := by
    split
    · exact h.congr
    · exact h
  have hu := h.stations n
  unfold Machine.popStack
  dsimp only
  split
  · next e rest hstack =>
    have hpop : UnitBounded { s.stations.get n with stack := rest, bay := some e } := by
      refine ⟨?_, hu.2⟩
      have := hu.1
      simp only [StationUnit.committed, hstack, List.length_cons] at this ⊢
      omega
    exact (hloose.setStation n hpop).sendLocation _ _
  · exact hloose.setStation n hu

theorem Bounded.enterRecovery : Bounded (enterRecovery s) := by
  have hi (i : Interlock) : Bounded { s with
      interlock := i, dose := { s.dose with recoveryRun := 0 }, track := { s.track with recoveryPending := false } } :=
    ⟨h.track, h.ret, h.stations, h.tags, h.runs.1, h.runs.2.1, Nat.zero_le _⟩
  exact (hi _).enterState _

theorem Bounded.wake : Bounded (wake s) := by
  unfold Machine.wake
  dsimp only
  split
  · refine Bounded.enterRecovery ?_
    exact h.congr rfl rfl rfl rfl rfl rfl
  · refine Bounded.enterState ?_ _
    exact h.congr rfl rfl rfl rfl rfl rfl

/-- A press with fewer than 3 entries in the spur adds one. -/
theorem Bounded.pressSend (n : Quad) : Bounded (pressSend n s) := by
  unfold Machine.pressSend
  dsimp only
  split
  · split
    · next hroom =>
      have hsent : Bounded (Machine.sendLocation (((s.stations.get n).bay.map (·.id)).getD 0) (.spur n) (s.setStation n
          { s.stations.get n with spur := (s.stations.get n).spur ++ [sentEntry (((s.stations.get n).bay.map (·.id)).getD 0)],
                                  bay := none })) := by
        refine Bounded.sendLocation (h.setStation n ?_) _ _
        exact ⟨(h.stations n).1, (List.length_append ..).trans_le hroom⟩
      unfold takeSend
      dsimp only
      split
      · exact hsent.wake
      · exact hsent
    · exact h.setStation n (h.stations n)
  · exact h

theorem Bounded.deliveryExpiry (n : Quad) (i : Nat) : Bounded (deliveryExpiry n i s) := by
  have hu := h.stations n
  unfold Machine.deliveryExpiry
  split
  · split
    · unfold completeDelivery
      dsimp only
      split
      · next d hd =>
        have hi := (List.getElem?_eq_some_iff.mp hd).1
        have hdone : UnitBounded { s.stations.get n with
            deliveries := (s.stations.get n).deliveries.eraseIdx i,
            stack := ⟨d.id, d.kind⟩ :: (s.stations.get n).stack } := by
          refine ⟨?_, hu.2⟩
          have := hu.1
          simp only [StationUnit.committed, List.length_cons, List.length_eraseIdx_of_lt hi] at this ⊢
          omega
        exact (h.setStation n hdone).congr
      · exact h
    · exact h
  · exact h

theorem Bounded.requestLoadStack (n c : Byte) (es : List LoadEntry) : Bounded (requestLoadStack n c es s).1 := by
  unfold Machine.requestLoadStack
  split
  · next m q _ _ =>
    dsimp only
    split
    · exact h
    · split
      · exact h
      · next hroom =>
        split
        · exact h
        · have hload : UnitBounded { s.stations.get m with stack := q.reverse ++ (s.stations.get m).stack } := by
            refine ⟨?_, (h.stations m).2⟩
            simp only [StationUnit.committed, List.length_append, List.length_reverse] at hroom ⊢
            omega
          exact (h.setStation m hload).congr
  · exact h

theorem Bounded.requestClearStack (n : Byte) : Bounded (requestClearStack n s).1 := by
  unfold Machine.requestClearStack
  split
  · next m _ =>
    have hclear : UnitBounded { s.stations.get m with stack := [] } := by
      refine ⟨?_, (h.stations m).2⟩
      have := (h.stations m).1
      simp only [StationUnit.committed, List.length_nil] at this ⊢
      omega
    exact (h.setStation m hclear).congr
  · exact h

theorem Bounded.requestSetStation (n m k : Byte) : Bounded (requestSetStation n m k s).1 := by
  unfold Machine.requestSetStation
  split
  · dsimp only
    split
    · exact h.setStation _ (h.stations _)
    · exact h
  · exact h

theorem Bounded.requestForceProgramme (n p : Byte) : Bounded (requestForceProgramme n p s).1 := by
  unfold Machine.requestForceProgramme
  split
  · exact h
  · split
    · exact h
    · split
      · exact h
      · split
        · exact h
        · dsimp only
          split
          · exact h
          · exact (h.setHead _ _).resolveStation _

theorem Bounded.setDescriptor (p : Fin 8) (d : Option Descriptor) : Bounded (setDescriptor p d s) :=
  Bounded.retestHeads (h.congr rfl rfl rfl rfl rfl rfl)

end

end Sys2Proof.Machine
end

section
namespace Sys2Proof.Machine
open Sys2Proof

/-! ### Samples -/

theorem runNext_le (continues : Bool) (run : Nat) : runNext continues run ≤ 8 := by
  unfold runNext
  split
  · exact Nat.min_le_left ..
  · exact Nat.zero_le _

section
variable {s : State} (h : Bounded s)
include h

/-- Another record in range at a position before X, without a destination. -/
theorem Bounded.setPosition {i : Fin 17} (hi : i ≠ 16) {r : Option TrackRecord} (hr : ∀ q ∈ r, QueuedRecord q) :
    Bounded (s.setPosition i r) := by
  have hx : (s.track.positions.set i r)[(16 : Fin 17)] = s.track.positions[16] :=
    Vector.getElem_set_ne _ _ fun he => hi (Fin.ext he)
  refine h.of_parts ⟨fun j q hq => ?_, fun q hq => h.track.2 q (hx.symm.trans hq)⟩ ?_
  · have hq : (s.track.positions.set i r)[j.val] = some q := hq
    rw [Vector.getElem_set] at hq
    split at hq
    · exact ⟨(hr q hq).1, fun _ => (hr q hq).2⟩
    · exact h.track.1 j q hq
  · have hres : (s.setPosition i r).reservation = s.reservation := congrArg (Option.bind · _) hx
    rw [hres]
    exact h.ret

theorem Bounded.creditRinse (c : Nat) : Bounded (creditRinse c s) := by
  have credited (i : Fin 17) (hi : i ≠ 16) : ∀ q ∈ s.track.positions[i].map (creditRecord c), QueuedRecord q := by
    intro q hq
    obtain ⟨r, hr, rfl⟩ := Option.map_eq_some_iff.mp hq
    obtain ⟨hrange, hun⟩ := h.track.1 i r hr
    unfold creditRecord
    split
    · exact ⟨hrange, hun hi⟩
    · exact ⟨⟨Nat.min_le_left .., hrange.2⟩, hun hi⟩
  exact (h.setPosition (by decide) (credited 11 (by decide))).setPosition (by decide) (credited 12 (by decide))

theorem Bounded.withDose {d : Dose} (hd : RunsBounded d) : Bounded { s with dose := d } :=
  ⟨h.track, h.ret, h.stations, h.tags, hd⟩

theorem Bounded.formed (a : Code) (b : Option Code) : Bounded (formed a b s) := by
  refine Bounded.enqueueAll ((h.creditRinse _).withDose ?_) _
  exact ⟨runNext_le .., runNext_le .., runNext_le ..⟩

theorem Bounded.completeRecovery : Bounded (completeRecovery s) := by
  refine Bounded.dueEvaluation (Bounded.enterState ?_ _)
  exact h.congr rfl rfl rfl rfl rfl rfl

theorem Bounded.formSample (a : Code) (b : Option Code) : Bounded (formSample a b s) := by
  unfold Machine.formSample
  dsimp only
  split
  · exact (h.formed a b).dueEvaluation.completeRecovery
  · exact (h.formed a b).dueEvaluation

theorem Bounded.startSample : Bounded (startSample s) := ⟨h.track, h.ret, h.stations, h.tags, h.runs⟩

theorem Bounded.conversionA (c : Code) : Bounded (conversionA c s) := by
  unfold Machine.conversionA
  split
  · split
    · exact h.formSample _ _
    · exact ⟨h.track, h.ret, h.stations, h.tags, h.runs⟩
  · exact h

theorem Bounded.conversionB (c : Code) : Bounded (conversionB c s) := by
  unfold Machine.conversionB
  split
  · exact h.formSample _ _
  · exact h

/-! ### The merge -/

theorem Bounded.stopPusher : Bounded (stopPusher s) := h.congr rfl rfl rfl rfl rfl rfl

theorem Bounded.mergeIdle : Bounded (mergeIdle s) := h.congr rfl rfl rfl rfl rfl rfl

theorem Bounded.emptyTags : Bounded (emptyTags s) := ⟨h.track, h.ret, h.stations, Nat.zero_le _, h.runs⟩

/-- An id taken from a resting holder leaves every queue as long as it was. -/
theorem Bounded.forgetId (g : Quad) (id : RackId) (x : Holder) : Bounded (forgetId g id x s) := by
  have hu := h.stations
  unfold Machine.forgetId
  split
  · next n => exact h.setStation n ⟨by simpa [StationUnit.committed] using (hu n).1, (hu n).2⟩
  · next n => exact h.setStation n (hu n)
  · next n =>
    refine h.setSpur n (le_of_eq_of_le ?_ (hu n).2)
    unfold forgetSpur
    split
    · simp only [List.length_append, List.length_take, List.length_map, List.length_tail]
      omega
    · simp
  · exact h.of_ret { h.ret with surplus := by simpa using h.ret.surplus } rfl rfl rfl rfl
  · exact h

theorem Bounded.presenceCheck (n : Quad) (id : RackId) (o : IdSource) (v : Bool) :
    Bounded (presenceCheck n id o v s).state := by
  unfold Machine.presenceCheck
  split
  · exact h
  · split
    · exact h
    · split
      · exact h.forgetId _ _ _
      · exact h

theorem Bounded.sendAdmission (n : Quad) (x e : RackId) (k : Kind) : Bounded (sendAdmission n x e k s).1 := h.congr

theorem Bounded.sendUnpin (id : RackId) (l : Location) : Bounded (sendUnpin id l s) := h.congr

theorem Bounded.completeSpur (n : Quad) (e : RackId) (k : Kind) (p : Snapshot) : Bounded (completeSpur n e k p s) := by
  unfold Machine.completeSpur
  dsimp only
  refine Bounded.enqueueAll (Bounded.removeHead (Bounded.setPosition ?_ (by decide) ?_) n) _
  · exact (h.presenceCheck n _ _ _).sendAdmission _ _ _ _
  · rintro q ⟨⟩
    exact ⟨⟨Nat.zero_le _, Nat.zero_le _⟩, rfl⟩

theorem Bounded.completeRewash : Bounded (completeRewash s) := by
  unfold Machine.completeRewash
  split
  · next r rest hlane =>
    have hplaced (t : State) (ht : Bounded t) (hret : t.ret = s.ret) :
        Bounded { t.setPosition 0 (some (reentered r)) with ret := { t.ret with lane := rest } } := by
      have hp : Bounded (t.setPosition 0 (some (reentered r))) := by
        refine ht.setPosition (by decide) ?_
        rintro q ⟨⟩
        exact ⟨⟨Nat.zero_le _, Nat.min_le_left ..⟩, rfl⟩
      refine hp.of_ret { hp.ret with lane := ?_, laneRecords := fun x hx => hp.ret.laneRecords x ?_ } rfl rfl rfl rfl
      · have := hp.ret.lane
        simp only [State.setPosition_ret, hret, hlane, List.length_cons] at this
        dsimp only
        omega
      · simp only [State.setPosition_ret, hret, hlane]
        exact List.mem_cons_of_mem r hx
    dsimp only
    split
    · exact hplaced _ (h.sendLocation _ _) (by simp)
    · exact hplaced _ h rfl
  · exact h

theorem Bounded.completeTransfer : Bounded (completeTransfer s) := by
  have hp := h.stopPusher
  unfold Machine.completeTransfer
  dsimp only
  split
  · exact (hp.completeSpur _ _ _ _).mergeIdle.dueEvaluation.readSpurHead _
  · exact hp.completeRewash.mergeIdle.dueEvaluation
  · exact hp.mergeIdle

theorem Bounded.transferExpiry : Bounded (transferExpiry s) := by
  have hp : Bounded (Machine.stopPusher { s with merge := { s.merge with state := .jammed } }) :=
    Bounded.stopPusher (h.congr rfl rfl rfl rfl rfl rfl)
  unfold Machine.transferExpiry jamTransfer
  dsimp only
  split
  · split
    · exact hp.enterJam _ _
    · exact hp
  · exact h

theorem Bounded.mergeOpening : Bounded (mergeOpening s) := by
  unfold Machine.mergeOpening
  split
  · exact Bounded.stopPusher (h.congr rfl rfl rfl rfl rfl rfl)
  · exact h

theorem Bounded.dropTransfer : Bounded (dropTransfer s) := h.stopPusher.mergeIdle.readGranted _

theorem Bounded.resolveTransfer : Bounded (resolveTransfer s) := by
  unfold Machine.resolveTransfer
  split
  · exact h.completeTransfer
  · exact h.dropTransfer

theorem Bounded.resolveInterrupted : Bounded (resolveInterrupted s) := by
  unfold Machine.resolveInterrupted
  split
  · exact h.resolveTransfer
  · exact h

theorem Bounded.settleJam : Bounded (settleJam s).1 := by
  have he := h.emptyTags
  unfold Machine.settleJam
  dsimp only
  split
  · exact he.mergeIdle
  · split
    · exact he.completeTransfer
    · split
      · exact he.dropTransfer
      · split
        · exact he.dropTransfer
        · exact Bounded.readSpurHead (Bounded.mergeIdle ((he.removeHead _).sendUnpin _ _)) _

/-- A read beyond the third replaces the newest. -/
theorem Bounded.queueTag (r : TagRead) : Bounded (queueTag r s) := by
  have ht := h.tags
  unfold Machine.queueTag
  split
  · next hroom => exact ⟨h.track, h.ret, h.stations, (List.length_append ..).trans_le hroom, h.runs⟩
  · refine ⟨h.track, h.ret, h.stations, ?_, h.runs⟩
    simp only [List.length_append, List.length_dropLast, List.length_singleton, Config.tagPlaces] at ht ⊢
    omega

theorem Bounded.tagByte (b : Byte) : Bounded (tagByte b s) := by
  unfold Machine.tagByte
  split
  · split
    · exact h.congr rfl rfl rfl rfl rfl rfl
    · exact h
  · refine Bounded.queueTag ?_ _
    exact h.congr rfl rfl rfl rfl rfl rfl
  · exact h.congr rfl rfl rfl rfl rfl rfl

end

end Sys2Proof.Machine
end

section
namespace Sys2Proof.Machine
open Sys2Proof

/-! ### The return -/

/-- A station chosen by its committed count is one of the list. -/
theorem lowestCommitted_mem {s : State} {q : List Quad} {n : Quad} (h : lowestCommitted s q = some n) : n ∈ q := by
  induction q generalizing n with
  | nil => cases h
  | cons m q ih =>
    unfold lowestCommitted at h
    split at h
    · cases h; exact List.mem_cons_self
    · next k hk =>
      split at h
      · cases h; exact List.mem_cons_self
      · cases h; exact List.mem_cons_of_mem m (ih hk)

theorem stationOpen_room {s : State} {n : Quad} (h : stationOpen s n = true) :
    (s.stations.get n).committed < Config.stackPlaces := by
  simp only [stationOpen, Bool.and_eq_true, decide_eq_true_eq] at h
  exact h.2

/-- The route has a place for one more rack. -/
def RouteRoom (s : State) : Route → Prop
  | .station n => (s.stations.get n).committed < Config.stackPlaces
  | .surplus => s.ret.surplus.length < Config.surplusPlaces

theorem routeOf_room {s : State} {k : Kind} {route : Route} (h : routeOf s k = some route) : RouteRoom s route := by
  unfold routeOf at h
  split at h
  · next n hn =>
    cases h
    have htake : canTake s k n = true := (List.mem_filter.mp (lowestCommitted_mem hn)).2
    simp only [canTake, Bool.and_eq_true] at htake
    exact stationOpen_room htake.1
  · split at h
    · cases h; assumption
    · cases h

section
variable {s : State} (h : Bounded s)
include h

/-- Other queues of the return within their places. -/
theorem Bounded.withRet {r : Return} (hr : ReturnBounded r s.reservation) : Bounded { s with ret := r } :=
  h.of_ret hr rfl rfl rfl rfl

/-- The oldest entry of the clean end finds its place in transit. -/
theorem Bounded.completeConfirm (hroom : s.ret.transit.length < Config.transitPlaces) : Bounded (completeConfirm s) := by
  unfold Machine.completeConfirm
  split
  · exact h
  · next e rest hclean =>
    have hmem (x : CleanEntry) (hx : x ∈ rest) : x ∈ s.ret.cleanEnd := hclean ▸ List.mem_cons_of_mem e hx
    have he : e ∈ s.ret.cleanEnd := hclean ▸ List.mem_cons_self
    refine Bounded.dueEvaluation (Bounded.sendUnpin (h.withRet ?_) _ _)
    refine { h.ret with
      clean := ?_, transit := (List.length_append ..).trans_le hroom,
      cleanRecords := fun x hx => h.ret.cleanRecords x (hmem x hx),
      transitRecords := fun x hx => (List.mem_append.mp hx).elim (h.ret.transitRecords x)
        fun hx => by rw [List.mem_singleton.mp hx]; exact (h.ret.cleanRecords e he).1 }
    have := h.ret.clean
    rw [hclean, List.length_cons] at this
    dsimp only
    omega

theorem Bounded.confirmOldest : Bounded (confirmOldest s) := by
  unfold Machine.confirmOldest
  split
  · exact h.completeConfirm ‹_›
  · exact h.withRet { h.ret with }

theorem Bounded.pressUnload : Bounded (pressUnload s) := by
  unfold Machine.pressUnload
  split
  · exact h
  · split
    · exact h
    · exact h.confirmOldest

theorem Bounded.releaseReturn {e : CleanEntry} {rest : List CleanEntry} (hclean : s.ret.cleanEnd = e :: rest) :
    Bounded (releaseReturn e rest s).1 := by
  have hc := h.ret.clean
  rw [hclean] at hc
  refine Bounded.confirmOldest (h.withRet { h.ret with clean := hc, cleanRecords := ?_ })
  intro x hx
  rcases List.mem_cons.mp hx with rfl | hx
  · exact h.ret.cleanRecords e (hclean ▸ List.mem_cons_self)
  · exact h.ret.cleanRecords x (hclean ▸ List.mem_cons_of_mem e hx)

/-- A release to the lane needs a place there, beside the one that may be reserved. -/
theorem Bounded.releaseRewash {e : CleanEntry} {rest : List CleanEntry} (hclean : s.ret.cleanEnd = e :: rest) :
    Bounded (releaseRewash e rest s).1 := by
  unfold Machine.releaseRewash
  split
  · exact h
  · split
    · exact h
    · next hroom =>
      refine Bounded.dueEvaluation (Bounded.sendLocation (h.withRet ?_) _ _)
      refine { h.ret with
        clean := ?_, lane := ?_,
        laneRecords := fun x hx => (List.mem_append.mp hx).elim (h.ret.laneRecords x)
          fun hx => by rw [List.mem_singleton.mp hx]; exact h.ret.cleanRecords e (hclean ▸ List.mem_cons_self),
        cleanRecords := fun x hx => h.ret.cleanRecords x (hclean ▸ List.mem_cons_of_mem e hx) }
      · have := h.ret.clean
        rw [hclean, List.length_cons] at this
        dsimp only
        omega
      · rw [laneCount_eq] at hroom
        simp only [List.length_append, List.length_singleton]
        omega

theorem Bounded.requestReleaseQuarantine (a : Byte) : Bounded (requestReleaseQuarantine a s).1 := by
  unfold Machine.requestReleaseQuarantine
  split
  · exact h
  · split
    · exact h
    · next hclean =>
      split
      · exact h
      · split
        · exact h.releaseReturn hclean
        · exact h.releaseRewash hclean

theorem Bounded.startDelivery {n : Quad} (id : RackId) (k : Kind) (o : Origin)
    (hroom : (s.stations.get n).committed < Config.stackPlaces) : Bounded (startDelivery n id k o s) := by
  refine Bounded.sendLocation (h.setStation n ?_) _ _
  refine ⟨?_, (h.stations n).2⟩
  simp only [StationUnit.committed, List.length_append, List.length_singleton] at hroom ⊢
  omega

theorem Bounded.offerFeed : Bounded (offerFeed s).1 := by
  unfold Machine.offerFeed
  split
  · next e rest n hsurplus hn =>
    have hroom := stationOpen_room (List.mem_filter.mp (lowestCommitted_mem hn)).2
    dsimp only
    refine Bounded.startDelivery (h.withRet ?_) _ _ _ hroom
    refine { h.ret with surplus := ?_ }
    have := h.ret.surplus
    rw [hsurplus, List.length_cons] at this
    dsimp only
    omega
  · exact h

theorem Bounded.leaveTransit : Bounded (leaveTransit s) := by
  refine h.withRet { h.ret with transit := ?_, transitRecords := ?_ }
  · have := h.ret.transit
    rw [List.length_tail]
    omega
  · exact fun x hx => h.ret.transitRecords x (List.mem_of_mem_tail hx)

theorem Bounded.completePending : Bounded (completePending s) := by
  unfold Machine.completePending
  split
  · next hp =>
    simp only [Bool.and_eq_true, decide_eq_true_eq] at hp
    exact h.completeConfirm hp.2
  · exact h

theorem Bounded.placeRack (r : TrackRecord) {route : Route} (hroom : RouteRoom s route) :
    Bounded (placeRack r route s) := by
  cases route with
  | station n =>
    refine Bounded.startDelivery (h.withRet ?_) _ _ _ hroom
    exact { h.ret with }
  | surplus =>
    refine Bounded.sendLocation (h.withRet ?_) _ _
    exact { h.ret with surplus := (List.length_append ..).trans_le hroom }

theorem Bounded.routeHead (r : TrackRecord) {route : Route} (hroom : RouteRoom s route) :
    Bounded (routeHead r route s) := by
  have hr : RouteRoom (Machine.leaveTransit s) route := by cases route <;> exact hroom
  exact (h.leaveTransit.placeRack r hr).completePending

theorem Bounded.routeHeld (r : TrackRecord) {route : Route} (hroom : RouteRoom s route) :
    Bounded (routeHeld r route s) := by
  have hr : RouteRoom (Machine.completePending (Machine.leaveTransit s)) route := by
    cases route with
    | station n => simpa [RouteRoom, Machine.leaveTransit] using hroom
    | surplus =>
      unfold Machine.completePending Machine.completeConfirm
      (repeat' split) <;> simpa [RouteRoom, Machine.leaveTransit] using hroom
  exact h.leaveTransit.completePending.placeRack r hr

theorem Bounded.inspectHead (r : TrackRecord) (e : DirEntry) (t : RetireTest) : Bounded (inspectHead r e t s) := by
  have hl := h.leaveTransit
  refine Bounded.completePending (Bounded.enqueue (Bounded.sendLocation (hl.withRet ?_) _ _) _)
  exact { hl.ret with inspections := Nat.min_le_left .. }

theorem Bounded.arrive (r : TrackRecord) : Bounded (arrive r s) := by
  have hl : Bounded (routerLookup r.id s).1 := h.congr
  unfold Machine.arrive
  dsimp only
  split
  · exact hl.inspectHead _ _ _
  · split
    · next hr => exact (hl.routeHead r (routeOf_room hr)).offerFeed
    · next hr => exact hl.routeHead r (routeOf_room hr)
    · refine Bounded.enqueue (hl.withRet ?_) _
      exact { hl.ret with }

theorem Bounded.tryArrival : Bounded (tryArrival s) := by
  unfold Machine.tryArrival
  split
  · split
    · exact h.arrive _
    · exact h
  · exact h

theorem Bounded.retryHeld : Bounded (retryHeld s) := by
  unfold Machine.retryHeld
  split
  · split
    · next hr => exact h.routeHeld _ (routeOf_room hr)
    · exact h
  · exact h

theorem Bounded.prompt : Bounded (prompt s) := by
  unfold Machine.prompt
  dsimp only
  split
  · exact h
  · split
    · exact h.retryHeld.offerFeed.retryHeld
    · exact h.retryHeld.offerFeed

theorem Bounded.returnClearance : Bounded (returnClearance s) :=
  Bounded.tryArrival (Bounded.prompt (h.withRet { h.ret with }))

theorem Bounded.returnOpening : Bounded (returnOpening s) := h.withRet { h.ret with }

theorem Bounded.reportStray : Bounded (reportStray s) := h.enqueue _

theorem Bounded.arrivalSensor (before made : Bool) : Bounded (arrivalSensor before made s) := by
  unfold Machine.arrivalSensor arrivalMade
  split
  · split
    · exact h.reportStray
    · exact h.tryArrival
  · exact h

theorem Bounded.travelEnds (i : Nat) : Bounded (travelEnds i s) := by
  unfold Machine.travelEnds
  split
  · next t ht =>
    split
    · refine Bounded.tryArrival (h.withRet { h.ret with transit := ?_, transitRecords := ?_ })
      · simpa using h.ret.transit
      · intro x hx
        rcases List.mem_or_eq_of_mem_set hx with hx | rfl
        · exact h.ret.transitRecords x hx
        · exact h.ret.transitRecords t (List.mem_of_getElem? ht)
    · exact h
  · exact h

theorem Bounded.spacingEnds : Bounded (spacingEnds s) :=
  Bounded.tryArrival (h.withRet { h.ret with })

theorem Bounded.liftStack (n : Quad) : Bounded (liftStack n s) := (h.popStack n).prompt

end

end Sys2Proof.Machine
end

section
namespace Sys2Proof.Machine
open Sys2Proof

/-! ### The track's states, its requests and its timers -/

section
variable {s : State} (h : Bounded s)
include h

theorem Bounded.setJam (v : Bool) : Bounded (setJam v s) := h.congr

theorem Bounded.reportChange : Bounded (reportChange s) := h.congr

theorem Bounded.setLive (m : Members) : Bounded (setLive m s) := h.congr rfl rfl rfl rfl rfl rfl

theorem Bounded.changeEstop (o : Bool) : Bounded (changeEstop o s) := by
  unfold Machine.changeEstop
  dsimp only
  split
  · exact h
  · refine Bounded.reportChange ?_
    split
    · exact (h.setLive _).trackOpening.mergeOpening.returnOpening
    · exact (h.setLive _).returnClearance

theorem Bounded.changeDoor (o : Bool) : Bounded (changeDoor o s) := by
  unfold Machine.changeDoor
  dsimp only
  split
  · exact h
  · refine Bounded.reportChange ?_
    split
    · exact (h.setLive _).trackOpening.mergeOpening
    · exact h.setLive _

theorem Bounded.changeRinse (o : Bool) : Bounded (changeRinse o s) := by
  unfold Machine.changeRinse
  split
  · exact h
  · exact (h.setLive _).reportChange

theorem Bounded.changeTank (o : Bool) : Bounded (changeTank o s) := by
  unfold Machine.changeTank
  split
  · exact h
  · exact (h.setLive _).dueEvaluation.reportChange

theorem Bounded.idleExpiry : Bounded (idleExpiry s) := by
  unfold Machine.idleExpiry
  dsimp only
  split
  · refine Bounded.enterState ?_ _
    exact h.congr rfl rfl rfl rfl rfl rfl
  · exact h.congr rfl rfl rfl rfl rfl rfl

theorem Bounded.recoveryExpiry : Bounded (recoveryExpiry s) := by
  unfold Machine.recoveryExpiry
  dsimp only
  split
  · refine Bounded.completeRecovery ?_
    exact h.congr rfl rfl rfl rfl rfl rfl
  · exact h.congr rfl rfl rfl rfl rfl rfl

theorem Bounded.limitExpiry : Bounded (limitExpiry s) := by
  unfold Machine.limitExpiry failRecovery
  dsimp only
  split
  · refine Bounded.enqueue ?_ _
    exact h.congr rfl rfl rfl rfl rfl rfl
  · exact h.congr rfl rfl rfl rfl rfl rfl

theorem Bounded.indexMade : Bounded (indexMade s) := by
  unfold Machine.indexMade
  split
  · exact h.completeMotion.stateAfterCompletion
  · exact h

theorem Bounded.motionExpiry : Bounded (motionExpiry s) := by
  unfold Machine.motionExpiry
  split
  · exact h.jamMotion
  · exact h

theorem Bounded.requestHalt : Bounded (requestHalt s).1 := by
  unfold Machine.requestHalt
  split
  case h_1 => exact h
  case h_2 | h_3 => exact h.congr rfl rfl rfl rfl rfl rfl
  case h_9 =>
    split
    · refine Bounded.endPurge ?_
      exact h.congr rfl rfl rfl rfl rfl rfl
    · exact h.congr rfl rfl rfl rfl rfl rfl
  all_goals
    refine Bounded.enterState ?_ _
    exact h.congr rfl rfl rfl rfl rfl rfl

theorem Bounded.requestStandby : Bounded (requestStandby s).1 := by
  unfold Machine.requestStandby
  split
  · refine Bounded.enterState ?_ _
    exact h.congr rfl rfl rfl rfl rfl rfl
  · exact h

theorem Bounded.requestPurge : Bounded (requestPurge s).1 := by
  unfold Machine.requestPurge
  split
  · refine Bounded.enterState ?_ _
    exact h.congr rfl rfl rfl rfl rfl rfl
  · exact h

theorem Bounded.runMove : Bounded (runMove s) := by
  have hr : Bounded { s with track := { s.track with runEnable := true } } := h.congr rfl rfl rfl rfl rfl rfl
  unfold Machine.runMove
  dsimp only
  split
  · split
    · exact hr.resumeMotion
    · exact hr.enterState _
  · split
    · exact hr.resumeMotion
    · split
      · exact hr.enterRecovery
      · exact hr.enterState _
  · exact hr.wake
  · exact hr

theorem Bounded.requestRun : Bounded (requestRun s).1 := by
  unfold Machine.requestRun
  split
  · exact h
  · refine Bounded.runMove (Bounded.resolveInterrupted ?_)
    exact h.congr rfl rfl rfl rfl rfl rfl

theorem Bounded.leaveFault : Bounded (leaveFault s) := (h.enterState _).setJam _

theorem Bounded.requestClearFault : Bounded (requestClearFault s).1 := by
  have hf : Bounded { s with track := { s.track with fault := none } } := h.congr rfl rfl rfl rfl rfl rfl
  unfold Machine.requestClearFault
  dsimp only
  split
  · split
    · exact h
    · split
      · exact hf.completeMotion.leaveFault
      · exact hf.leaveFault
  · split
    · exact h
    · exact hf.settleJam.leaveFault
  · exact hf.enterState _
  · exact h

theorem Bounded.requestSetStationPrompted (n m k : Byte) : Bounded (requestSetStationPrompted n m k s).1 := by
  unfold Machine.requestSetStationPrompted
  dsimp only
  split
  · exact (h.requestSetStation n m k).prompt
  · exact h.requestSetStation n m k

theorem Bounded.requestSetProgramme (n q d : Byte) (c : Half) (x a w : Byte) :
    Bounded (requestSetProgramme n q d c x a w s).1 := by
  unfold Machine.requestSetProgramme
  split
  · exact h
  · split <;> exact h.setDescriptor _ _

theorem Bounded.requestSetKindMap (u p c k t : Byte) : Bounded (requestSetKindMap u p c k t s).1 := by
  unfold Machine.requestSetKindMap
  dsimp only
  split
  · exact h
  · refine Bounded.retestHeads ?_
    exact h.congr rfl rfl rfl rfl rfl rfl

theorem Bounded.executeRequest (r : Request) : Bounded (executeRequest r s).1 := by
  cases r with
  | run => exact h.requestRun
  | halt => exact h.requestHalt
  | standby => exact h.requestStandby
  | clearFault => exact h.requestClearFault
  | purge => exact h.requestPurge
  | setProgramme n q d c x a w => exact h.requestSetProgramme n q d c x a w
  | setKindMap u p c k t => exact h.requestSetKindMap u p c k t
  | setStation n m k => exact h.requestSetStationPrompted n m k
  | loadStack n c es => exact h.requestLoadStack n c es
  | clearStack n => exact h.requestClearStack n
  | forceProgramme n p => exact h.requestForceProgramme n p
  | releaseQuarantine a => exact h.requestReleaseQuarantine a
  | _ => refine h.congr ?_ ?_ ?_ ?_ ?_ ?_ <;> simp [Machine.executeRequest]

end

theorem keptByRequests_bounded : KeptByRequests Bounded where
  link h _ := h.congr rfl rfl rfl rfl rfl rfl
  request h r := h.executeRequest r

end Sys2Proof.Machine
end

section
namespace Sys2Proof.Machine
open Sys2Proof

/-! ### Resets -/

theorem bounded_reset : Bounded State.reset := (bounded_iff _).mpr ⟨places_reset, countsInRange_reset⟩

theorem freshState_bounded (k : ResetKind) (c : ResetCause) (s : State) : Bounded (freshState k c s) :=
  bounded_reset.congr rfl rfl rfl rfl rfl rfl

section
variable {s : State} (h : Bounded s)
include h

theorem Bounded.beginStartUp : Bounded (beginStartUp s) := by
  unfold Machine.beginStartUp
  split <;> exact h.congr rfl rfl rfl rfl rfl rfl

theorem Bounded.holdOrBegin : Bounded (holdOrBegin s) := by
  unfold Machine.holdOrBegin
  split
  · exact h.congr rfl rfl rfl rfl rfl rfl
  · exact h.beginStartUp

theorem Bounded.warmState : Bounded (warmState s) := by
  refine ⟨h.track, { h.ret with }, fun n => ?_, Nat.zero_le _, Nat.zero_le _, Nat.zero_le _, Nat.zero_le _⟩
  match n with
  | 0 => exact h.stations 0
  | 1 => exact h.stations 1
  | 2 => exact h.stations 2
  | 3 => exact h.stations 3

end

theorem coldReset_bounded (k : ResetKind) (c : ResetCause) (s : State) : Bounded (coldReset k c s) :=
  (freshState_bounded k c s).holdOrBegin

theorem loseSupply_bounded (s : State) : Bounded (loseSupply s) :=
  (freshState_bounded .powerOn .supply s).congr rfl rfl rfl rfl rfl rfl

section
variable {s : State} (h : Bounded s)
include h

theorem Bounded.warmReset (c : ResetCause) : Bounded (warmReset c s) := by
  unfold Machine.warmReset
  dsimp only
  split
  · exact (coldReset_bounded s.resetKind s.resetCause s).congr rfl rfl rfl rfl rfl rfl
  · refine Bounded.holdOrBegin ?_
    exact h.warmState.congr rfl rfl rfl rfl rfl rfl

theorem Bounded.requestedReset (k : ResetKind) : Bounded (requestedReset k s) := by
  unfold Machine.requestedReset
  split
  · exact h.warmReset _
  · exact coldReset_bounded _ _ _

theorem Bounded.assertCold : Bounded (assertCold s) := by
  unfold Machine.assertCold
  dsimp only
  split
  · exact h.congr rfl rfl rfl rfl rfl rfl
  · exact coldReset_bounded _ _ _

theorem Bounded.assertWarm : Bounded (assertWarm s) := by
  have hl : Bounded { s with warmLine := true } := h.congr rfl rfl rfl rfl rfl rfl
  unfold Machine.assertWarm
  dsimp only
  split
  · exact hl
  · exact hl.warmReset _

theorem Bounded.releaseLine (l : RestartLine) : Bounded (releaseLine l s) := by
  have released {u : State} (hu : Bounded u) :
      Bounded (if s.phase = .held && !lineAsserted u then Machine.beginStartUp u else u) := by
    split
    · exact hu.beginStartUp
    · exact hu
  cases l <;> (refine released ?_; exact h.congr rfl rfl rfl rfl rfl rfl)

theorem Bounded.loadProfile (img : List Byte) : Bounded (loadProfile img s) := by
  unfold Machine.loadProfile
  dsimp only
  split <;> exact h.congr rfl rfl rfl rfl rfl rfl

theorem Bounded.completeProfileRead (img : List Byte) : Bounded (completeProfileRead img s) := by
  unfold Machine.completeProfileRead
  split
  · have hl := h.loadProfile img
    generalize Machine.loadProfile img s = u at hl ⊢
    exact hl.congr rfl rfl rfl rfl rfl rfl
  · exact h

/-! ### The end of a start-up -/

theorem Bounded.latchAtStart : Bounded (latchAtStart s) := h.congr (by simp) (by simp) (by simp [Machine.latchAtStart])
  (by simp [Machine.latchAtStart]) (by simp [Machine.latchAtStart]) (by simp [Machine.latchAtStart])

theorem Bounded.resolveMotion : Bounded (resolveMotion s) := by
  unfold Machine.resolveMotion
  split
  · exact h
  · split
    · exact h.completeMotion
    · exact h.withMotion rfl nofun rfl rfl rfl rfl

theorem Bounded.resolveCarried : Bounded (resolveCarried s).1 := by
  unfold Machine.resolveCarried
  split
  · exact h
  · exact h.resolveTransfer
  · exact h.resolveTransfer
  · exact h.settleJam

theorem Bounded.motionResolved : Bounded (motionResolved s) := by
  refine Bounded.resolveMotion ?_
  unfold restartExtension
  split <;> exact h.congr rfl rfl rfl rfl rfl rfl

theorem Bounded.restartTrack : Bounded (restartTrack s) := by
  have hr : Bounded (Machine.resolveCarried (Machine.motionResolved s)).1 := h.motionResolved.resolveCarried
  unfold Machine.restartTrack
  dsimp only
  split
  · exact hr.enqueue _
  · exact hr

theorem Bounded.restartDeliveries (n : Quad) : Bounded (restartDeliveries n s) := by
  refine h.setStation n ⟨?_, (h.stations n).2⟩
  simpa [StationUnit.committed] using (h.stations n).1

theorem Bounded.timersRestarted : Bounded (timersRestarted s) := by
  refine foldl_stations_keeps (fun n _ h => h.restartDeliveries n) _ (h.withRet ?_)
  refine { h.ret with transit := by simpa using h.ret.transit, transitRecords := fun x hx => ?_ }
  obtain ⟨t, ht, rfl⟩ := List.mem_map.mp hx
  exact h.ret.transitRecords t ht

theorem Bounded.restartReturn : Bounded (restartReturn s) := by
  rw [restartReturn_eq]
  split
  · exact h.timersRestarted.prompt.enqueue _
  · exact h.timersRestarted.prompt

theorem Bounded.trackRestarted : Bounded (trackRestarted s) := by
  have hn : Bounded (Machine.latchAtStart (Machine.enqueue (.startUp s.resetKind s.resetCause s.profile.status)
      { s with phase := .running, settle := .idle })) := by
    refine (Bounded.enqueue ?_ _).latchAtStart
    exact h.congr rfl rfl rfl rfl rfl rfl
  unfold Machine.trackRestarted
  dsimp only
  split
  · exact hn.restartTrack
  · exact hn

theorem Bounded.headsRead : Bounded (headsRead s) := by
  have hr : Bounded (quads.foldl (fun s n => Machine.readSpurHead n s) (Machine.trackRestarted s)) :=
    foldl_stations_keeps (fun n _ h => h.readSpurHead n) _ h.trackRestarted
  exact hr.withRet { hr.ret with }

theorem Bounded.endStartUp : Bounded (endStartUp s) := by
  have hr : Bounded (returnRestarted s) := by
    unfold returnRestarted strayAtStart
    split
    · exact h.headsRead.restartReturn
    · split
      · exact h.headsRead.reportStray
      · exact h.headsRead
  rw [endStartUp_eq]
  refine Bounded.startSample ?_
  exact hr.congr rfl rfl rfl rfl rfl rfl

/-! ### Commands -/

theorem Bounded.conclude (b : State) : Bounded (conclude b s) := by
  have hd := h.dueEvaluation.grantOpportunity
  unfold Machine.conclude
  refine keptByRequests_bounded.chooseMessage ?_
  split
  · exact hd.congr
  · exact h

theorem Bounded.sense (p : Plant) : Bounded (s.sense p) := h.congr rfl rfl rfl rfl rfl rfl

theorem Bounded.withInputs (i : Inputs) : Bounded { s with inputs := i } := h.congr rfl rfl rfl rfl rfl rfl

/-- An effect that keeps the invariant keeps it under a guard. -/
theorem Bounded.guarded (c : Bool) {f : State → State} (hf : Bounded (f s)) : Bounded (if c then f s else s) := by
  split
  · exact hf
  · exact h

theorem Bounded.event {b : State} {f : State → State} (hf : Bounded (f s)) : Bounded (Machine.conclude b (whenRunning f s)) := by
  refine Bounded.conclude ?_ b
  unfold whenRunning
  split
  · exact hf
  · exact h

theorem Bounded.linked {b : State} {f : State → State} (hf : Bounded (f s)) : Bounded (Machine.conclude b (whenLinked f s)) := by
  refine Bounded.conclude ?_ b
  unfold whenLinked
  split
  · exact hf
  · exact h

theorem Bounded.ifNot (c : Bool) {f : State → State} (hf : Bounded (f s)) : Bounded (if c then s else f s) := by
  split
  · exact h
  · exact hf

theorem Bounded.endTransmission : Bounded (endTransmission s) := by
  rcases keptByRequests_bounded.endTransmission h with h' | ⟨k, l, h'⟩
  · exact h'
  · rw [h']
    refine Bounded.requestedReset ?_ k
    exact h.congr rfl rfl rfl rfl rfl rfl

end

/-- Every command keeps the queues and counts in range. -/
theorem exec_bounded {c : Instr} {s t : State} (h : Bounded s) (he : exec c s = .next t) : Bounded t := by
  have l := keptByRequests_bounded
  cases hq : requestOf c with
  | some r =>
    rw [exec_request hq] at he
    obtain rfl := Host.Outcome.next.inj he
    have hw : Bounded (withReadings c s) := by cases c <;> exact h.congr rfl rfl rfl rfl rfl rfl
    exact hw.linked (l.submit r hw)
  | none =>
    cases c <;> try (cases hq; done)
    all_goals clear hq; obtain rfl := Host.Outcome.next.inj he; clear he
    case supervisoryByteReceived b high p => exact (h.sense p).linked (l.receiveByte b high (h.sense p))
    case receiveGapExpiry => exact h.linked (h.guarded _ (l.receiveGap h))
    case transmitComplete p => exact (h.sense p).linked (h.sense p).endTransmission
    case powerOnReset => exact coldReset_bounded _ _ _
    case supplyBelowOperatingLevel => exact loseSupply_bounded s
    case coldRestartLine => exact h.assertCold
    case warmRestartLine => exact h.assertWarm
    case restartLineReleased x => exact h.releaseLine x
    case profileReadComplete image => exact h.completeProfileRead image
    case endOfStartUp p =>
      split
      · exact (h.sense p).endStartUp.conclude s
      · exact h.sense p
    case tagByteReceived b => exact h.event (h.tagByte b)
    case tagGapExpiry => exact h.event (h.guarded _ (f := tagAbandon) (h.congr rfl rfl rfl rfl rfl rfl))
    case stepTimerExpiry => exact h.event (h.guarded _ (f := stepFallsDue) (h.congr rfl rfl rfl rfl rfl rfl))
    case stepCompletion p => exact (h.sense _).event (h.sense _).indexMade
    case motionTimeout => exact h.event (h.guarded _ h.motionExpiry)
    case extensionExpiry => exact h.event (h.guarded _ (f := extensionEnds) (h.congr rfl rfl rfl rfl rfl rfl))
    case idleTimerExpiry => exact h.event (h.guarded _ h.idleExpiry)
    case recoveryTimerExpiry => exact h.event (h.guarded _ h.recoveryExpiry)
    case recoveryLimitExpiry => exact h.event (h.guarded _ h.limitExpiry)
    case estopChainChange o => exact (h.withInputs _).event ((h.withInputs _).changeEstop o)
    case doorChainChange o => exact (h.withInputs _).event ((h.withInputs _).changeDoor o)
    case rinseFlowChange o => exact (h.withInputs _).event ((h.withInputs _).changeRinse _)
    case tankLevelChange o => exact (h.withInputs _).event ((h.withInputs _).changeTank o)
    case sampleCycleExpiry => exact h.event (h.guarded _ h.startSample)
    case conversionAComplete a => exact h.event (h.conversionA a)
    case conversionBComplete a => exact h.event (h.conversionB a)
    case stackLift n => exact h.event (h.guarded _ (h.liftStack n))
    case sendButton n p => exact (h.sense p).event ((h.sense p).guarded _ ((h.sense p).pressSend n))
    case spurFullTimerExpiry n => exact h.event (h.guarded _ (f := spurFullOut n) (h.setStation n (h.stations n)))
    case spurHeadMade n p =>
      exact (h.sense _).event ((h.sense _).guarded _ ((h.sense _).ifNot _ ((h.sense _).profileHead n)))
    case spurHeadClear n =>
      exact (h.sense _).event ((h.sense _).guarded _ ((h.sense _).ifNot _ ((h.sense _).withdrawHead n)))
    case deliveryCompletion n i => exact h.event (h.deliveryExpiry n i)
    case transferCompletion p =>
      have hs : Bounded (s.sense { p with position0 := true }) := h.sense _
      refine hs.event ?_
      unfold position0Made
      split
      · exact hs.completeTransfer
      · exact hs
    case transferTimeout => exact h.event (h.guarded _ h.transferExpiry)
    case unloadButton => exact h.event h.pressUnload
    case travelTimerExpiry i => exact h.event (h.ifNot _ (h.travelEnds i))
    case spacingTimerExpiry => exact h.event (h.ifNot _ (h.guarded _ h.spacingEnds))
    case routerArrivalSensor o => exact (h.withInputs _).event ((h.withInputs _).arrivalSensor _ o)

/-- 10 ms leave every queue and count as it is. -/
theorem Bounded.tick {s : State} (h : Bounded s) : Bounded (tick s) := by
  unfold Machine.tick
  split
  case h_1 =>
    obtain ⟨hlane, hclean, hsurplus, hinspections, htransit⟩ := Return.tick_queues (returnPaused s) s.ret
    have hlength : (s.ret.tick (returnPaused s)).transit.length = s.ret.transit.length := by
      simpa using congrArg List.length htransit
    refine ⟨h.track, ⟨?_, ?_, ?_, ?_, ?_, ?_, fun x hx => ?_, ?_⟩, fun n => ?_, h.tags, h.runs⟩
    · exact le_of_eq_of_le (by rw [← hclean]; rfl) h.ret.clean
    · exact le_of_eq_of_le (by rw [← hlane]; rfl) h.ret.lane
    · exact le_of_eq_of_le hlength h.ret.transit
    · exact le_of_eq_of_le (congrArg List.length hsurplus) h.ret.surplus
    · exact fun x hx => h.ret.laneRecords x (hlane ▸ hx)
    · exact fun x hx => h.ret.cleanRecords x (hclean ▸ hx)
    · obtain ⟨y, hy, he⟩ := List.mem_map.mp (htransit ▸ List.mem_map_of_mem (f := Transit.record) hx)
      exact he ▸ h.ret.transitRecords y hy
    · exact le_of_eq_of_le hinspections h.ret.inspections
    · have hu (u : StationUnit) (hu : UnitBounded u) : UnitBounded (u.tick (returnPaused s)) := by
        refine ⟨le_of_eq_of_le ?_ hu.1, hu.2⟩
        simp only [StationUnit.committed, StationUnit.tick]
        split <;> simp
      match n with
      | 0 => exact hu _ (h.stations 0)
      | 1 => exact hu _ (h.stations 1)
      | 2 => exact hu _ (h.stations 2)
      | 3 => exact hu _ (h.stations 3)
  all_goals exact h.congr rfl rfl rfl rfl rfl rfl

theorem step_bounded {s t : State} (h : Bounded s) (hs : step s = .next t) : Bounded t := by
  rcases step_cases hs with ⟨c, q, n, he⟩ | rfl
  · exact exec_bounded (s := { s with pending := q, choices := n }) (h.congr rfl rfl rfl rfl rfl rfl) he
  · exact h.tick

/-- Settles O57, command by command, with the invariant taken block by block. -/
theorem queuesAndCountsStayInRange : Obligations.QueuesAndCountsStayInRange := by
  intro s t hp hc hs
  exact (bounded_iff t).mp (step_bounded ((bounded_iff s).mpr ⟨hp, hc⟩) hs)

end Sys2Proof.Machine
end

section
namespace Sys2Proof.Machine
open Sys2Proof

/-! ## The end of a start-up -/

/-! ### How many notices an operation can queue -/

/-- Between `s` and `t` at most `k` notices join the queue, which has the room for them: those that wait stay, and one of the
first priority at the head stays there. The transmitter, the reply slot and the mask are left alone. -/
structure Queues (k : Nat) (s t : State) : Prop where
  transmitter : t.link.transmitter = s.link.transmitter
  reply : t.link.reply = s.link.reply
  mask : t.link.mask = s.link.mask
  kept : s.link.notices.length + k ≤ 16 → s.link.notices ⊆ t.link.notices
  length : s.link.notices.length + k ≤ 16 → t.link.notices.length ≤ s.link.notices.length + k
  head : s.link.notices.length + k ≤ 16 → ∀ x, s.link.notices.head? = some x → x.priority = 1 →
    t.link.notices.head? = some x

theorem Queues.of_link {s t : State} (h : t.link = s.link) (k : Nat) : Queues k s t := by
  refine ⟨?_, ?_, ?_, fun _ => ?_, fun _ => ?_, fun _ x hx _ => ?_⟩
  all_goals rw [h]
  · exact List.Subset.refl _
  · exact Nat.le_add_right ..
  · exact hx

theorem Queues.trans {j k : Nat} {s t u : State} (h : Queues j s t) (h' : Queues k t u) : Queues (j + k) s u where
  transmitter := h'.transmitter.trans h.transmitter
  reply := h'.reply.trans h.reply
  mask := h'.mask.trans h.mask
  kept hr := fun _ hx => h'.kept (by have := h.length (by omega); omega) (h.kept (by omega) hx)
  length hr := by have := h.length (by omega); have := h'.length (by omega); omega
  head hr x hx hp := h'.head (by have := h.length (by omega); omega) x (h.head (by omega) x hx hp) hp

theorem Queues.mono {j k : Nat} {s t : State} (h : Queues j s t) (hk : j ≤ k) : Queues k s t :=
  ⟨h.transmitter, h.reply, h.mask, fun hr => h.kept (by omega), fun hr => (h.length (by omega)).trans (by omega),
    fun hr => h.head (by omega)⟩

theorem Notice.one_le_priority (n : Notice) : 1 ≤ n.priority := by cases n <;> simp [Notice.priority]

theorem length_placeNotice (n : Notice) (q : List Notice) : (placeNotice n q).length = q.length + 1 := by
  induction q with
  | nil => rfl
  | cons x q ih =>
    unfold placeNotice
    split
    · simp [ih]
    · simp

/-- An enabled notice that finds room is placed. -/
theorem enqueue_of_room {n : Notice} {s : State} (he : n.enabled s.link.mask = true) (hr : s.link.notices.length < 16) :
    enqueue n s = { s with link := { s.link with notices := placeNotice n s.link.notices } } := by
  rw [enqueue, he, if_neg (by simp), if_pos (by exact hr)]

theorem enqueue_masked {n : Notice} {s : State} (he : n.enabled s.link.mask = false) : enqueue n s = s := by
  rw [enqueue, he, if_pos (by simp)]

theorem queues_enqueue (n : Notice) (s : State) : Queues 1 s (enqueue n s) := by
  cases he : n.enabled s.link.mask with
  | false =>
    rw [enqueue_masked he]
    exact .of_link rfl 1
  | true =>
    refine ⟨by simp, by simp, by simp, fun hr => ?_, fun hr => ?_, fun hr x hx hp => ?_⟩
    all_goals rw [enqueue_of_room he (by omega)]
    · exact fun _ hm => mem_placeNotice.mpr (.inr hm)
    · exact (length_placeNotice ..).le
    · obtain ⟨q, hq⟩ := List.head?_eq_some_iff.mp hx
      dsimp only
      rw [hq, placeNotice, if_pos (hp ▸ n.one_le_priority)]
      rfl

theorem queues_enqueueAll (ns : List Notice) (s : State) : Queues ns.length s (enqueueAll ns s) := by
  induction ns generalizing s with
  | nil => exact .of_link rfl 0
  | cons n ns ih => exact ((queues_enqueue n s).trans (ih _)).mono (by rw [List.length_cons]; omega)

theorem queues_completeMotion (s : State) : Queues 1 s (completeMotion s) := by
  have hs : (fixPeriod (afterShift s)).link = s.link := by simp [fixPeriod, afterShift, endMotion]
  rw [completeMotion_eq]
  unfold exitEyeCheck
  split
  · next r _ _ =>
    refine (Queues.of_link (t := if r.tracked then sendUnpin r.id .unknown ((fixPeriod (afterShift s)).setPosition 16 none)
      else (fixPeriod (afterShift s)).setPosition 16 none) ?_ 0).trans (queues_enqueue _ _)
    split <;> simpa using hs
  · exact .of_link (by exact hs) 1
  · exact .of_link hs 1

theorem queues_admissionRequest (id : RackId) (k : Kind) (n : Quad) (s : State) :
    Queues 1 s (admissionRequest id k n s).1 := by
  unfold admissionRequest
  split
  · exact .of_link (by simp) 1
  · next hl =>
    have ht {w : Quad} {t : State} {v : Option EntryBlock} (ha : allocate id (admittedEntry id k) s = .taken w t v) :
        Queues 1 s t := by
      rcases allocate_taken ha with ⟨rfl, -⟩ | ⟨x, -, -, -, -, rfl⟩
      · exact .of_link (by rfl) 1
      · exact (queues_enqueue _ _).trans (Queues.of_link (by rfl) 0)
    split
    · next ha => exact ht ha
    · exact queues_enqueue _ _
    · exact queues_enqueue _ _

theorem resolveIdentity_notices (n : Quad) (e : RackId) (tags : List TagRead) (v : Bool) :
    (resolveIdentity n e tags v).2.2.length ≤ 1 := by
  unfold resolveIdentity
  (repeat' split) <;> simp

theorem presenceCheck_notices (n : Quad) (id : RackId) (o : IdSource) (v : Bool) (s : State) :
    (presenceCheck n id o v s).notices.length ≤ 1 := by
  unfold presenceCheck
  (repeat' split) <;> simp

theorem queues_sendAdmission (n : Quad) (x e : RackId) (k : Kind) (s : State) : Queues 1 s (sendAdmission n x e k s).1 := by
  have hr : Queues 1 s (if x = 0 then (s, false) else admissionRequest x k n s).1 := by
    split
    · exact .of_link rfl 1
    · exact queues_admissionRequest ..
  unfold sendAdmission
  dsimp only
  split
  · exact hr.trans (Queues.of_link (by simp) 0)
  · exact hr

/-- The completion of a spur transfer queues at most the identity's notice, the holder's and one of the directory. -/
theorem queues_completeSpur (n : Quad) (e : RackId) (k : Kind) (p : Snapshot) (s : State) :
    Queues 3 s (completeSpur n e k p s) := by
  have hi := resolveIdentity_notices n e s.merge.tags s.merge.overrun
  have hc := presenceCheck_notices n (resolveIdentity n e s.merge.tags s.merge.overrun).1
    (resolveIdentity n e s.merge.tags s.merge.overrun).2.1 s.merge.overrun s
  have hp := Queues.of_link (s := s) (t := (presenceCheck n (resolveIdentity n e s.merge.tags s.merge.overrun).1
    (resolveIdentity n e s.merge.tags s.merge.overrun).2.1 s.merge.overrun s).state) (by simp) 0
  unfold completeSpur
  dsimp only
  refine ((hp.trans (queues_sendAdmission ..)).trans (Queues.trans (Queues.of_link (by rfl) 0) (queues_enqueueAll ..))).mono ?_
  simp only [List.length_map, List.length_append]
  omega

/-- A resting track completes a spur transfer without a due evaluation. -/
theorem completeTransfer_spur {s : State} {n : Quad} {e : RackId} {k : Kind} {p : Snapshot}
    (h : s.track.state.evaluates = false) (hg : s.merge.grant = some (.spur n e k p)) :
    completeTransfer s = readSpurHead n (mergeIdle (completeSpur n e k p (stopPusher s))) := by
  have hs : (mergeIdle (completeSpur n e k p (stopPusher s))).track.state = s.track.state := by
    show (completeSpur n e k p (stopPusher s)).track.state = s.track.state
    rw [completeSpur_track]
    rfl
  simp only [completeTransfer, hg]
  rw [dueEvaluation_of_not_evaluates (hs ▸ h)]

/-- A resting track completes a rewash transfer without a due evaluation. -/
theorem completeTransfer_rewash {s : State} {r : TrackRecord} (h : s.track.state.evaluates = false)
    (hg : s.merge.grant = some (.rewash r)) : completeTransfer s = mergeIdle (completeRewash (stopPusher s)) := by
  have hs : (mergeIdle (completeRewash (stopPusher s))).track.state = s.track.state := by
    show (completeRewash (stopPusher s)).track.state = s.track.state
    rw [completeRewash_track]
    rfl
  simp only [completeTransfer, hg]
  rw [dueEvaluation_of_not_evaluates (hs ▸ h)]

theorem completeTransfer_none {s : State} (hg : s.merge.grant = none) : completeTransfer s = mergeIdle (stopPusher s) := by
  simp only [completeTransfer, hg]

theorem queues_completeTransfer {s : State} (h : s.track.state.evaluates = false) : Queues 3 s (completeTransfer s) := by
  cases hg : s.merge.grant with
  | none => exact completeTransfer_none hg ▸ .of_link (by rfl) 3
  | some g =>
    cases g with
    | rewash r => exact completeTransfer_rewash h hg ▸ .of_link (by simp [mergeIdle, stopPusher]) 3
    | spur n e k p =>
      rw [completeTransfer_spur h hg]
      have hc : Queues 3 s (completeSpur n e k p (stopPusher s)) :=
        Queues.trans (j := 0) (Queues.of_link (by rfl) 0) (queues_completeSpur n e k p (stopPusher s))
      exact hc.trans (Queues.of_link (by simp [mergeIdle]) 0)

theorem queues_resolveCarried {s : State} (h : s.track.state.evaluates = false) : Queues 3 s (resolveCarried s).1 := by
  have hdrop (u : State) (hu : u.link = s.link) : Queues 3 s (dropTransfer u) := .of_link (by simpa using hu) 3
  have hresolve : Queues 3 s (resolveTransfer s) := by
    unfold resolveTransfer
    split
    · exact queues_completeTransfer h
    · exact hdrop s rfl
  unfold resolveCarried
  split
  · exact .of_link (by rfl) 3
  · exact hresolve
  · exact hresolve
  · unfold settleJam
    dsimp only
    split
    · exact .of_link (by rfl) 3
    · split
      · exact (Queues.of_link (by rfl) 0).trans (queues_completeTransfer (s := emptyTags s) h)
      · split
        · exact hdrop _ rfl
        · split
          · exact hdrop _ rfl
          · exact .of_link (by simp [mergeIdle, removeHead]) 3

theorem queues_motionResolved (s : State) : Queues 1 s (motionResolved s) := by
  have hs : (restartExtension (fixPeriod s)).link = s.link := by
    unfold restartExtension
    split <;> rfl
  unfold motionResolved resolveMotion
  split
  · exact .of_link hs 1
  · split
    · exact (Queues.of_link hs 0).trans (queues_completeMotion _)
    · exact .of_link (by exact hs) 1

end Sys2Proof.Machine
end

section
namespace Sys2Proof.Machine
open Sys2Proof

/-! ### Pinned entries -/

theorem DirSet.put_ways (d : DirSet) (w : Quad) (e : DirEntry) : (d.put w e).ways = d.ways.set w (some e) := by
  match w with
  | 0 => rfl
  | 1 => rfl
  | 2 => rfl
  | 3 => rfl

theorem DirSet.holds_iff {d : DirSet} {id : RackId} {w : Quad} :
    d.holds id w = true ↔ ∃ e, d.ways.get w = some e ∧ e.id = id := by
  unfold DirSet.holds
  cases d.ways.get w <;> simp

/-- An entry put into a way leaves the other ways as they are. -/
theorem DirSet.put_holds (d : DirSet) (w v : Quad) (e : DirEntry) (id : RackId) :
    (d.put w e).holds id v = if v = w then e.id == id else d.holds id v := by
  simp only [DirSet.holds, DirSet.put_ways, Four.get_set]
  by_cases h : v = w <;> simp [h]

theorem lookup_eq_some {s : State} {id : RackId} {w : Quad} {e : DirEntry} : lookup s id = some (w, e) ↔
    id ≠ 0 ∧ (s.directory[setOf id]).find id = some w ∧ (s.directory[setOf id]).ways.get w = some e := by
  unfold lookup
  split
  · simp_all
  · simp_all [Option.bind_eq_some_iff]

/-- The entry of the way found is one of the id. -/
theorem lookup_id {s : State} {id : RackId} {w : Quad} {e : DirEntry} (h : lookup s id = some (w, e)) : e.id = id := by
  obtain ⟨-, hf, hw⟩ := lookup_eq_some.mp h
  obtain ⟨x, hx, hid⟩ := DirSet.holds_iff.mp (List.find?_some hf)
  rw [hw] at hx
  cases hx
  exact hid

theorem PinnedEntry.congr {s t : State} {id : RackId} (h : PinnedEntry s id) (hd : t.directory = s.directory) :
    PinnedEntry t id := by
  obtain ⟨w, e, hl, hp⟩ := h
  exact ⟨w, e, lookup_congr hd id ▸ hl, hp⟩

/-- An update of one entry, which keeps its id, leaves every id at its way, with its own entry updated. -/
theorem lookup_updateEntry {s : State} {id x : RackId} {f : DirEntry → DirEntry} {w : Quad} {e : DirEntry}
    (hf : ∀ e, (f e).id = e.id) (h : lookup s id = some (w, e)) :
    lookup (updateEntry x f s) id = some (w, if id = x then f e else e) := by
  have hid := lookup_id h
  cases hx : lookup s x with
  | none =>
    have hne : id ≠ x := by
      rintro rfl
      rw [h] at hx
      cases hx
    rw [if_neg hne]
    unfold updateEntry
    rw [hx]
    exact h
  | some q =>
    obtain ⟨v, y⟩ := q
    have hidy := lookup_id hx
    obtain ⟨-, -, hway⟩ := lookup_eq_some.mp hx
    obtain ⟨hzero, hfind, hentry⟩ := lookup_eq_some.mp h
    have hu : updateEntry x f s = s.setDirSet (setOf x) ((s.directory[setOf x]).put v (f y)) := by
      simp only [updateEntry, hx]
    rw [hu, lookup_eq_some, State.setDirSet_directory]
    refine ⟨hzero, ?_⟩
    by_cases hset : setOf id = setOf x
    · simp only [← hset] at hway ⊢
      have hself : (s.directory.set (setOf id) ((s.directory[setOf id]).put v (f y)))[setOf id] =
          (s.directory[setOf id]).put v (f y) := Vector.getElem_set_self _
      have hholds : ((s.directory[setOf id]).put v (f y)).holds id = (s.directory[setOf id]).holds id := by
        funext u
        rw [DirSet.put_holds]
        split
        · next he => rw [he, hf, DirSet.holds, hway]
        · rfl
      rw [hself]
      refine ⟨?_, ?_⟩
      · rw [DirSet.find, hholds]
        exact hfind
      · rw [DirSet.put_ways, Four.get_set]
        by_cases hwv : w = v
        · subst hwv
          rw [hway] at hentry
          cases hentry
          rw [if_pos rfl, if_pos (hid.symm.trans hidy)]
        · have hne : id ≠ x := by
            rintro rfl
            rw [h] at hx
            cases hx
            exact hwv rfl
          rw [if_neg hwv, if_neg hne]
          exact hentry
    · have hother : (s.directory.set (setOf x) ((s.directory[setOf x]).put v (f y)))[setOf id] =
          s.directory[setOf id] := Vector.getElem_set_ne _ _ fun he => hset (Fin.ext he.symm)
      rw [hother, if_neg (fun he => hset (congrArg setOf he))]
      exact ⟨hfind, hentry⟩

/-- An entry stays pinned under an update that keeps ids and does not unpin it. -/
theorem PinnedEntry.updateEntry {s : State} {id x : RackId} {f : DirEntry → DirEntry} (h : PinnedEntry s id)
    (hf : ∀ e, (f e).id = e.id) (hp : id = x → ∀ e, e.pinned = true → (f e).pinned = true) :
    PinnedEntry (updateEntry x f s) id := by
  obtain ⟨w, e, hl, he⟩ := h
  refine ⟨w, _, lookup_updateEntry hf hl, ?_⟩
  split
  · exact hp ‹_› e he
  · exact he

theorem PinnedEntry.sendLocation {s : State} {id : RackId} (h : PinnedEntry s id) (x : RackId) (l : Location) :
    PinnedEntry (sendLocation x l s) id := h.updateEntry (fun _ => rfl) fun _ _ he => he

theorem PinnedEntry.sendKind {s : State} {id : RackId} (h : PinnedEntry s id) (x : RackId) (k : Kind) :
    PinnedEntry (sendKind x k s) id := by
  refine h.updateEntry (fun e => ?_) fun _ e he => ?_
  · split <;> rfl
  · split <;> exact he

theorem PinnedEntry.sendUnpin {s : State} {id x : RackId} (h : PinnedEntry s id) (hx : x ≠ id) (l : Location) :
    PinnedEntry (sendUnpin x l s) id := h.updateEntry (fun _ => rfl) fun he => absurd he.symm hx

theorem mem_quads (n : Quad) : n ∈ quads := by
  match n with
  | 0 | 1 | 2 | 3 => decide

/-- A new entry of an id that missed is found in its way. -/
theorem DirSet.find_put_of_miss {d : DirSet} {e : DirEntry} (h : d.find e.id = none) (w : Quad) :
    (d.put w e).find e.id = some w := by
  have hmiss (v : Quad) : d.holds e.id v = false := by
    simpa using List.find?_eq_none.mp h v (mem_quads v)
  have hholds (v : Quad) : (d.put w e).holds e.id v = decide (v = w) := by
    rw [DirSet.put_holds, hmiss]
    split <;> simp_all
  obtain ⟨v, hv⟩ : ∃ v, (d.put w e).find e.id = some v :=
    Option.isSome_iff_exists.mp (List.find?_isSome.mpr ⟨w, mem_quads w, by rw [hholds]; simp⟩)
  have hvw := List.find?_some hv
  rw [hholds, decide_eq_true_eq] at hvw
  rw [hv, hvw]

theorem allocate_directory {id : RackId} {x : DirEntry} {s t : State} {w : Quad} {v : Option EntryBlock}
    (h : allocate id x s = .taken w t v) :
    t.directory = s.directory.set (setOf id) ((s.directory[setOf id]).put w x) := by
  rcases allocate_taken h with ⟨rfl, -⟩ | ⟨y, -, -, -, -, rfl⟩
  · rfl
  · simp only [State.setDirSet_directory, enqueue_frame]

/-- The entry of an answered admission request is pinned (R118). -/
theorem admissionRequest_pinned {id : RackId} {k : Kind} {n : Quad} {s : State} (hid : id ≠ 0)
    (h : (admissionRequest id k n s).2 = true) : PinnedEntry (admissionRequest id k n s).1 id := by
  unfold admissionRequest at h ⊢
  cases hl : lookup s id with
  | some q =>
    obtain ⟨w, e⟩ := q
    refine ⟨w, _, lookup_updateEntry (fun _ => rfl) hl, ?_⟩
    rw [if_pos rfl]
  | none =>
    simp only [hl] at h ⊢
    cases ha : allocate id (admittedEntry id k) s with
    | setFull ids => simp [ha] at h
    | spillBlocked v => simp [ha] at h
    | taken w t v =>
      have hmiss : (s.directory[setOf id]).find id = none := by
        rw [Option.eq_none_iff_forall_ne_some]
        intro u hu
        obtain ⟨x, hx, -⟩ := DirSet.holds_iff.mp (List.find?_some hu)
        rw [lookup_eq_some.mpr ⟨hid, hu, hx⟩] at hl
        cases hl
      have hself : t.directory[setOf id] = (s.directory[setOf id]).put w (admittedEntry id k) := by
        rw [allocate_directory ha]
        exact Vector.getElem_set_self _
      refine ⟨w, admittedEntry id k, lookup_eq_some.mpr ⟨hid, ?_, ?_⟩, rfl⟩ <;> rw [hself]
      · exact DirSet.find_put_of_miss (e := admittedEntry id k) hmiss w
      · rw [DirSet.put_ways, Four.get_set_same]

end Sys2Proof.Machine
end

section
namespace Sys2Proof.Machine
open Sys2Proof

/-! ### The reading of every spur head -/

/-- The queue of a spur after its head sensor has been read with this plant (R78). -/
def readQueue (v : ProfileValues) (p : Plant) (n : Quad) (q : List SpurEntry) : List SpurEntry :=
  if n.val + 1 ≤ v.stations ∧ p.spurHead.get n = true then match q with
    | [] => [⟨0, p.profile.get n, true, false, none⟩]
    | h :: rest => (if h.profiled then h else { h with kind := p.profile.get n, profiled := true }) :: rest
  else q

/-- A head that has been read is profiled, so that a second reading changes nothing. -/
theorem readQueue_readQueue (v : ProfileValues) (p : Plant) (n : Quad) (q : List SpurEntry) :
    readQueue v p n (readQueue v p n q) = readQueue v p n q := by
  unfold readQueue
  split
  · cases q with
    | nil => rfl
    | cons h rest => cases hp : h.profiled <;> simp [hp]
  · rfl

theorem readSpurHead_get (n m : Quad) (s : State) : (readSpurHead n s).stations.get m =
    if m = n then { s.stations.get n with spur := readQueue s.profile.values s.plant n (s.stations.get n).spur }
    else s.stations.get m := by
  rw [readSpurHead_eq]
  unfold readQueue
  split
  · cases hs : (s.stations.get n).spur with
    | nil => exact Four.get_set ..
    | cons h rest =>
      dsimp only
      by_cases hp : h.profiled = true
      · rw [if_pos hp, if_pos hp]
        split
        · next he => rw [he, ← hs]
        · rfl
      · rw [if_neg hp, if_neg hp]
        simp only [sendKind_frame]
        exact Four.get_set ..
  · split
    · next he => rw [he]
    · rfl

theorem readSpurHeads_get (m : Quad) (s : State) : (quads.foldl (fun s n => readSpurHead n s) s).stations.get m =
    { s.stations.get m with spur := readQueue s.profile.values s.plant m (s.stations.get m).spur } := by
  simp only [quads, List.foldl, readSpurHead_get, readSpurHead_frame]
  match m with
  | 0 | 1 | 2 | 3 => rfl

theorem readSpurHeads_of_clear {s : State} (h : ∀ n, s.plant.spurHead.get n = false) :
    quads.foldl (fun s n => readSpurHead n s) s = s := by
  simp only [quads, List.foldl]
  rw [readSpurHead_of_clear (h 0), readSpurHead_of_clear (h 1), readSpurHead_of_clear (h 2), readSpurHead_of_clear (h 3)]

/-- The kind message of a reading leaves a pinned entry pinned. -/
theorem PinnedEntry.readSpurHead {s : State} {id : RackId} (h : PinnedEntry s id) (n : Quad) :
    PinnedEntry (readSpurHead n s) id := by
  rw [readSpurHead_eq]
  split
  · split
    · exact h.congr rfl
    · split
      · exact h
      · refine PinnedEntry.sendKind ?_ _ _
        exact h.congr rfl
  · exact h

/-! ### What a prompt leaves alone -/

/-- From `s` to `t` the return has routed or fed racks: deliveries may have joined a station's list and clean-end entries
transit; the track, the messages, the lane and the spurs stand, and so does the pin of an id that the clean end does not
hold. -/
structure Prompted (s t : State) : Prop where
  track : t.track = s.track
  link : t.link = s.link
  lane : t.ret.lane = s.ret.lane
  conveyor : t.ret.conveyor = s.ret.conveyor
  spacing : s.ret.spacing = .running 300 → t.ret.spacing = .running 300
  spur : ∀ n, (t.stations.get n).spur = (s.stations.get n).spur
  deliveries : ∀ n, (s.stations.get n).deliveries <+: (t.stations.get n).deliveries
  cleanEnd : t.ret.cleanEnd ⊆ s.ret.cleanEnd
  pinned : ∀ id, (∀ e ∈ s.ret.cleanEnd, e.record.id ≠ id) → PinnedEntry s id → PinnedEntry t id

theorem Prompted.refl (s : State) : Prompted s s :=
  ⟨rfl, rfl, rfl, rfl, id, fun _ => rfl, fun _ => List.prefix_rfl, List.Subset.refl _, fun _ _ h => h⟩

theorem Prompted.trans {s t u : State} (h : Prompted s t) (h' : Prompted t u) : Prompted s u where
  track := h'.track.trans h.track
  link := h'.link.trans h.link
  lane := h'.lane.trans h.lane
  conveyor := h'.conveyor.trans h.conveyor
  spacing hs := h'.spacing (h.spacing hs)
  spur n := (h'.spur n).trans (h.spur n)
  deliveries n := (h.deliveries n).trans (h'.deliveries n)
  cleanEnd _ he := h.cleanEnd (h'.cleanEnd he)
  pinned id hc hp := h'.pinned id (fun e he => hc e (h.cleanEnd he)) (h.pinned id hc hp)

/-- Another return with the same lane, conveyor and clean end. -/
theorem Prompted.of_ret (s : State) {r : Return} (lane : r.lane = s.ret.lane) (conveyor : r.conveyor = s.ret.conveyor)
    (cleanEnd : r.cleanEnd = s.ret.cleanEnd) (spacing : s.ret.spacing = .running 300 → r.spacing = .running 300) :
    Prompted s { s with ret := r } :=
  ⟨rfl, rfl, lane, conveyor, spacing, fun _ => rfl, fun _ => List.prefix_rfl, fun _ he => cleanEnd ▸ he,
    fun _ _ h => h.congr rfl⟩

theorem prompted_leaveTransit (s : State) : Prompted s (leaveTransit s) := .of_ret s rfl rfl rfl fun _ => rfl

theorem prompted_sendLocation (id : RackId) (l : Location) (s : State) : Prompted s (sendLocation id l s) where
  track := by simp
  link := by simp
  lane := by simp
  conveyor := by simp
  spacing := by simp
  spur := by simp
  deliveries := by simp
  cleanEnd := by simp
  pinned x _ h := h.sendLocation id l

/-- The operation that follows, and then what came before it. -/
theorem Prompted.after {s t u : State} (h' : Prompted t u) (h : Prompted s t) : Prompted s u := h.trans h'

theorem prompted_startDelivery (n : Quad) (id : RackId) (k : Kind) (o : Origin) (s : State) :
    Prompted s (startDelivery n id k o s) := by
  unfold startDelivery
  refine (prompted_sendLocation _ _ _).after ?_
  refine ⟨rfl, rfl, rfl, rfl, fun h => h, fun m => ?_, fun m => ?_, List.Subset.refl _, fun _ _ h => h.congr rfl⟩
  · rw [State.setStation_stations, Four.get_set]
    split
    · next he => rw [he]
    · rfl
  · rw [State.setStation_stations, Four.get_set]
    split
    · next he => rw [he]; exact List.prefix_append ..
    · exact List.prefix_rfl

theorem prompted_placeRack (r : TrackRecord) (route : Route) (s : State) : Prompted s (placeRack r route s) := by
  unfold placeRack
  split
  · refine (prompted_startDelivery _ _ _ _ _).after ?_
    exact Prompted.of_ret s rfl rfl rfl fun h => h
  · refine (prompted_sendLocation _ _ _).after ?_
    exact Prompted.of_ret s rfl rfl rfl fun h => h

theorem prompted_offerFeed (s : State) : Prompted s (offerFeed s).1 := by
  unfold offerFeed
  split
  · refine (prompted_startDelivery _ _ _ _ _).after ?_
    exact Prompted.of_ret s rfl rfl rfl fun h => h
  · exact .refl s

/-- With the track at rest a confirm moves the oldest clean-end entry and unpins its id only. -/
theorem prompted_completeConfirm {s : State} (h : s.track.state.evaluates = false) : Prompted s (completeConfirm s) := by
  unfold completeConfirm
  split
  · exact .refl s
  · next e rest hc =>
    rw [dueEvaluation_of_not_evaluates (by simpa using h)]
    refine ⟨by simp, by simp, by simp, by simp, by simp, by simp, by simp, ?_, fun id hid hp => ?_⟩
    · simp only [sendUnpin_frame, hc]
      exact List.subset_cons_self e rest
    · refine PinnedEntry.sendUnpin ?_ (hid e (hc ▸ List.mem_cons_self)) _
      exact hp.congr rfl

theorem prompted_completePending {s : State} (h : s.track.state.evaluates = false) : Prompted s (completePending s) := by
  unfold completePending
  split
  · exact prompted_completeConfirm h
  · exact .refl s

theorem prompted_retryHeld {s : State} (h : s.track.state.evaluates = false) : Prompted s (retryHeld s) := by
  unfold retryHeld
  split
  · split
    · refine (prompted_placeRack _ _ _).after ?_
      exact (prompted_leaveTransit s).trans (prompted_completePending (s := leaveTransit s) h)
    · exact .refl s
  · exact .refl s

theorem prompted_prompt {s : State} (h : s.track.state.evaluates = false) : Prompted s (prompt s) := by
  have hf : Prompted s (offerFeed (retryHeld s)).1 := (prompted_retryHeld h).trans (prompted_offerFeed _)
  unfold prompt
  dsimp only
  split
  · exact .refl s
  · split
    · exact hf.trans (prompted_retryHeld (by rw [hf.track]; exact h))
    · exact hf

theorem prompt_of_open {s : State} (h : s.interlock.live.estop = true) : prompt s = s := if_pos h

theorem retryHeld_of_not_held {s : State} (h : s.ret.held = false) : retryHeld s = s := by
  simp [retryHeld, h]

/-- A feed takes from surplus only. -/
theorem offerFeed_ret (s : State) : (offerFeed s).1.ret = { s.ret with surplus := (offerFeed s).1.ret.surplus } := by
  unfold offerFeed
  split
  · simp
  · rfl

/-- With no head held, or with the emergency stop open, a prompt leaves transit and the clean end (R145, R148). -/
theorem prompt_still {s : State} (h : s.ret.held = false ∨ s.interlock.live.estop = true) :
    (prompt s).ret = { s.ret with surplus := (prompt s).ret.surplus } := by
  rcases h with h | h
  · have hr := retryHeld_of_not_held h
    have hf := offerFeed_ret s
    have hheld : (offerFeed s).1.ret.held = false := by rw [hf]; exact h
    unfold prompt
    dsimp only
    rw [hr, retryHeld_of_not_held hheld]
    split
    · rfl
    · split <;> exact hf
  · rw [prompt_of_open h]

/-! ### The restart of the return -/

theorem timersRestarted_get (s : State) (n : Quad) : (timersRestarted s).stations.get n =
    { s.stations.get n with deliveries := (s.stations.get n).deliveries.map (restartDelivery s n) } := by
  have hr (n : Quad) (t : State) (h : t.profile = s.profile) : restartDelivery t n = restartDelivery s n := by
    funext d
    simp only [restartDelivery, deliveryTime, h]
  simp only [timersRestarted, quads, List.foldl, restartDeliveries, State.setStation_stations, Four.get_set]
  match n with
  | 0 | 1 | 2 | 3 => rfl

theorem timersRestarted_ret (s : State) : (timersRestarted s).ret = { s.ret with
    transit := s.ret.transit.map (fun t => { t with travel := .preset (seconds s.profile.values.travelTime) }),
    spacing := .preset Config.spacingTime } := by
  simp [timersRestarted, quads]

/-- The return's restart is a prompt, with the notice of a head still held. -/
theorem restartReturn_cases (s : State) : restartReturn s = prompt (timersRestarted s) ∨
    ∃ x, restartReturn s = enqueue x (prompt (timersRestarted s)) := by
  rw [restartReturn_eq]
  split
  · exact .inr ⟨_, rfl⟩
  · exact .inl rfl

end Sys2Proof.Machine
end

section
namespace Sys2Proof.Machine
open Sys2Proof

/-! ### The beginning of the end of a start-up -/

/-- The field inputs as the group reads them at the end of a start-up, with JAM clear (R160). -/
def startMembers (s : State) : Members := ⟨s.inputs.estopOpen, s.inputs.doorOpen, s.inputs.noFlow, s.inputs.tankLow, false⟩

/-- The START_UP notice of a part. -/
def startNotice (s : State) : Notice := .startUp s.resetKind s.resetCause s.profile.status

/-- The INTERLOCK notice of the latch at the end of a start-up. -/
def startLatchNotice (s : State) : Notice := .interlock (startMembers s) (startMembers s) 1 .start

/-- The part once START_UP is queued and the group is latched (R160, R177). -/
def groupLatched (s : State) : State :=
  latchAtStart (enqueue (startNotice s) { s with phase := .running, settle := .idle })

theorem trackRestarted_eq (s : State) :
    trackRestarted s = if s.resetKind = .warm then restartTrack (groupLatched s) else groupLatched s := by
  unfold trackRestarted groupLatched startNotice
  simp only [beq_iff_eq]

@[simp] theorem groupLatched_frame (s : State) :
    (groupLatched s).phase = .running ∧ (groupLatched s).settle = .idle ∧ (groupLatched s).resetKind = s.resetKind ∧
    (groupLatched s).inputs = s.inputs ∧ (groupLatched s).plant = s.plant ∧ (groupLatched s).track = s.track ∧
    (groupLatched s).dose = s.dose ∧ (groupLatched s).programmes = s.programmes ∧
    (groupLatched s).stations = s.stations ∧ (groupLatched s).merge = s.merge ∧
    (groupLatched s).directory = s.directory ∧ (groupLatched s).ret = s.ret ∧ (groupLatched s).profile = s.profile ∧
    (groupLatched s).link.transmitter = s.link.transmitter ∧ (groupLatched s).link.reply = s.link.reply ∧
    (groupLatched s).link.mask = s.link.mask := by
  simp [groupLatched, latchAtStart]

theorem groupLatched_interlock (s : State) : (groupLatched s).interlock = { s.interlock with
    live := startMembers s, snapshot := startMembers s, latched := true, count := 1, cause := .start } := by
  simp [groupLatched, latchAtStart, startMembers]

theorem enqueue_notices {n : Notice} {s : State} (hr : s.link.notices.length < 16) : (enqueue n s).link.notices =
    if n.enabled s.link.mask then placeNotice n s.link.notices else s.link.notices := by
  split
  · next he => rw [enqueue_of_room he hr]
  · next he => rw [enqueue_masked (by simpa using he)]

/-- With no INTERLOCK notice waiting, one is queued like any other. -/
theorem enqueueInterlock_eq_enqueue {n : Notice} {s : State} (ho : ∀ x ∈ s.link.notices, x.isInterlock = false) :
    enqueueInterlock n s = enqueue n s := by
  cases he : n.enabled s.link.mask with
  | true => exact enqueueInterlock_none he ho
  | false => rw [enqueue_masked he, enqueueInterlock, he, if_pos (by simp)]

/-- With an empty queue before, START_UP is the first notice and that of the latch the second. -/
theorem groupLatched_notices {s : State} (h : s.link.notices = []) : (groupLatched s).link.notices =
    startNotice s :: (if s.link.mask.getLsbD 1 then [startLatchNotice s] else []) := by
  have hs : (enqueue (startNotice s) { s with phase := .running, settle := .idle }).link.notices = [startNotice s] := by
    rw [enqueue_notices (by simp [h])]
    exact (if_pos rfl).trans (congrArg (placeNotice (startNotice s)) h)
  have hi : (groupLatched s).link.notices =
      if (startLatchNotice s).enabled s.link.mask then [startNotice s, startLatchNotice s] else [startNotice s] := by
    unfold groupLatched latchAtStart
    dsimp only
    rw [enqueueInterlock_eq_enqueue, enqueue_notices]
    · simp only [enqueue_frame, hs]
      rfl
    · simp [hs]
    · intro x hx
      have hx : x ∈ [startNotice s] := by rw [← hs]; exact hx
      rw [List.mem_singleton.mp hx]
      rfl
  have he : (startLatchNotice s).enabled s.link.mask = s.link.mask.getLsbD 1 := rfl
  rw [hi, he]
  split <;> rfl

/-! ### What the restart of the track leaves alone -/

@[simp] theorem motionResolved_frame (s : State) :
    (motionResolved s).phase = s.phase ∧ (motionResolved s).settle = s.settle ∧ (motionResolved s).resetKind = s.resetKind ∧
    (motionResolved s).inputs = s.inputs ∧ (motionResolved s).plant = s.plant ∧ (motionResolved s).dose = s.dose ∧
    (motionResolved s).programmes = s.programmes ∧ (motionResolved s).stations = s.stations ∧
    (motionResolved s).merge = s.merge ∧ (motionResolved s).interlock = s.interlock ∧
    (motionResolved s).profile = s.profile := by
  unfold motionResolved restartExtension resolveMotion fixPeriod
  (repeat' split) <;> simp

@[simp] theorem resolveCarried_frame (s : State) :
    (resolveCarried s).1.phase = s.phase ∧ (resolveCarried s).1.settle = s.settle ∧
    (resolveCarried s).1.resetKind = s.resetKind ∧ (resolveCarried s).1.inputs = s.inputs ∧
    (resolveCarried s).1.plant = s.plant ∧ (resolveCarried s).1.dose = s.dose ∧
    (resolveCarried s).1.programmes = s.programmes ∧ (resolveCarried s).1.interlock = s.interlock ∧
    (resolveCarried s).1.profile = s.profile := by
  unfold resolveCarried
  split <;> simp

/-- The track's restart is the resolved transfer, with the STATE notice where one is due. -/
theorem restartTrack_cases (s : State) : restartTrack s = (resolveCarried (motionResolved s)).1 ∨
    ∃ n, restartTrack s = enqueue n (resolveCarried (motionResolved s)).1 := by
  unfold restartTrack motionResolved
  dsimp only
  split
  · exact .inr ⟨_, rfl⟩
  · exact .inl rfl

/-- The blocks after the track's restart, but for the notices, are those of the resolved transfer. -/
@[simp] theorem restartTrack_parts (s : State) :
    (restartTrack s).stations = (resolveCarried (motionResolved s)).1.stations ∧
    (restartTrack s).merge = (resolveCarried (motionResolved s)).1.merge ∧
    (restartTrack s).directory = (resolveCarried (motionResolved s)).1.directory ∧
    (restartTrack s).ret = (resolveCarried (motionResolved s)).1.ret ∧
    (restartTrack s).phase = s.phase ∧ (restartTrack s).settle = s.settle ∧ (restartTrack s).resetKind = s.resetKind ∧
    (restartTrack s).inputs = s.inputs ∧ (restartTrack s).plant = s.plant ∧ (restartTrack s).dose = s.dose ∧
    (restartTrack s).programmes = s.programmes ∧ (restartTrack s).interlock = s.interlock ∧
    (restartTrack s).profile = s.profile := by
  rcases restartTrack_cases s with h | ⟨n, h⟩ <;> rw [h] <;> simp

theorem queues_restartTrack {s : State} (h : s.track.state = .off) : Queues 5 s (restartTrack s) := by
  have hr := (queues_motionResolved s).trans (queues_resolveCarried (motionResolved_resting h))
  rcases restartTrack_cases s with h | ⟨n, h⟩ <;> rw [h]
  · exact hr.mono (by omega)
  · exact hr.trans (queues_enqueue _ _)

/-- A resolved merge is idle, and a carried grant has ended. -/
theorem resolveCarried_idle {s : State} (h : s.track.state.evaluates = false) :
    (resolveCarried s).1.merge.state = .idle ∧ (s.merge.state ≠ .idle → (resolveCarried s).1.merge.grant = none) := by
  have completed {u : State} (hu : u.track.state.evaluates = false) :
      (completeTransfer u).merge.state = .idle ∧ (completeTransfer u).merge.grant = none := by
    cases hg : u.merge.grant with
    | none => rw [completeTransfer_none hg]; exact ⟨rfl, rfl⟩
    | some g =>
      cases g with
      | rewash r => rw [completeTransfer_rewash hu hg]; exact ⟨rfl, rfl⟩
      | spur n e k p => rw [completeTransfer_spur hu hg]; simp [mergeIdle]
  have dropped (u : State) : (dropTransfer u).merge.state = .idle ∧ (dropTransfer u).merge.grant = none := by
    simp [dropTransfer, mergeIdle]
  have hresolve : (resolveTransfer s).merge.state = .idle ∧ (resolveTransfer s).merge.grant = none := by
    unfold resolveTransfer
    split
    · exact completed h
    · exact dropped s
  unfold resolveCarried
  split
  · next hs => exact ⟨hs, fun hc => absurd hs hc⟩
  · exact ⟨hresolve.1, fun _ => hresolve.2⟩
  · exact ⟨hresolve.1, fun _ => hresolve.2⟩
  · have hj : (settleJam s).1.merge.state = .idle ∧ (settleJam s).1.merge.grant = none := by
      unfold settleJam
      dsimp only
      split
      · exact ⟨rfl, rfl⟩
      · split
        · exact completed (u := emptyTags s) h
        · split
          · exact dropped _
          · split
            · exact dropped _
            · simp [mergeIdle]
    exact ⟨hj.1, fun _ => hj.2⟩

/-- The track after a motion has been resolved (R31). -/
theorem motionResolved_track (s : State) : (motionResolved s).track =
    if s.track.motion = .none then (restartExtension (fixPeriod s)).track
    else if s.plant.index then (completeMotion (restartExtension (fixPeriod s))).track
    else { (restartExtension (fixPeriod s)).track with state := .stopped, motion := .interrupted } := by
  have hs : (restartExtension (fixPeriod s)).track.motion = s.track.motion ∧
      (restartExtension (fixPeriod s)).plant = s.plant := by
    unfold restartExtension
    split <;> exact ⟨rfl, rfl⟩
  rw [motionResolved, resolveMotion_track, hs.1, hs.2]

end Sys2Proof.Machine
end

section
namespace Sys2Proof.Machine
open Sys2Proof

/-! ### The stages of the end of a start-up -/

@[simp] theorem trackRestarted_frame (s : State) :
    (trackRestarted s).phase = .running ∧ (trackRestarted s).settle = .idle ∧ (trackRestarted s).resetKind = s.resetKind ∧
    (trackRestarted s).inputs = s.inputs ∧ (trackRestarted s).plant = s.plant ∧ (trackRestarted s).dose = s.dose ∧
    (trackRestarted s).programmes = s.programmes ∧ (trackRestarted s).profile = s.profile ∧
    (trackRestarted s).interlock = (groupLatched s).interlock := by
  rw [trackRestarted_eq]
  split <;> simp

@[simp] theorem headsRead_frame (s : State) :
    (headsRead s).phase = .running ∧ (headsRead s).settle = .idle ∧ (headsRead s).resetKind = s.resetKind ∧
    (headsRead s).inputs = s.inputs ∧ (headsRead s).plant = s.plant ∧ (headsRead s).dose = s.dose ∧
    (headsRead s).programmes = s.programmes ∧ (headsRead s).profile = s.profile ∧
    (headsRead s).interlock = (groupLatched s).interlock ∧ (headsRead s).track = (trackRestarted s).track ∧
    (headsRead s).merge = (trackRestarted s).merge ∧ (headsRead s).link = (trackRestarted s).link ∧
    (headsRead s).ret = { (trackRestarted s).ret with conveyor := !s.inputs.estopOpen } := by
  simp [headsRead, groupLatched_interlock, startMembers]

theorem headsRead_get (s : State) (n : Quad) : (headsRead s).stations.get n = { (trackRestarted s).stations.get n with
    spur := readQueue s.profile.values s.plant n ((trackRestarted s).stations.get n).spur } := by
  have hprofile : (trackRestarted s).profile = s.profile := by simp
  have hplant : (trackRestarted s).plant = s.plant := by simp
  unfold headsRead
  generalize trackRestarted s = t at hprofile hplant ⊢
  dsimp only
  rw [readSpurHeads_get, hprofile, hplant]

theorem headsRead_directory_of_clear {s : State} (h : ∀ n, s.plant.spurHead.get n = false) :
    (headsRead s).directory = (trackRestarted s).directory := by
  have := readSpurHeads_of_clear (s := trackRestarted s) (by simpa using h)
  unfold headsRead
  rw [this]

theorem returnRestarted_of_warm {s : State} (h : s.resetKind = .warm) :
    returnRestarted s = restartReturn (headsRead s) := by
  simp [returnRestarted, h]

theorem returnRestarted_of_not_warm {s : State} (h : s.resetKind ≠ .warm) :
    returnRestarted s = strayAtStart (headsRead s) := by
  simp [returnRestarted, h]

/-- The return takes up its work beside the other parts. -/
@[simp] theorem returnRestarted_frame (s : State) :
    (returnRestarted s).phase = .running ∧ (returnRestarted s).settle = .idle ∧ (returnRestarted s).plant = s.plant ∧
    (returnRestarted s).dose = s.dose ∧ (returnRestarted s).programmes = s.programmes ∧
    (returnRestarted s).profile = s.profile ∧ (returnRestarted s).interlock = (groupLatched s).interlock ∧
    (returnRestarted s).merge = (trackRestarted s).merge := by
  by_cases h : s.resetKind = .warm
  · rw [returnRestarted_of_warm h]
    rcases restartReturn_cases (headsRead s) with h | ⟨x, h⟩ <;> rw [h] <;> simp
  · rw [returnRestarted_of_not_warm h]
    unfold strayAtStart
    split <;> simp

/-- The warm restart of the return from the parts as they stand: a prompt, for a resting track. -/
theorem prompted_timersRestarted {s : State} (h : s.track.state = .off) :
    Prompted (timersRestarted (headsRead s)) (prompt (timersRestarted (headsRead s))) :=
  prompted_prompt (by simpa using trackRestarted_resting h)

theorem queues_trackRestarted {s : State} (h : s.track.state = .off) : Queues 5 (groupLatched s) (trackRestarted s) := by
  rw [trackRestarted_eq]
  split
  · exact queues_restartTrack (by simpa using h)
  · exact .of_link rfl 5

/-- The restart of the return queues one notice at most. -/
theorem queues_returnTaken {s : State} (h : s.track.state = .off) : Queues 1 (trackRestarted s) (returnRestarted s) := by
  by_cases hw : s.resetKind = .warm
  · have hp : Queues 0 (trackRestarted s) (prompt (timersRestarted (headsRead s))) :=
      Queues.of_link ((prompted_timersRestarted h).link.trans (by simp)) 0
    rw [returnRestarted_of_warm hw]
    rcases restartReturn_cases (headsRead s) with hr | ⟨x, hr⟩ <;> rw [hr]
    · exact hp.mono (by omega)
    · exact hp.trans (queues_enqueue _ _)
  · have hr : Queues 0 (trackRestarted s) (headsRead s) := .of_link (by simp) 0
    rw [returnRestarted_of_not_warm hw]
    unfold strayAtStart reportStray
    split
    · exact hr.trans (queues_enqueue _ _)
    · exact hr.mono (by omega)

theorem queues_returnRestarted {s : State} (h : s.track.state = .off) : Queues 6 (groupLatched s) (returnRestarted s) :=
  (queues_trackRestarted h).trans (queues_returnTaken h)

/-- The part after the whole command, block by block. -/
theorem conclude_endStartUp (b : State) {s : State} (h : s.track.state = .off) :
    let t := conclude b (endStartUp s)
    t.phase = .running ∧ t.settle = .idle ∧ t.plant = s.plant ∧ t.programmes = s.programmes ∧ t.profile = s.profile ∧
      t.track = (trackRestarted s).track ∧ t.stations = (returnRestarted s).stations ∧ t.ret = (returnRestarted s).ret ∧
      t.directory = (returnRestarted s).directory ∧
      t.merge = { (trackRestarted s).merge with retest := s.resetKind == .warm } ∧
      t.interlock = { (groupLatched s).interlock with idle := .idle } ∧
      t.dose = { s.dose with cycle := .running 25, converter := .convertingA, pendingA := none } ∧
      t.link = (chooseMessage (returnRestarted s)).link := by
  have htrack := endStartUp_track h
  have hu := endStartUp_eq s
  have hr := returnRestarted_frame s
  obtain ⟨hphase, -, -, -, -, -, hilk, hmerge⟩ := hr
  have hrun : (endStartUp s).phase = .running := by rw [hu]; exact hphase
  have hrest : (endStartUp s).track.state.evaluates = false := by rw [htrack]; exact trackRestarted_resting h
  obtain ⟨h1, h2, h3, h4, h5, h6⟩ := conclude_resting_frame (b := b) hrun hrest
  refine ⟨by simpa using hrun, ?_, ?_, ?_, ?_, h1.trans htrack, ?_, ?_, ?_, ?_, ?_, ?_, ?_⟩
  · rw [conclude_of_not_evaluates hrun hrest, hu]; simp [startSample]
  · rw [conclude_of_not_evaluates hrun hrest, hu]; simp [startSample]
  · rw [conclude_of_not_evaluates hrun hrest, hu]; simp [startSample]
  · rw [conclude_of_not_evaluates hrun hrest, hu]; simp [startSample]
  · rw [h4, hu]; rfl
  · rw [h3, hu]; rfl
  · rw [h5, hu]; rfl
  · rw [h2, hu, ← hmerge]; rfl
  · rw [h6, hu, ← hilk]; rfl
  · rw [conclude_of_not_evaluates hrun hrest, hu]; simp [startSample, Config.sampleCycle, Timer.preset]
  · rw [conclude_of_not_evaluates hrun hrest, hu]
    exact chooseMessage_link_congr rfl

end Sys2Proof.Machine
end

section
namespace Sys2Proof.Machine
open Sys2Proof

/-! ### The notices of a start-up -/

/-- The transmitter takes the first notice when it is idle and no reply waits, and otherwise leaves the queue (R185). -/
theorem chooseMessage_first {s : State} {x : Notice} (h : s.link.notices.head? = some x) :
    (s.link.transmitter = .idle ∧ s.link.reply = none → (chooseMessage s).link.transmitter = .notice x ∧
      (chooseMessage s).link.notices = s.link.notices.tail) ∧
    (¬ (s.link.transmitter = .idle ∧ s.link.reply = none) → (chooseMessage s).link.notices = s.link.notices) := by
  unfold chooseMessage
  split
  · next hr => exact ⟨fun hs => (by rw [hr] at hs; cases hs.2), fun _ => rfl⟩
  · next ht hr hn =>
    rw [hn, List.head?_cons, Option.some.injEq] at h
    rw [hn, h]
    exact ⟨fun _ => ⟨rfl, rfl⟩, fun hs => absurd ⟨ht, hr⟩ hs⟩
  · next ho =>
    obtain ⟨q, hq⟩ := List.head?_eq_some_iff.mp h
    exact ⟨fun hs => absurd hq (ho x q hs.1 hs.2), fun _ => rfl⟩

/-- A notice that waits behind the first still waits when a message has been chosen. -/
theorem mem_chooseMessage_of_ne {s : State} {x m : Notice} (h : s.link.notices.head? = some x)
    (hm : m ∈ s.link.notices) (hne : m ≠ x) : m ∈ (chooseMessage s).link.notices := by
  obtain ⟨hsent, hkept⟩ := chooseMessage_first h
  obtain ⟨q, hq⟩ := List.head?_eq_some_iff.mp h
  by_cases hs : s.link.transmitter = .idle ∧ s.link.reply = none
  · rw [(hsent hs).2, hq, List.tail_cons]
    exact (List.mem_cons.mp (hq ▸ hm)).resolve_left hne
  · rwa [hkept hs]

theorem groupLatched_length {s : State} (h : s.link.notices = []) : (groupLatched s).link.notices.length ≤ 2 := by
  rw [groupLatched_notices h]
  split <;> simp

/-- START_UP stays at the head of the queue to the end of the start-up. -/
theorem returnRestarted_first {s : State} (hoff : s.track.state = .off) (h : s.link.notices = []) :
    (returnRestarted s).link.notices.head? = some (startNotice s) := by
  have hl := groupLatched_length h
  refine (queues_returnRestarted hoff).head (by omega) _ ?_ rfl
  rw [groupLatched_notices h]
  rfl

/-- What waits after the return's restart, beside START_UP, waits at the end of the command. -/
theorem mem_conclude_endStartUp {b s : State} {m : Notice} (hoff : s.track.state = .off) (h : s.link.notices = [])
    (hm : m ∈ (returnRestarted s).link.notices) (hne : m ≠ startNotice s) :
    m ∈ (conclude b (endStartUp s)).link.notices := by
  obtain ⟨-, -, -, -, -, -, -, -, -, -, -, -, hlink⟩ := conclude_endStartUp b hoff
  rw [hlink]
  exact mem_chooseMessage_of_ne (returnRestarted_first hoff h) hm hne

/-- The notices at the end of a power-on or cold start-up. -/
theorem coldStart_notices {s : State} (hw : s.resetKind ≠ .warm) (h : s.link.notices = []) :
    (returnRestarted s).link.notices = startNotice s :: ((if s.link.mask.getLsbD 1 then [startLatchNotice s] else []) ++
      (if s.inputs.arrival ∧ s.ret.transit = [] ∧ s.link.mask.getLsbD 2 then
        [.fault (.strayRack s.ret.inspections s.ret.surplus.length)] else [])) := by
  have htrack : trackRestarted s = groupLatched s := by rw [trackRestarted_eq, if_neg hw]
  have hn : (headsRead s).link.notices = startNotice s :: (if s.link.mask.getLsbD 1 then [startLatchNotice s] else []) := by
    simp only [headsRead_frame, htrack, groupLatched_notices h]
  have hmask : (headsRead s).link.mask = s.link.mask := by simp [htrack]
  have hret : (headsRead s).ret.transit = s.ret.transit ∧ (headsRead s).ret.inspections = s.ret.inspections ∧
      (headsRead s).ret.surplus = s.ret.surplus := by simp [htrack]
  obtain ⟨htransit, hins, hsur⟩ := hret
  have harrival : (headsRead s).inputs.arrival = s.inputs.arrival := by simp
  rw [returnRestarted_of_not_warm hw, strayAtStart, harrival, htransit]
  by_cases ha : s.inputs.arrival = true ∧ s.ret.transit = []
  · have he : (Notice.fault (.strayRack s.ret.inspections s.ret.surplus.length)).enabled s.link.mask =
        s.link.mask.getLsbD 2 := rfl
    rw [if_pos ha, reportStray, enqueue_notices (by rw [hn]; split <;> simp), hins, hsur, hmask, he, hn]
    cases s.link.mask.getLsbD 1 <;> cases s.link.mask.getLsbD 2 <;> simp only [ha.1, ha.2] <;> rfl
  · have hn' : ¬ (s.inputs.arrival = true ∧ s.ret.transit = [] ∧ s.link.mask.getLsbD 2 = true) := fun hx => ha ⟨hx.1, hx.2.1⟩
    rw [if_neg ha, if_neg hn', hn, List.append_nil]

/-! ### O52 -/

theorem exec_endOfStartUp_settling {s : State} {p : Plant} (h : s.phase = .settling) :
    exec (.endOfStartUp p) s = .next (conclude s (endStartUp (s.sense p))) :=
  congrArg Host.Outcome.next (if_pos h)

theorem exec_endOfStartUp_otherwise {s : State} {p : Plant} (h : s.phase ≠ .settling) :
    exec (.endOfStartUp p) s = .next { s with plant := p } :=
  congrArg Host.Outcome.next (if_neg h)

/-- The track after a warm start-up: in STOPPED with the interrupted mark, or at rest with no motion (R31). -/
theorem warmStart_track {s : State} (hw : s.resetKind = .warm) (hoff : s.track.state = .off) :
    (trackRestarted s).track.state = (if s.track.motion ≠ .none ∧ s.plant.index = false then .stopped else .off) ∧
    (trackRestarted s).track.motion = (if s.track.motion ≠ .none ∧ s.plant.index = false then .interrupted else .none) ∧
    (s.track.extension = .idle → (trackRestarted s).track.extension = .idle) ∧
    (trackRestarted s).track.runEnable = s.track.runEnable := by
  have hrest := motionResolved_resting (s := groupLatched s) (by simpa using hoff)
  have hext (t : State) : (restartExtension (fixPeriod t)).track.state = t.track.state ∧
      (restartExtension (fixPeriod t)).track.motion = t.track.motion ∧
      (t.track.extension = .idle → (restartExtension (fixPeriod t)).track.extension = .idle) ∧
      (restartExtension (fixPeriod t)).track.runEnable = t.track.runEnable := by
    unfold restartExtension fixPeriod
    split
    · exact ⟨rfl, rfl, fun h => h, rfl⟩
    · next hne => exact ⟨rfl, rfl, fun h => absurd h hne, rfl⟩
  obtain ⟨hs, hm, he, hr⟩ := hext (groupLatched s)
  simp only [groupLatched_frame] at hs hm he hr
  rw [trackRestarted_eq, if_pos hw, restartTrack_track, resolveCarried_track hrest, motionResolved_track]
  simp only [groupLatched_frame]
  by_cases hn : s.track.motion = .none
  · simp only [hn, if_true, ne_eq, not_true_eq_false, false_and, if_false]
    exact ⟨hs.trans hoff, hm.trans hn, he, hr⟩
  · cases hi : s.plant.index with
    | true =>
      simp only [hn, if_false, if_true, and_false, Bool.true_eq_false, completeMotion_track]
      exact ⟨hs.trans hoff, trivial, he, hr⟩
    | false =>
      simp only [hn, if_false, ne_eq, not_false_eq_true, and_self, if_true, Bool.false_eq_true]
      exact ⟨trivial, trivial, he, hr⟩

/-- The merge after a warm start-up: idle, and with no grant where one was carried (R109). -/
theorem warmStart_merge {s : State} (hw : s.resetKind = .warm) (hoff : s.track.state = .off) :
    (trackRestarted s).merge.state = .idle ∧ (s.merge.state ≠ .idle → (trackRestarted s).merge.grant = none) := by
  have h := resolveCarried_idle (motionResolved_resting (s := groupLatched s) (by simpa using hoff))
  rw [trackRestarted_eq, if_pos hw]
  simpa using h

theorem coldStart_ret {s : State} (hw : s.resetKind ≠ .warm) :
    (returnRestarted s).ret = { s.ret with conveyor := !s.inputs.estopOpen } := by
  have htrack : trackRestarted s = groupLatched s := by rw [trackRestarted_eq, if_neg hw]
  rw [returnRestarted_of_not_warm hw]
  unfold strayAtStart
  split <;> simp [htrack]

theorem coldStart_stations {s : State} (hw : s.resetKind ≠ .warm) (n : Quad) : (returnRestarted s).stations.get n =
    { s.stations.get n with spur := readQueue s.profile.values s.plant n (s.stations.get n).spur } := by
  have htrack : trackRestarted s = groupLatched s := by rw [trackRestarted_eq, if_neg hw]
  have hs : (returnRestarted s).stations = (headsRead s).stations := by
    rw [returnRestarted_of_not_warm hw]
    unfold strayAtStart
    split <;> simp
  rw [hs, headsRead_get, htrack]
  simp only [groupLatched_frame]

/-- The return after a warm start-up, for the parts that a prompt leaves alone (R151). -/
theorem warmStart_prompted {s : State} (hw : s.resetKind = .warm) (hoff : s.track.state = .off) :
    ∃ t, Prompted (timersRestarted (headsRead s)) t ∧ (returnRestarted s).ret = t.ret ∧
      (returnRestarted s).stations = t.stations ∧ (returnRestarted s).directory = t.directory ∧
      t = prompt (timersRestarted (headsRead s)) := by
  refine ⟨_, prompted_timersRestarted hoff, ?_, ?_, ?_, rfl⟩ <;> rw [returnRestarted_of_warm hw] <;>
    rcases restartReturn_cases (headsRead s) with h | ⟨x, h⟩ <;> rw [h] <;> simp

theorem returnRestarted_conveyor {s : State} (hoff : s.track.state = .off) :
    (returnRestarted s).ret.conveyor = !s.inputs.estopOpen := by
  by_cases hw : s.resetKind = .warm
  · obtain ⟨t, hp, hret, -⟩ := warmStart_prompted hw hoff
    rw [hret, hp.conveyor, timersRestarted_ret]
    simp
  · rw [coldStart_ret hw]

theorem warmStart_spacing {s : State} (hw : s.resetKind = .warm) (hoff : s.track.state = .off) :
    (returnRestarted s).ret.spacing = .running 300 := by
  obtain ⟨t, hp, hret, -⟩ := warmStart_prompted hw hoff
  rw [hret]
  exact hp.spacing (by rw [timersRestarted_ret]; rfl)

/-- Settles O52. -/
theorem startUpEndsForEveryBlock : Obligations.StartUpEndsForEveryBlock := by
  refine fun s p => ⟨exec_endOfStartUp_otherwise, fun hs hoff hrun hn => ?_⟩
  obtain ⟨hphase, hsettle, hplant, hprog, hprof, htrack, hstations, hret, -, hmerge, hilk, hdose, hlink⟩ :=
    conclude_endStartUp s (s := s.sense p) hoff
  have hfirst := returnRestarted_first (s := s.sense p) hoff hn
  obtain ⟨hsent, hkept⟩ := chooseMessage_first hfirst
  have hq := queues_returnRestarted (s := s.sense p) hoff
  have htransmitter : (returnRestarted (s.sense p)).link.transmitter = s.link.transmitter := by
    rw [hq.transmitter]; simp
  have hreply : (returnRestarted (s.sense p)).link.reply = s.link.reply := by
    rw [hq.reply]; simp
  rw [htransmitter, hreply] at hsent hkept
  refine ⟨_, exec_endOfStartUp_settling hs, hphase, hsettle, hplant, fun h => ?_, fun h => ?_, ?_, hdose, ?_, hprog, hprof,
    fun hw => ?_, fun hm => ?_, fun hw => ?_, fun hw => ?_⟩
  · rw [hlink]; exact (hsent h).1
  · rw [hlink, hkept h]; exact hfirst
  · rw [hilk, groupLatched_interlock]; rfl
  · rw [hret]; exact returnRestarted_conveyor (s := s.sense p) hoff
  · have hlive : (conclude s (endStartUp (s.sense p))).interlock.live = startMembers s := by
      rw [hilk, groupLatched_interlock]; rfl
    rw [hlink, hlive]
    have hcold := coldStart_notices (s := s.sense p) hw hn
    by_cases hx : s.link.transmitter = .idle ∧ s.link.reply = none
    · rw [(hsent hx).2, hcold, if_pos hx]; rfl
    · rw [hkept hx, hcold, if_neg hx]; rfl
  · have hlive : (conclude s (endStartUp (s.sense p))).interlock.live = startMembers s := by
      rw [hilk, groupLatched_interlock]; rfl
    rw [hlive]
    have hlatched : startLatchNotice (s.sense p) ∈ (groupLatched (s.sense p)).link.notices := by
      rw [groupLatched_notices (by exact hn), if_pos (by exact hm)]
      exact List.mem_cons_of_mem _ List.mem_cons_self
    have hroom := groupLatched_length (s := s.sense p) hn
    exact mem_conclude_endStartUp (s := s.sense p) hoff hn (hq.kept (by omega) hlatched) nofun
  · have hcold : trackRestarted (s.sense p) = groupLatched (s.sense p) := by
      exact (trackRestarted_eq _).trans (if_neg hw)
    refine ⟨?_, ?_, ?_, fun n hspur => ?_⟩
    · rw [htrack, hcold]; simp
    · rw [hret, coldStart_ret (s := s.sense p) hw]; rfl
    · rw [hmerge, hcold]; simp [hw]
    · rw [hstations, coldStart_stations (s := s.sense p) hw]
      simp only [State.sense_stations, hspur, readQueue]
      rfl
  · obtain ⟨h1, h2, h3, h4⟩ := warmStart_track (s := s.sense p) hw hoff
    obtain ⟨h5, h6⟩ := warmStart_merge (s := s.sense p) hw hoff
    rw [htrack, hmerge, hret]
    exact ⟨h1, h2, h5, h6, by simp [hw], warmStart_spacing hw hoff, h3, h4.trans hrun⟩

end Sys2Proof.Machine
end

section
namespace Sys2Proof.Machine
open Sys2Proof

/-! ## The end of a warm start-up -/

/-! ### The carried motion -/

/-- A carried motion whose index is made. -/
def motionMade (s : State) : Prop := s.track.motion ≠ .none ∧ s.plant.index = true

/-- The period fixed and the extension timer preset, before the motion is resolved (R31, steps 1 and 2). -/
theorem restartExtension_fixPeriod (s : State) : restartExtension (fixPeriod s) = { s with track := { s.track with
    period := periodOf s, stepTimer := .preset (periodOf s * 10),
    extension := if s.track.extension = .idle then .idle
      else extensionPreset (((s.track.f2.bind (·.programme)).map (·.limit)).getD 0) } } := by
  unfold restartExtension
  split
  · next h =>
    have h : s.track.extension = .idle := h
    rw [if_pos h, ← h]
    rfl
  · next h => rw [if_neg (by exact h)]; rfl

theorem motionResolved_of_made {s : State} (h : motionMade s) :
    motionResolved s = completeMotion (restartExtension (fixPeriod s)) := by
  have hm : (restartExtension (fixPeriod s)).track.motion ≠ .none := by rw [restartExtension_fixPeriod]; exact h.1
  have hi : (restartExtension (fixPeriod s)).plant.index = true := by rw [restartExtension_fixPeriod]; exact h.2
  rw [motionResolved, resolveMotion, if_neg hm, if_pos hi]

/-- The track after a motion that completes: the period is the one its records fix (R31, R15). -/
theorem motionResolved_track_of_made {s : State} (h : motionMade s) : (motionResolved s).track = { s.track with
    positions := movedRecords s.track.positions s.plant.exitEye, chainDrive := false, rewashGate := false,
    motionTimer := .idle, motion := .none, stepDue := false, period := periodOf (motionResolved s),
    stepTimer := .running (10 * periodOf (motionResolved s)),
    extension := if s.track.extension = .idle then .idle
      else extensionPreset (((s.track.f2.bind (·.programme)).map (·.limit)).getD 0) } := by
  rw [motionResolved_of_made h, ← preset_tenths]
  generalize hu : restartExtension (fixPeriod s) = u
  rw [restartExtension_fixPeriod] at hu
  rw [completeMotion_track]
  generalize periodOf (completeMotion u) = d
  rw [← hu]

theorem motionResolved_ret_of_made {s : State} (h : motionMade s) : (motionResolved s).ret = { s.ret with
    cleanEnd := s.ret.cleanEnd ++ handedClean s.track.positions[16],
    lane := s.ret.lane ++ handedLane s.track.positions[16] } := by
  rw [motionResolved_of_made h, completeMotion_ret, handedRet_eq, restartExtension_fixPeriod]

theorem motionResolved_directory_of_made {s t : State} (h : motionMade s) (hd : s.directory = t.directory) :
    (motionResolved s).directory = match s.track.positions[15], s.plant.exitEye with
      | some r, false => if r.tracked then (sendUnpin r.id .unknown (handedTo s.track.positions[16] t)).directory
          else (handedTo s.track.positions[16] t).directory
      | _, _ => (handedTo s.track.positions[16] t).directory := by
  rw [motionResolved_of_made h]
  generalize hu : restartExtension (fixPeriod s) = u
  rw [restartExtension_fixPeriod] at hu
  have hpositions : u.track.positions = s.track.positions := by rw [← hu]
  have hplant : u.plant = s.plant := by rw [← hu]
  have hdirectory := completeMotion_directory (s := u) (t := t) (by rw [← hu]; exact hd)
  rw [hpositions, hplant] at hdirectory
  exact hdirectory

/-- A motion that is not completed leaves every record, queue and entry (R31). -/
theorem motionResolved_of_not_made {s : State} (h : ¬ motionMade s) : motionResolved s = { s with track := { s.track with
    period := periodOf s, stepTimer := .preset (periodOf s * 10),
    extension := if s.track.extension = .idle then .idle
      else extensionPreset (((s.track.f2.bind (·.programme)).map (·.limit)).getD 0),
    state := if s.track.motion = .none then s.track.state else .stopped,
    motion := if s.track.motion = .none then .none else .interrupted } } := by
  rw [motionResolved, resolveMotion, restartExtension_fixPeriod]
  by_cases hm : s.track.motion = .none
  · simp only [hm, if_true]
  · have hi : ¬ s.plant.index = true := fun hi => h ⟨hm, hi⟩
    rw [if_neg hm, if_neg hi, if_neg hm, if_neg hm]

/-- The period in force is the one that the records fix in the end, and the step timer runs with it (R6, R31). -/
theorem motionResolved_period (s : State) : (motionResolved s).track.period = periodOf (motionResolved s) ∧
    (motionResolved s).track.stepTimer = .running (10 * periodOf (motionResolved s)) := by
  by_cases h : motionMade s
  · rw [motionResolved_track_of_made h]
    exact ⟨rfl, rfl⟩
  · have hp : periodOf (motionResolved s) = periodOf s :=
      periodOf_congr (fun i _ _ _ => by rw [motionResolved_of_not_made h]) (by simp)
    rw [hp, ← preset_tenths, motionResolved_of_not_made h]
    exact ⟨rfl, rfl⟩

theorem motionResolved_extension (s : State) : (motionResolved s).track.extension =
    if s.track.extension = .idle then .idle
    else extensionPreset (((s.track.f2.bind (·.programme)).map (·.limit)).getD 0) := by
  by_cases h : motionMade s
  · rw [motionResolved_track_of_made h]
  · rw [motionResolved_of_not_made h]

/-! ### What a resolved transfer leaves alone -/

/-- From `s` to `t` a transfer has been resolved: the records but that at position 0 stand, so do the queues of the return but
the lane and surplus, and so do the deliveries. -/
structure TransferKept (s t : State) : Prop where
  positions : ∀ i : Fin 17, i ≠ 0 → t.track.positions[i] = s.track.positions[i]
  ret : t.ret = { s.ret with lane := t.ret.lane, surplus := t.ret.surplus }
  deliveries : ∀ n, (t.stations.get n).deliveries = (s.stations.get n).deliveries

theorem TransferKept.trans {s t u : State} (h : TransferKept s t) (h' : TransferKept t u) : TransferKept s u where
  positions i hi := (h'.positions i hi).trans (h.positions i hi)
  ret := by rw [h'.ret, h.ret]
  deliveries n := (h'.deliveries n).trans (h.deliveries n)

/-- The operation that follows, and then what came before it. -/
theorem TransferKept.after {s t u : State} (h' : TransferKept t u) (h : TransferKept s t) : TransferKept s u := h.trans h'

theorem TransferKept.of_parts {s t : State} (positions : t.track.positions = s.track.positions) (ret : t.ret = s.ret)
    (stations : t.stations = s.stations) : TransferKept s t :=
  ⟨fun _ _ => by rw [positions], by rw [ret], fun _ => by rw [stations]⟩

/-- A write to one station that keeps its deliveries. -/
theorem transferKept_setStation {s : State} {n : Quad} {u : StationUnit} (h : u.deliveries = (s.stations.get n).deliveries) :
    TransferKept s (s.setStation n u) := by
  refine ⟨fun _ _ => rfl, rfl, fun m => ?_⟩
  rw [State.setStation_stations, Four.get_set]
  split
  · next he => rw [he, h]
  · rfl

theorem transferKept_forgetId (g : Quad) (id : RackId) (x : Holder) (s : State) : TransferKept s (forgetId g id x s) := by
  unfold forgetId
  split
  · exact transferKept_setStation rfl
  · exact transferKept_setStation rfl
  · exact transferKept_setStation rfl
  · exact ⟨fun _ _ => rfl, rfl, fun _ => rfl⟩
  · exact .of_parts rfl rfl rfl

theorem transferKept_presenceCheck (n : Quad) (id : RackId) (o : IdSource) (v : Bool) (s : State) :
    TransferKept s (presenceCheck n id o v s).state := by
  unfold presenceCheck
  split
  · exact .of_parts rfl rfl rfl
  · split
    · exact .of_parts rfl rfl rfl
    · split
      · exact transferKept_forgetId ..
      · exact .of_parts rfl rfl rfl

theorem transferKept_readSpurHead (n : Quad) (s : State) : TransferKept s (readSpurHead n s) := by
  refine ⟨by simp, by simp, fun m => ?_⟩
  rw [readSpurHead_get]
  split
  · next he => rw [he]
  · rfl

theorem transferKept_position0 (r : Option TrackRecord) (s : State) : TransferKept s (s.setPosition 0 r) :=
  ⟨fun i hi => Vector.getElem_set_ne (i := (0 : Fin 17)) (Fin.isLt _) i.isLt fun he => hi (Fin.ext he.symm), rfl,
    fun _ => rfl⟩

theorem transferKept_mergeIdle (s : State) : TransferKept s (mergeIdle s) := .of_parts rfl rfl rfl

theorem transferKept_stopPusher (s : State) : TransferKept s (stopPusher s) := .of_parts rfl rfl rfl

theorem transferKept_emptyTags (s : State) : TransferKept s (emptyTags s) := .of_parts rfl rfl rfl

theorem transferKept_enqueueAll (ns : List Notice) (s : State) : TransferKept s (enqueueAll ns s) :=
  .of_parts (by simp) (by simp) (by simp)

theorem transferKept_sendAdmission (n : Quad) (x e : RackId) (k : Kind) (s : State) :
    TransferKept s (sendAdmission n x e k s).1 := .of_parts (by simp) (by simp) (by simp)

theorem transferKept_removeHead (n : Quad) (s : State) : TransferKept s (removeHead n s) := transferKept_setStation rfl

theorem transferKept_completeSpur (n : Quad) (e : RackId) (k : Kind) (p : Snapshot) (s : State) :
    TransferKept s (completeSpur n e k p s) := by
  unfold completeSpur
  dsimp only
  refine (transferKept_enqueueAll _ _).after ?_
  refine (transferKept_removeHead _ _).after ?_
  refine (transferKept_position0 _ _).after ?_
  refine (transferKept_sendAdmission _ _ _ _ _).after ?_
  exact transferKept_presenceCheck ..

theorem transferKept_completeRewash (s : State) : TransferKept s (completeRewash s) := by
  unfold completeRewash
  split
  · next r rest _ =>
    have hplaced (t : State) (ht : TransferKept s t) :
        TransferKept s { t.setPosition 0 (some (reentered r)) with ret := { t.ret with lane := rest } } :=
      (ht.trans (transferKept_position0 _ t)).trans ⟨fun _ _ => rfl, rfl, fun _ => rfl⟩
    dsimp only
    split
    · exact hplaced _ (.of_parts (by simp) (by simp) (by simp))
    · exact hplaced _ (.of_parts rfl rfl rfl)
  · exact .of_parts rfl rfl rfl

theorem transferKept_completeTransfer {s : State} (h : s.track.state.evaluates = false) :
    TransferKept s (completeTransfer s) := by
  cases hg : s.merge.grant with
  | none => rw [completeTransfer_none hg]; exact .of_parts rfl rfl rfl
  | some g =>
    cases g with
    | rewash r =>
      rw [completeTransfer_rewash h hg]
      exact ((transferKept_stopPusher s).trans (transferKept_completeRewash _)).trans (transferKept_mergeIdle _)
    | spur n e k p =>
      rw [completeTransfer_spur h hg]
      refine (transferKept_readSpurHead _ _).after ?_
      exact ((transferKept_stopPusher s).trans (transferKept_completeSpur n e k p _)).trans (transferKept_mergeIdle _)

theorem transferKept_dropTransfer (s : State) : TransferKept s (dropTransfer s) := by
  unfold dropTransfer readGranted
  split
  · refine (transferKept_readSpurHead _ _).after ?_
    exact .of_parts rfl rfl rfl
  · exact .of_parts rfl rfl rfl

/-! ### How a carried transfer is resolved -/

/-- The part with the tags of a jam discarded (R99). -/
def jamCleared (s : State) : State := if s.merge.state = .jammed then emptyTags s else s

theorem jamCleared_eq (s : State) : jamCleared s = s ∨ jamCleared s = emptyTags s := by
  unfold jamCleared
  split
  · exact .inr rfl
  · exact .inl rfl

@[simp] theorem jamCleared_frame (s : State) :
    (jamCleared s).track = s.track ∧ (jamCleared s).stations = s.stations ∧ (jamCleared s).ret = s.ret ∧
    (jamCleared s).directory = s.directory ∧ (jamCleared s).plant = s.plant ∧ (jamCleared s).profile = s.profile ∧
    (jamCleared s).merge.grant = s.merge.grant := by
  rcases jamCleared_eq s with h | h <;> rw [h] <;> simp [emptyTags]

theorem resolveCarried_of_idle {s : State} (h : s.merge.state = .idle) : resolveCarried s = (s, none) := by
  simp [resolveCarried, h]

/-- With position 0 made a carried grant is completed (R98, R99, R109). -/
theorem resolveCarried_completed {s : State} {g : Grant} (hc : s.merge.state ≠ .idle) (hg : s.merge.grant = some g)
    (hp : s.plant.position0 = true) : (resolveCarried s).1 = completeTransfer (jamCleared s) := by
  unfold resolveCarried jamCleared
  cases hs : s.merge.state with
  | idle => exact absurd hs hc
  | transferring => exact if_pos hp
  | interrupted => exact if_pos hp
  | jammed => exact congrArg Prod.fst (settleJam_completed hg hp)

/-- With position 0 clear it is dropped, but for a jammed spur grant whose head sensor is clear. -/
theorem resolveCarried_dropped {s : State} {g : Grant} (hc : s.merge.state ≠ .idle) (hg : s.merge.grant = some g)
    (hp : s.plant.position0 = false)
    (hl : s.merge.state = .jammed → ∀ n e k q, g = .spur n e k q → s.plant.spurHead.get n = true) :
    (resolveCarried s).1 = dropTransfer (jamCleared s) := by
  unfold resolveCarried jamCleared
  cases hs : s.merge.state with
  | idle => exact absurd hs hc
  | transferring => exact if_neg (by simp [hp])
  | interrupted => exact if_neg (by simp [hp])
  | jammed =>
    simp only [if_true]
    cases g with
    | rewash r => simp [settleJam, hg, hp]
    | spur n e k q => simp [settleJam, hg, hp, hl hs n e k q rfl]

/-- A jammed spur grant with both sensors clear loses its head (R99). -/
theorem resolveCarried_lost {s : State} {n : Quad} {e : RackId} {k : Kind} {q : Snapshot} (hs : s.merge.state = .jammed)
    (hg : s.merge.grant = some (.spur n e k q)) (hp : s.plant.position0 = false) (hh : s.plant.spurHead.get n = false) :
    (resolveCarried s).1 = mergeIdle (sendUnpin e .unknown (removeHead n (emptyTags s))) := by
  have hr : resolveCarried s = settleJam s := by simp only [resolveCarried, hs]
  rw [hr, settleJam_lost hg hp hh]

/-- A transfer without a grant leaves the merge idle and nothing else. -/
theorem resolveCarried_ungranted {s : State} (hc : s.merge.state ≠ .idle) (hg : s.merge.grant = none) :
    (resolveCarried s).1 = mergeIdle (stopPusher s) ∨ (resolveCarried s).1 = mergeIdle (emptyTags s) := by
  have hresolve : resolveTransfer s = mergeIdle (stopPusher s) := by
    unfold resolveTransfer
    split
    · exact completeTransfer_none hg
    · simp only [dropTransfer, hg, readGranted]
  unfold resolveCarried
  split
  · exact absurd ‹_› hc
  · exact .inl hresolve
  · exact .inl hresolve
  · exact .inr (by simp only [settleJam, hg])

/-- Whatever the outcome, a resolved transfer touches position 0, the lane, surplus and the heads only; and with position 0
clear, the heads only. -/
theorem transferKept_resolveCarried {s : State} (h : s.track.state.evaluates = false) :
    TransferKept s (resolveCarried s).1 ∧ (¬ (s.merge.state ≠ .idle ∧ s.plant.position0 = true) →
      (resolveCarried s).1.track.positions = s.track.positions ∧ (resolveCarried s).1.ret = s.ret) := by
  by_cases hc : s.merge.state = .idle
  · rw [resolveCarried_of_idle hc]
    exact ⟨.of_parts rfl rfl rfl, fun _ => ⟨rfl, rfl⟩⟩
  have hj : TransferKept s (jamCleared s) := .of_parts (by simp) (by simp) (by simp)
  cases hg : s.merge.grant with
  | none =>
    rcases resolveCarried_ungranted hc hg with h | h <;> rw [h]
    · exact ⟨(transferKept_stopPusher s).trans (transferKept_mergeIdle _), fun _ => ⟨rfl, rfl⟩⟩
    · exact ⟨(transferKept_emptyTags s).trans (transferKept_mergeIdle _), fun _ => ⟨rfl, rfl⟩⟩
  | some g =>
    cases hp : s.plant.position0 with
    | true =>
      rw [resolveCarried_completed hc hg hp]
      exact ⟨hj.trans (transferKept_completeTransfer (by simpa using h)), fun hn => absurd ⟨hc, rfl⟩ hn⟩
    | false =>
      have hdrop : TransferKept s (dropTransfer (jamCleared s)) ∧
          (dropTransfer (jamCleared s)).track.positions = s.track.positions ∧ (dropTransfer (jamCleared s)).ret = s.ret :=
        ⟨hj.trans (transferKept_dropTransfer _), by simp, by simp⟩
      by_cases hl : s.merge.state = .jammed → ∀ n e k q, g = .spur n e k q → s.plant.spurHead.get n = true
      · rw [resolveCarried_dropped hc hg hp hl]
        exact ⟨hdrop.1, fun _ => hdrop.2⟩
      · push Not at hl
        obtain ⟨hs, n, e, k, q, rfl, hh⟩ := hl
        rw [resolveCarried_lost hs hg hp (by simpa using hh)]
        refine ⟨?_, fun _ => ⟨by simp [mergeIdle, removeHead, emptyTags], by simp [mergeIdle, removeHead, emptyTags]⟩⟩
        have hremoved : TransferKept s (removeHead n (emptyTags s)) :=
          (transferKept_emptyTags s).trans (transferKept_removeHead n _)
        exact hremoved.trans (.of_parts (by simp [mergeIdle]) (by simp [mergeIdle]) (by simp [mergeIdle]))

end Sys2Proof.Machine
end

section
namespace Sys2Proof.Machine
open Sys2Proof

/-! ### The completion of a spur grant without tag reads -/

theorem holderOf_congr {s t : State} (stations : t.stations = s.stations) (positions : t.track.positions = s.track.positions)
    (ret : t.ret = s.ret) (n : Quad) (id : RackId) : holderOf n id t = holderOf n id s := by
  simp only [holderOf, holders, stations, positions, ret]

/-- An id without a holder is none of the clean end's. -/
theorem ne_of_holderOf_none {n : Quad} {id : RackId} {s : State} (h : holderOf n id s = none) {e : CleanEntry}
    (he : e ∈ s.ret.cleanEnd) : e.record.id ≠ id := by
  rw [holderOf, Option.map_eq_none_iff, List.find?_eq_none] at h
  have hm : (Holder.clean, e.record.id) ∈ holders (some n) s := by
    simp only [holders, List.mem_append, List.mem_map]
    exact .inl (.inl (.inl (.inr ⟨e, he, rfl⟩)))
  simpa using h _ hm

/-- The expected id is kept when no tag was read and nothing else holds it (R102, R103). -/
theorem completeSpur_untagged {n : Quad} {e : RackId} {k : Kind} {q : Snapshot} {s : State} (ht : s.merge.tags = [])
    (hh : e = 0 ∨ holderOf n e s = none) : completeSpur n e k q s =
      removeHead n ((sendAdmission n e e k s).1.setPosition 0 (some (builtRecord n e k q
        (if e = 0 then .none else .expected) (sendAdmission n e e k s).2))) := by
  have hi : resolveIdentity n e s.merge.tags s.merge.overrun = (e, if e = 0 then .none else .expected, []) := by
    have htag : tagResult s.merge.tags = .none := by rw [ht]; rfl
    simp only [resolveIdentity, htag]
    split
    · next h0 => rw [h0]
    · rfl
  have hp (o : IdSource) : presenceCheck n e o s.merge.overrun s = ⟨e, o, [], s⟩ := by
    unfold presenceCheck
    rcases hh with h0 | hn
    · rw [if_pos h0]
    · rw [hn]
      split <;> rfl
  simp only [completeSpur, hi, hp]
  rfl

/-- The record of an answered request is TRACKED, and its entry is pinned (R118). -/
theorem sendAdmission_pinned {n : Quad} {e : RackId} {k : Kind} {s : State} (h : (sendAdmission n e e k s).2 = true) :
    e ≠ 0 ∧ PinnedEntry (sendAdmission n e e k s).1 e := by
  have hs : sendAdmission n e e k s = if e = 0 then (s, false) else admissionRequest e k n s := by
    unfold sendAdmission
    simp
  rw [hs] at h ⊢
  by_cases h0 : e = 0
  · rw [if_pos h0] at h
    cases h
  · rw [if_neg h0] at h ⊢
    exact ⟨h0, admissionRequest_pinned h0 h⟩

theorem removeHead_get (n m : Quad) (s : State) : ((removeHead n s).stations.get m).spur =
    if m = n then (s.stations.get m).spur.tail else (s.stations.get m).spur := by
  rw [removeHead, State.setStation_stations, Four.get_set]
  split
  · next he => rw [he]
  · rfl

/-- What the completion of a spur grant makes of the spurs, the records and the directory (R95, R105). -/
theorem completeTransfer_untagged {n : Quad} {e : RackId} {k : Kind} {q : Snapshot} {s : State}
    (h : s.track.state.evaluates = false) (hg : s.merge.grant = some (.spur n e k q)) (ht : s.merge.tags = [])
    (hh : e = 0 ∨ holderOf n e s = none) :
    (∀ m, readQueue s.profile.values s.plant m ((completeTransfer s).stations.get m).spur =
      readQueue s.profile.values s.plant m (if m = n then (s.stations.get m).spur.tail else (s.stations.get m).spur)) ∧
    (completeTransfer s).ret = s.ret ∧
    ∃ tracked, (tracked = true → e ≠ 0 ∧ PinnedEntry (completeTransfer s) e) ∧
      (completeTransfer s).track.positions[0] =
        some (builtRecord n e k q (if e = 0 then .none else .expected) tracked) := by
  have hu := completeSpur_untagged (s := stopPusher s) (n := n) (e := e) (k := k) (q := q) ht
    (hh.imp_right fun hn => (holderOf_congr rfl rfl rfl n e).trans hn)
  rw [completeTransfer_spur h hg, hu]
  refine ⟨fun m => ?_, by simp [mergeIdle, removeHead, stopPusher],
    (sendAdmission n e e k (stopPusher s)).2, fun htr => ?_, ?_⟩
  · have hm : ((mergeIdle (removeHead n ((sendAdmission n e e k (stopPusher s)).1.setPosition 0 (some (builtRecord n e k q
        (if e = 0 then .none else .expected) (sendAdmission n e e k (stopPusher s)).2))))).stations.get m).spur =
        if m = n then (s.stations.get m).spur.tail else (s.stations.get m).spur := by
      refine (removeHead_get ..).trans ?_
      simp [stopPusher]
    generalize hv : mergeIdle _ = v at hm ⊢
    have hprofile : v.profile = s.profile := by rw [← hv]; simp [mergeIdle, removeHead, stopPusher]
    have hplant : v.plant = s.plant := by rw [← hv]; simp [mergeIdle, removeHead, stopPusher]
    rw [readSpurHead_get, ← hm]
    split
    · next he => rw [he, hprofile, hplant, readQueue_readQueue]
    · rfl
  · obtain ⟨h0, hp⟩ := sendAdmission_pinned htr
    refine ⟨h0, PinnedEntry.readSpurHead ?_ n⟩
    exact hp.congr rfl
  · simp only [readSpurHead_frame]
    exact Vector.getElem_set_self _

/-- What the completion of a rewash grant makes of the lane and the records (R95, R105). -/
theorem completeTransfer_reentered {s : State} {g r : TrackRecord} {rest : List TrackRecord}
    (h : s.track.state.evaluates = false) (hg : s.merge.grant = some (.rewash g)) (hl : s.ret.lane = r :: rest) :
    (completeTransfer s).stations = s.stations ∧ (completeTransfer s).ret.lane = rest ∧
      (completeTransfer s).track.positions[0] = some (reentered r) := by
  have hl' : (stopPusher s).ret.lane = r :: rest := hl
  rw [completeTransfer_rewash h hg, completeRewash, hl']
  dsimp only
  refine ⟨?_, rfl, Vector.getElem_set_self _⟩
  split <;> simp [mergeIdle, stopPusher]

/-! ### The parts before the heads are read -/

/-- The part with its carried motion and transfer resolved. -/
def carriedResolved (s : State) : State := (resolveCarried (motionResolved (groupLatched s))).1

theorem warmStart_parts {s : State} (hw : s.resetKind = .warm) :
    (trackRestarted s).track = (carriedResolved s).track ∧ (trackRestarted s).stations = (carriedResolved s).stations ∧
      (trackRestarted s).ret = (carriedResolved s).ret ∧ (trackRestarted s).directory = (carriedResolved s).directory := by
  rw [trackRestarted_eq, if_pos hw]
  obtain ⟨hs, -, hd, hr, -⟩ := restartTrack_parts (groupLatched s)
  exact ⟨restartTrack_track _, hs, hr, hd⟩

theorem motionMade_groupLatched (s : State) : motionMade (groupLatched s) ↔ motionMade s := by
  simp [motionMade]

/-- With no motion carried the parts go into the resolution of the transfer as they stand. -/
theorem motionResolved_carried {s : State} (h : s.track.motion = .none) :
    let m := motionResolved (groupLatched s)
    m.track.positions = s.track.positions ∧ m.track.stepDue = s.track.stepDue ∧ m.ret = s.ret ∧
      m.directory = s.directory := by
  have hn : ¬ motionMade (groupLatched s) := by
    rw [motionMade_groupLatched]
    exact fun hm => hm.1 h
  dsimp only
  rw [motionResolved_of_not_made hn]
  simp

theorem motionResolved_rests {s : State} (hoff : s.track.state = .off) :
    (motionResolved (groupLatched s)).track.state.evaluates = false :=
  motionResolved_resting (by simpa using hoff)

/-- With nothing carried to resolve, the merge leaves the part as the motion left it. -/
theorem carriedResolved_of_idle {s : State} (h : s.merge.state = .idle) :
    carriedResolved s = motionResolved (groupLatched s) := by
  rw [carriedResolved, resolveCarried_of_idle (by simpa using h)]

end Sys2Proof.Machine
end

section
namespace Sys2Proof.Machine
open Sys2Proof

/-! ### The carried transfer -/

theorem readQueue_of_clear {v : ProfileValues} {p : Plant} {n : Quad} {q : List SpurEntry}
    (h : p.spurHead.get n = false) : readQueue v p n q = q :=
  if_neg fun hr => by rw [h] at hr; cases hr.2

/-- The part as it goes into the resolution of a carried transfer. -/
theorem carried_cleared {s : State} (hoff : s.track.state = .off) (hm : s.track.motion = .none) :
    let x := jamCleared (motionResolved (groupLatched s))
    x.track.state.evaluates = false ∧ x.track.positions = s.track.positions ∧ x.stations = s.stations ∧ x.ret = s.ret ∧
      x.merge.grant = s.merge.grant ∧ x.profile = s.profile ∧ x.plant = s.plant ∧ x.directory = s.directory ∧
      (s.merge.tags = [] → x.merge.tags = []) := by
  obtain ⟨hp, -, hr, hd⟩ := motionResolved_carried hm
  have hrest := motionResolved_rests hoff
  refine ⟨by simpa using hrest, by simpa using hp, by simp, by simpa using hr, by simp, by simp, by simp,
    by simpa using hd, fun ht => ?_⟩
  rcases jamCleared_eq (motionResolved (groupLatched s)) with h | h <;> rw [h]
  · simpa using ht
  · rfl

theorem carriedResolved_completed {s : State} {g : Grant} (hc : s.merge.state ≠ .idle) (hg : s.merge.grant = some g)
    (hp : s.plant.position0 = true) :
    carriedResolved s = completeTransfer (jamCleared (motionResolved (groupLatched s))) :=
  resolveCarried_completed (by simpa using hc) (by simpa using hg) (by simpa using hp)

theorem carriedResolved_dropped {s : State} {g : Grant} (hc : s.merge.state ≠ .idle) (hg : s.merge.grant = some g)
    (hp : s.plant.position0 = false)
    (hl : s.merge.state = .jammed → ∀ n e k q, g = .spur n e k q → s.plant.spurHead.get n = true) :
    carriedResolved s = dropTransfer (jamCleared (motionResolved (groupLatched s))) :=
  resolveCarried_dropped (by simpa using hc) (by simpa using hg) (by simpa using hp) (by simpa using hl)

/-- A jammed spur grant with both sensors clear loses its head, located UNKNOWN and unpinned (R99). -/
theorem carried_lost {s : State} {n : Quad} {e : RackId} {k : Kind} {q : Snapshot} (hm : s.track.motion = .none)
    (hg : s.merge.grant = some (.spur n e k q)) (hp : s.plant.position0 = false) (hj : s.merge.state = .jammed) (hh : s.plant.spurHead.get n = false) :
    (∀ m, ((carriedResolved s).stations.get m).spur =
      if m = n then (s.stations.get m).spur.tail else (s.stations.get m).spur) ∧
    (carriedResolved s).directory = (sendUnpin e .unknown s).directory := by
  have hl : carriedResolved s =
      mergeIdle (sendUnpin e .unknown (removeHead n (emptyTags (motionResolved (groupLatched s))))) :=
    resolveCarried_lost (by simpa using hj) (by simpa using hg) (by simpa using hp) (by simpa using hh)
  obtain ⟨-, -, -, hd⟩ := motionResolved_carried hm
  rw [hl]
  refine ⟨fun m => ?_, sendUnpin_directory_congr (by exact hd) e .unknown⟩
  have hr := removeHead_get n m (emptyTags (motionResolved (groupLatched s)))
  simp only [emptyTags_stations, motionResolved_frame, groupLatched_frame] at hr
  simpa [mergeIdle] using hr

section
variable {s : State} (hoff : s.track.state = .off) (hm : s.track.motion = .none) (hc : s.merge.state ≠ .idle)
include hoff hm hc

/-- A carried rewash grant leaves the spurs; with position 0 made the lane's head re-enters (R95, R98, R105). -/
theorem carried_rewash {g r : TrackRecord} {rest : List TrackRecord} (hg : s.merge.grant = some (.rewash g))
    (hl : s.ret.lane = r :: rest) : (carriedResolved s).stations = s.stations ∧ (s.plant.position0 = true →
      (carriedResolved s).ret.lane = rest ∧ (carriedResolved s).track.positions[0] = some (reentered r)) := by
  obtain ⟨hrest, -, hstations, hret, hgrant, -⟩ := carried_cleared hoff hm
  cases hp : s.plant.position0 with
  | true =>
    obtain ⟨h1, h2, h3⟩ := completeTransfer_reentered hrest (hgrant.trans hg) ((congrArg Return.lane hret).trans hl)
    rw [carriedResolved_completed hc hg hp]
    exact ⟨h1.trans hstations, fun _ => ⟨h2, h3⟩⟩
  | false =>
    rw [carriedResolved_dropped hc hg hp fun _ _ _ _ _ => nofun]
    refine ⟨?_, nofun⟩
    rw [dropTransfer, hgrant, hg]
    generalize jamCleared (motionResolved (groupLatched s)) = x at hstations
    exact hstations

/-- A spur grant that is dropped has its head read again (R98, R99). -/
theorem carried_kept {n : Quad} {e : RackId} {k : Kind} {q : Snapshot} (hg : s.merge.grant = some (.spur n e k q))
    (hp : s.plant.position0 = false) (hl : ¬ (s.merge.state = .jammed ∧ s.plant.spurHead.get n = false)) (m : Quad) :
    ((carriedResolved s).stations.get m).spur = if m = n
      then readQueue s.profile.values s.plant m (s.stations.get m).spur else (s.stations.get m).spur := by
  obtain ⟨-, -, hstations, -, hgrant, hprofile, hplant, -⟩ := carried_cleared hoff hm
  rw [carriedResolved_dropped hc hg hp fun hj a _ _ _ he => by
    cases he
    cases hh : s.plant.spurHead.get n
    · exact absurd ⟨hj, hh⟩ hl
    · rfl]
  rw [dropTransfer, hgrant, hg]
  generalize jamCleared (motionResolved (groupLatched s)) = x at hstations hprofile hplant
  refine (congrArg StationUnit.spur (readSpurHead_get n m (mergeIdle (stopPusher x)))).trans ?_
  have hx : (mergeIdle (stopPusher x)).stations = s.stations ∧ (mergeIdle (stopPusher x)).profile = s.profile ∧
      (mergeIdle (stopPusher x)).plant = s.plant := ⟨hstations, hprofile, hplant⟩
  obtain ⟨h1, h2, h3⟩ := hx
  rw [h1, h2, h3]
  split
  · next he => rw [he]
  · rfl

/-- A carried spur grant with position 0 made and no tag read is completed with the expected id (R95, R102, R105). -/
theorem carried_spur {n : Quad} {e : RackId} {k : Kind} {q : Snapshot} (hg : s.merge.grant = some (.spur n e k q))
    (hp : s.plant.position0 = true) (ht : s.merge.tags = []) (hh : e = 0 ∨ holderOf n e s = none) :
    (∀ m, readQueue s.profile.values s.plant m ((carriedResolved s).stations.get m).spur =
      readQueue s.profile.values s.plant m (if m = n then (s.stations.get m).spur.tail else (s.stations.get m).spur)) ∧
    (carriedResolved s).ret = s.ret ∧
    ∃ tracked, (tracked = true → e ≠ 0 ∧ PinnedEntry (carriedResolved s) e) ∧
      (carriedResolved s).track.positions[0] = some (builtRecord n e k q (if e = 0 then .none else .expected) tracked) := by
  obtain ⟨hrest, hpositions, hstations, hret, hgrant, hprofile, hplant, -, htags⟩ := carried_cleared hoff hm
  rw [carriedResolved_completed hc hg hp]
  generalize jamCleared (motionResolved (groupLatched s)) = x at *
  have h := completeTransfer_untagged hrest (hgrant.trans hg) (htags ht)
    (hh.imp_right fun hn => (holderOf_congr hstations hpositions hret n e).trans hn)
  rw [hprofile, hplant, hstations, hret] at h
  exact h

end

/-! ### The restart of the parts of a warm start-up -/

theorem PinnedEntry.readSpurHeads {s : State} {id : RackId} (h : PinnedEntry s id) :
    PinnedEntry (quads.foldl (fun s n => Machine.readSpurHead n s) s) id :=
  (((h.readSpurHead 0).readSpurHead 1).readSpurHead 2).readSpurHead 3

theorem headsRead_directory (s : State) :
    (headsRead s).directory = (quads.foldl (fun s n => readSpurHead n s) (trackRestarted s)).directory := by
  unfold headsRead
  generalize trackRestarted s = t
  rfl

section
variable {s : State} (hw : s.resetKind = .warm) (hoff : s.track.state = .off)
include hw hoff

theorem warmStart_spur (n : Quad) : ((returnRestarted s).stations.get n).spur =
    readQueue s.profile.values s.plant n ((carriedResolved s).stations.get n).spur := by
  obtain ⟨t, hp, -, hs, -⟩ := warmStart_prompted hw hoff
  obtain ⟨-, hstations, -⟩ := warmStart_parts hw
  rw [hs, hp.spur, timersRestarted_get, headsRead_get, hstations]

theorem warmStart_deliveries (n : Quad) : ((carriedResolved s).stations.get n).deliveries.map (restartDelivery s n) <+:
    ((returnRestarted s).stations.get n).deliveries := by
  obtain ⟨t, hp, -, hs, -⟩ := warmStart_prompted hw hoff
  obtain ⟨-, hstations, -⟩ := warmStart_parts hw
  have hd := hp.deliveries n
  have hr : restartDelivery (headsRead s) n = restartDelivery s n := by
    funext d
    simp [restartDelivery, deliveryTime]
  rw [timersRestarted_get, headsRead_get, hstations, hr] at hd
  rw [hs]
  exact hd

theorem warmStart_lane : (returnRestarted s).ret.lane = (carriedResolved s).ret.lane := by
  obtain ⟨t, hp, hr, -⟩ := warmStart_prompted hw hoff
  obtain ⟨-, -, hret, -⟩ := warmStart_parts hw
  rw [hr, hp.lane, timersRestarted_ret]
  simp [hret]

/-- With no head held, or with the emergency stop open, the prompt leaves transit and the clean end. -/
theorem warmStart_still (h : (carriedResolved s).ret.held = false ∨ s.inputs.estopOpen = true) :
    (returnRestarted s).ret.held = (carriedResolved s).ret.held ∧
    (returnRestarted s).ret.cleanEnd = (carriedResolved s).ret.cleanEnd ∧
    (returnRestarted s).ret.transit = (carriedResolved s).ret.transit.map fun t =>
      { t with travel := .running (100 * s.profile.values.travelTime) } := by
  obtain ⟨t, -, hr, -, -, rfl⟩ := warmStart_prompted hw hoff
  obtain ⟨-, -, hret, -⟩ := warmStart_parts hw
  have hs := prompt_still (s := timersRestarted (headsRead s)) (by
    rw [timersRestarted_ret]
    simpa [hret, groupLatched_interlock, startMembers] using h)
  rw [hr, hs, timersRestarted_ret]
  simp [hret, preset_seconds]

/-- With the emergency stop open and no rack at a head, the restart sends no message to the directory. -/
theorem warmStart_directory (he : s.inputs.estopOpen = true) (hh : ∀ n, s.plant.spurHead.get n = false) :
    (returnRestarted s).directory = (carriedResolved s).directory := by
  obtain ⟨t, -, -, -, hd, rfl⟩ := warmStart_prompted hw hoff
  obtain ⟨-, -, -, hdir⟩ := warmStart_parts hw
  rw [hd, prompt_of_open (by simp [groupLatched_interlock, startMembers, he])]
  simp [headsRead_directory_of_clear hh, hdir]

/-- An entry stays pinned through the restart, unless the clean end holds its id. -/
theorem warmStart_pinned {id : RackId} (hp : PinnedEntry (carriedResolved s) id)
    (hclean : ∀ e ∈ (carriedResolved s).ret.cleanEnd, e.record.id ≠ id) : PinnedEntry (returnRestarted s) id := by
  obtain ⟨t, hprompt, -, -, hd, -⟩ := warmStart_prompted hw hoff
  obtain ⟨-, -, hret, hdir⟩ := warmStart_parts hw
  have htrack : PinnedEntry (trackRestarted s) id := hp.congr hdir
  have hheads : PinnedEntry (headsRead s) id := htrack.readSpurHeads.congr (headsRead_directory s)
  refine (hprompt.pinned id (fun e he => hclean e ?_) (hheads.congr (by simp))).congr hd
  rw [timersRestarted_ret] at he
  simpa [hret] using he

/-- The RETURN_HOLD notice of a head still held (R151). -/
theorem warmStart_holdNotice (hn : s.link.notices = []) {x : Transit} {rest : List Transit}
    (hh : (returnRestarted s).ret.held = true) (ht : (returnRestarted s).ret.transit = x :: rest)
    (hmask : s.link.mask.getLsbD 8 = true) :
    Notice.returnHold x.record.id x.record.kind (returnRestarted s).ret.surplus.length rest.length ∈
      (returnRestarted s).link.notices := by
  obtain ⟨t, hp, hr, -, -, heq⟩ := warmStart_prompted hw hoff
  have hlink : t.link = (trackRestarted s).link := hp.link.trans (by simp)
  have hq := queues_trackRestarted hoff
  have hlength : t.link.notices.length < 16 := by
    have := groupLatched_length hn
    have := hq.length (by omega)
    rw [hlink]
    omega
  have henabled : (holdNotice x.record t).enabled t.link.mask = true := by
    have hm : t.link.mask = s.link.mask := by rw [hlink, hq.mask]; simp
    rw [hm]
    simp only [Notice.enabled, holdNotice, Notice.maskBit, hmask, Bool.or_true]
  rw [hr] at hh ht ⊢
  have hd : returnRestarted s = enqueue (holdNotice x.record t) t := by
    rw [returnRestarted_of_warm hw, restartReturn_eq, ← heq]
    simp only [hh, ht]
  rw [hd]
  have hmem := mem_enqueue_self henabled hlength
  have hrest : t.ret.transit.length - 1 = rest.length := by rw [ht]; rfl
  rw [← hrest]
  exact hmem

end

end Sys2Proof.Machine
end

section
namespace Sys2Proof.Machine
open Sys2Proof

/-! ### The notices of the track's restart -/

theorem stateReport_congr {s t : State} (h : s.track = t.track) (x : Option Settlement) :
    stateReport x s = stateReport x t := by simp only [stateReport, h]

/-- How a jammed grant is settled with these readings (R99). -/
def settledOutcome (p : Plant) (g : Grant) : SettleOutcome :=
  if p.position0 then .completed else match g with
    | .spur n _ _ _ => if p.spurHead.get n then .kept else .lost
    | .rewash _ => .kept

/-- The settlement that a jam with a grant reports (R99). -/
theorem resolveCarried_settled {s : State} {g : Grant} (hj : s.merge.state = .jammed) (hg : s.merge.grant = some g) :
    (resolveCarried s).2 = some ⟨settledOutcome s.plant g, g.requester, g.expected⟩ := by
  have hr : resolveCarried s = settleJam s := by simp only [resolveCarried, hj]
  rw [hr]
  cases hp : s.plant.position0 with
  | true => rw [settleJam_completed hg hp]; simp [settledOutcome, hp]
  | false =>
    cases g with
    | rewash r => rw [settleJam_rewash_kept hg hp]; simp [settledOutcome, hp, Grant.requester, Grant.expected]
    | spur n e k q =>
      cases hh : s.plant.spurHead.get n with
      | true => rw [settleJam_spur_kept hg hp hh]; simp [settledOutcome, hp, hh, Grant.requester, Grant.expected]
      | false => rw [settleJam_lost hg hp hh]; simp [settledOutcome, hp, hh, Grant.requester, Grant.expected]

/-- The queue has room up to the track's STATE notice. -/
theorem carriedResolved_room {s : State} (hoff : s.track.state = .off) (hn : s.link.notices = []) :
    Queues 4 (groupLatched s) (carriedResolved s) ∧ (carriedResolved s).link.notices.length < 16 := by
  have hq : Queues 4 (groupLatched s) (carriedResolved s) :=
    (queues_motionResolved _).trans (queues_resolveCarried (motionResolved_rests hoff))
  have := groupLatched_length hn
  have := hq.length (by omega)
  exact ⟨hq, by omega⟩

section
variable {s : State} (hw : s.resetKind = .warm) (hoff : s.track.state = .off) (hn : s.link.notices = [])
include hw hoff hn

/-- The STATE notice of a STOPPED track or a settled jam is queued (R31). -/
theorem warmStart_stateNotice (hmask : s.link.mask.getLsbD 7 = true)
    (h : (carriedResolved s).track.state = .stopped ∨ (resolveCarried (motionResolved (groupLatched s))).2.isSome = true) :
    Notice.state (stateReport (resolveCarried (motionResolved (groupLatched s))).2 (carriedResolved s)) ∈
      (returnRestarted s).link.notices := by
  obtain ⟨hq, hroom⟩ := carriedResolved_room hoff hn
  have htrack : trackRestarted s =
      enqueue (.state (stateReport (resolveCarried (motionResolved (groupLatched s))).2 (carriedResolved s)))
        (carriedResolved s) := by
    rw [trackRestarted_eq, if_pos hw]
    exact if_pos (by rw [Bool.or_eq_true, decide_eq_true_eq]; exact h)
  have henabled : (Notice.state (stateReport (resolveCarried (motionResolved (groupLatched s))).2
      (carriedResolved s))).enabled (carriedResolved s).link.mask = true := by
    have hm : (carriedResolved s).link.mask = s.link.mask := by rw [hq.mask]; simp
    rw [hm]
    simp only [Notice.enabled, Notice.maskBit, hmask, Bool.or_true]
  have hmem := mem_enqueue_self henabled hroom
  rw [← htrack] at hmem
  have := groupLatched_length hn
  have := (queues_trackRestarted hoff).length (by omega)
  exact (queues_returnTaken hoff).kept (by omega) hmem

/-- The FAULT notice of a rack missing at the exit eye is queued (R18). -/
theorem warmStart_missingRack (hmade : motionMade s) (hmask : s.link.mask.getLsbD 2 = true) {r : TrackRecord}
    (hr : s.track.positions[15] = some r) (he : s.plant.exitEye = false) :
    Notice.fault (.missingRack r.id r.source) ∈ (returnRestarted s).link.notices := by
  have hlength := groupLatched_length hn
  have hm : Notice.fault (.missingRack r.id r.source) ∈ (motionResolved (groupLatched s)).link.notices := by
    rw [motionResolved_of_made ((motionMade_groupLatched s).mpr hmade)]
    refine mem_completeMotion_missing ?_ ?_ ?_ ?_ <;> rw [restartExtension_fixPeriod]
    · simpa using hr
    · simpa using he
    · simpa using hmask
    · exact (by omega : (groupLatched s).link.notices.length < 16)
  have hq := queues_motionResolved (groupLatched s)
  have hrest : Queues 4 (motionResolved (groupLatched s)) (trackRestarted s) := by
    have hc := queues_resolveCarried (motionResolved_rests hoff)
    rw [trackRestarted_eq, if_pos hw]
    rcases restartTrack_cases (groupLatched s) with h | ⟨x, h⟩ <;> rw [h]
    · exact hc.mono (by omega)
    · exact hc.trans (queues_enqueue _ _)
  have := hq.length (by omega)
  exact (hrest.trans (queues_returnTaken hoff)).kept (by omega) hm

end

/-! ### The records of a warm start-up -/

/-- What the resolution of the transfer leaves of the records and queues that the motion left (R31, R109). -/
theorem carriedResolved_kept {s : State} (hoff : s.track.state = .off) :
    TransferKept (motionResolved (groupLatched s)) (carriedResolved s) ∧
      (¬ (s.merge.state ≠ .idle ∧ s.plant.position0 = true) →
        (carriedResolved s).track.positions = (motionResolved (groupLatched s)).track.positions ∧
        (carriedResolved s).ret = (motionResolved (groupLatched s)).ret) := by
  have h := transferKept_resolveCarried (motionResolved_rests hoff)
  simp only [motionResolved_frame, groupLatched_frame] at h
  exact h

/-- The track with its carried parts resolved is the one the motion left, but for its records. -/
theorem carriedResolved_track {s : State} (hoff : s.track.state = .off) : (carriedResolved s).track =
    { (motionResolved (groupLatched s)).track with positions := (carriedResolved s).track.positions } :=
  resolveCarried_track (motionResolved_rests hoff)

/-- The period in force is the one that the records at the end fix (R6, R31). -/
theorem carriedResolved_period {s t : State} (hoff : s.track.state = .off) (ht : t.track = (carriedResolved s).track)
    (hp : t.programmes = s.programmes) :
    t.track.period = periodOf t ∧ t.track.stepTimer = .running (10 * periodOf t) := by
  have hkept := (carriedResolved_kept hoff).1.positions
  have hperiod : periodOf t = periodOf (motionResolved (groupLatched s)) :=
    periodOf_congr (fun i h h2 _ => by
      rw [ht]
      exact hkept ⟨i, h⟩ fun he => by simp [Fin.ext_iff] at he; omega) (by simpa using hp)
  rw [hperiod, ht, carriedResolved_track hoff]
  exact motionResolved_period _

theorem carriedResolved_extension {s : State} (hoff : s.track.state = .off) (h : s.track.extension ≠ .idle) :
    (carriedResolved s).track.extension = match s.track.positions[12].bind (·.programme) with
      | some q => if q.limit = 0 then .expired else .running (100 * q.limit)
      | none => .expired := by
  have he : (groupLatched s).track = s.track := by simp
  rw [carriedResolved_track hoff, motionResolved_extension, he, if_neg h]
  have hf : s.track.f2 = s.track.positions[12] := rfl
  rw [hf]
  cases s.track.positions[12].bind (·.programme) with
  | none => rfl
  | some q =>
    simp only [Option.map_some, Option.getD_some, extensionPreset, preset_seconds]

/-- The track is STOPPED only with a motion carried, and then no transfer is. -/
theorem carriedResolved_stopped {s : State} (hw : s.resetKind = .warm) (hoff : s.track.state = .off)
    (hx : s.track.motion = .none ∨ s.merge.state = .idle) (h : (carriedResolved s).track.state = .stopped) :
    (resolveCarried (motionResolved (groupLatched s))).2 = none := by
  have ht := (warmStart_track hw hoff).1
  rw [(warmStart_parts hw).1, h] at ht
  have hm : s.track.motion ≠ .none := by
    intro hm
    rw [hm] at ht
    cases ht
  rw [resolveCarried_of_idle (by simpa using hx.resolve_left hm)]

/-- A completed motion leaves its records, queues and entries to the end of the start-up (R15, R31). -/
theorem carriedResolved_of_made {s : State} (hx : s.track.motion = .none ∨ s.merge.state = .idle) (h : motionMade s) :
    (carriedResolved s).track.positions = movedRecords s.track.positions s.plant.exitEye ∧
    (carriedResolved s).track.stepDue = false ∧
    (carriedResolved s).ret = { s.ret with
      cleanEnd := s.ret.cleanEnd ++ handedClean s.track.positions[16],
      lane := s.ret.lane ++ handedLane s.track.positions[16] } ∧
    ∀ t : State, s.directory = t.directory →
      (carriedResolved s).directory = match s.track.positions[15], s.plant.exitEye with
        | some r, false => if r.tracked then (sendUnpin r.id .unknown (handedTo s.track.positions[16] t)).directory
            else (handedTo s.track.positions[16] t).directory
        | _, _ => (handedTo s.track.positions[16] t).directory := by
  have hm := (motionMade_groupLatched s).mpr h
  have htrack : (groupLatched s).track = s.track := by simp
  have hret : (groupLatched s).ret = s.ret := by simp
  have hplant : (groupLatched s).plant = s.plant := by simp
  have hdir : (groupLatched s).directory = s.directory := by simp
  rw [carriedResolved_of_idle (hx.resolve_left h.1), motionResolved_track_of_made hm, motionResolved_ret_of_made hm, htrack,
    hret, hplant]
  refine ⟨rfl, rfl, rfl, fun t ht => ?_⟩
  have hd := motionResolved_directory_of_made hm (t := t) (hdir.trans ht)
  rw [htrack, hplant] at hd
  exact hd

/-- Without one, the records stand, but for what a completed transfer does (R31, R109). -/
theorem carriedResolved_of_not_made {s : State} (hoff : s.track.state = .off) (h : ¬ motionMade s) :
    (∀ i : Fin 17, i ≠ 0 → (carriedResolved s).track.positions[i] = s.track.positions[i]) ∧
    (carriedResolved s).track.stepDue = s.track.stepDue ∧
    (carriedResolved s).ret.cleanEnd = s.ret.cleanEnd ∧
    (¬ (s.merge.state ≠ .idle ∧ s.plant.position0 = true) →
      (carriedResolved s).track.positions = s.track.positions ∧ (carriedResolved s).ret = s.ret) := by
  have hm := motionResolved_of_not_made (fun hm => h ((motionMade_groupLatched s).mp hm))
  have htrack : (groupLatched s).track = s.track := by simp
  have hret : (motionResolved (groupLatched s)).ret = s.ret := by rw [hm]; simp
  obtain ⟨⟨hpositions, hqueues, -⟩, hclear⟩ := carriedResolved_kept hoff
  have hct := carriedResolved_track hoff
  rw [hret] at hclear hqueues
  rw [hm, htrack] at hpositions hct hclear
  exact ⟨hpositions, by rw [hct], by rw [hqueues], hclear⟩

/-- The head and the queue of transit are no matter of the motion or the transfer. -/
theorem carriedResolved_transit {s : State} (hoff : s.track.state = .off)
    (hx : s.track.motion = .none ∨ s.merge.state = .idle) :
    (carriedResolved s).ret.held = s.ret.held ∧ (carriedResolved s).ret.transit = s.ret.transit ∧
      ∀ n, ((carriedResolved s).stations.get n).deliveries = (s.stations.get n).deliveries := by
  obtain ⟨⟨-, hqueues, hdeliveries⟩, -⟩ := carriedResolved_kept hoff
  have hd (n : Quad) : ((carriedResolved s).stations.get n).deliveries = (s.stations.get n).deliveries := by
    rw [hdeliveries]; simp
  by_cases h : motionMade s
  · obtain ⟨-, -, hr, -⟩ := carriedResolved_of_made hx h
    rw [hr]
    exact ⟨rfl, rfl, hd⟩
  · have hm := motionResolved_of_not_made (fun hm => h ((motionMade_groupLatched s).mp hm))
    have hret : (motionResolved (groupLatched s)).ret = s.ret := by rw [hm]; simp
    rw [hqueues, hret]
    exact ⟨rfl, rfl, hd⟩

/-! ### O53 -/

/-- Settles O53, clause by clause from the resolved motion, the resolved transfer and the restart of the return. -/
theorem warmStartUpsResumeTheRecords : Obligations.WarmStartUpsResumeTheRecords := by
  intro s p hs hw hoff hrun hn hx v made carried still handed read
  obtain ⟨-, -, -, hprog, -, htrack, hstations, hret, hdir, -, -, -, -⟩ := conclude_endStartUp s (s := s.sense p) hoff
  have hmem {m : Notice} := mem_conclude_endStartUp (b := s) (s := s.sense p) (m := m) hoff hn
  rw [(warmStart_parts (s := s.sense p) hw).1] at htrack
  obtain ⟨hheld, htransit, hdeliveries⟩ := carriedResolved_transit (s := s.sense p) hoff hx
  have hquiet (h : still) := warmStart_still (s := s.sense p) hw hoff (h.imp_left hheld.trans)
  have hlane := warmStart_lane (s := s.sense p) hw hoff
  have hspur := warmStart_spur (s := s.sense p) hw hoff
  refine ⟨_, exec_endOfStartUp_settling hs, ?_⟩
  generalize conclude s (endStartUp (s.sense p)) = t at *
  obtain ⟨hperiod, hstep⟩ := carriedResolved_period (s := s.sense p) hoff htrack hprog
  refine ⟨hperiod, hstep, fun he => ?_, fun hmade => ?_, fun hmade => ?_, fun hmade hc => ?_, fun hc n => ?_,
    fun g r rest hc hg hl => ?_, fun n e k q hc hg => ⟨fun hp => ?_, fun hp ht hh => ?_⟩, fun hmask hst => ?_,
    fun g hmask hj hg => ?_, fun n => ?_, ?_, fun hstill => ?_, fun x rest hh ht hmask => ?_⟩
  · rw [htrack]; exact carriedResolved_extension (s := s.sense p) hoff he
  · obtain ⟨h1, h2, h3, h4⟩ := carriedResolved_of_made (s := s.sense p) hx hmade
    have hpos (i : Nat) (h : i < 17) : t.track.positions[i] = (movedRecords s.track.positions p.exitEye)[i] := by
      rw [htrack, h1]; rfl
    refine ⟨by rw [hpos, movedRecords_getElem]; rfl, fun i h h12 => ?_, by rw [hpos, movedRecords_getElem]; rfl, ?_,
      by rw [htrack, h2], by rw [hret, hlane, h3]; rfl, fun hst => by rw [hret, (hquiet hst).2.1, h3]; rfl,
      fun r h15 he hmask => hmem (warmStart_missingRack (s := s.sense p) hw hoff hn hmade hmask h15 he) nofun,
      fun he hh => ?_⟩
    · rw [hpos, movedRecords_getElem, if_neg (by omega), if_neg (by omega), if_neg (by omega)]
      rfl
    · rw [hpos, movedRecords_getElem, if_pos rfl]
      cases s.track.positions[15] <;> cases p.exitEye <;> rfl
    · rw [hdir, warmStart_directory (s := s.sense p) hw hoff he hh]
      exact h4 s rfl
  · obtain ⟨h1, h2, h3, -⟩ := carriedResolved_of_not_made (s := s.sense p) hoff hmade
    rw [htrack]
    exact ⟨h1, h2, fun hst => by rw [hret, (hquiet hst).2.1, h3]; rfl⟩
  · obtain ⟨-, -, -, h4⟩ := carriedResolved_of_not_made (s := s.sense p) hoff hmade
    obtain ⟨h5, h6⟩ := h4 hc
    rw [htrack, h5, hret, hlane, h6]
    exact ⟨rfl, rfl⟩
  · have hidle : s.merge.state = .idle := not_not.mp hc
    rw [hstations, hspur, carriedResolved_of_idle (s := s.sense p) hidle]
    simp only [motionResolved_frame, groupLatched_frame]
    rfl
  · have hm : s.track.motion = .none := hx.resolve_right hc
    obtain ⟨h1, h2⟩ := carried_rewash (s := s.sense p) hoff hm hc hg hl
    refine ⟨fun n => ?_, fun hp => ?_⟩
    · rw [hstations, hspur, h1]; rfl
    · obtain ⟨h3, h4⟩ := h2 hp
      rw [hret, hlane, htrack]
      exact ⟨h3, h4⟩
  · have hm : s.track.motion = .none := hx.resolve_right hc
    by_cases hl : s.merge.state = .jammed ∧ p.spurHead.get n = false
    · obtain ⟨h1, h2⟩ := carried_lost (s := s.sense p) hm hg hp hl.1 hl.2
      refine ⟨fun m hne => ?_, fun _ => ⟨?_, fun he hh => ?_⟩, fun hn => absurd hl hn⟩
      · rw [hstations, hspur, h1, if_neg hne]; rfl
      · rw [hstations, hspur, h1, if_pos rfl]; exact readQueue_of_clear hl.2
      · rw [hdir, warmStart_directory (s := s.sense p) hw hoff he hh, h2]
        exact sendUnpin_directory_congr (s := s.sense p) (t := s) rfl e .unknown
    · have h1 := carried_kept (s := s.sense p) hoff hm hc hg hp hl
      refine ⟨fun m hne => ?_, fun hl' => absurd hl' hl, fun _ => ?_⟩
      · rw [hstations, hspur, h1, if_neg hne]; rfl
      · rw [hstations, hspur, h1, if_pos rfl, readQueue_readQueue]; rfl
  · have hm : s.track.motion = .none := hx.resolve_right hc
    obtain ⟨h1, h2, tracked, h3, h4⟩ := carried_spur (s := s.sense p) hoff hm hc hg hp ht
      (hh.imp_right fun h => (holderOf_congr rfl rfl rfl n e).trans h)
    refine ⟨fun m => by rw [hstations, hspur]; exact h1 m, by rw [hret, hlane, h2]; rfl, tracked, fun htr => ?_,
      by rw [htrack]; exact h4⟩
    obtain ⟨h0, hpinned⟩ := h3 htr
    refine ⟨h0, (warmStart_pinned (s := s.sense p) hw hoff hpinned fun x hx => ?_).congr hdir⟩
    rw [h2] at hx
    exact ne_of_holderOf_none (hh.resolve_left h0) hx
  · rw [htrack] at hst
    have h := warmStart_stateNotice (s := s.sense p) hw hoff hn hmask (.inl hst)
    rw [carriedResolved_stopped (s := s.sense p) hw hoff hx hst, ← stateReport_congr htrack] at h
    exact hmem h nofun
  · have hsettled := resolveCarried_settled (s := motionResolved (groupLatched (s.sense p))) (g := g) (by simpa using hj)
      (by simpa using hg)
    have h := warmStart_stateNotice (s := s.sense p) hw hoff hn hmask (.inr (by rw [hsettled]; rfl))
    rw [hsettled, ← stateReport_congr htrack] at h
    simp only [motionResolved_frame, groupLatched_frame] at h
    exact hmem h nofun
  · have h := warmStart_deliveries (s := s.sense p) hw hoff n
    have hrestart : restartDelivery (s.sense p) n = fun d => { d with timer := .running (match d.origin with
        | .router => 100 * v.deliveryTime.get n
        | .surplus => 100 * v.feedTime) } := by
      funext d
      obtain ⟨id, k, o, q⟩ := d
      cases o <;> simp only [restartDelivery, deliveryTime, preset_seconds] <;> rfl
    rw [hdeliveries, hrestart] at h
    rw [hstations]
    exact h
  · rw [hret]; exact warmStart_spacing (s := s.sense p) hw hoff
  · obtain ⟨h1, -, h3⟩ := hquiet hstill
    rw [hret]
    exact ⟨h1.trans hheld, h3.trans (congrArg _ htransit)⟩
  · rw [hret] at hh ht ⊢
    exact hmem (warmStart_holdNotice (s := s.sense p) hw hoff hn hh ht hmask) nofun

end Sys2Proof.Machine
end

section
namespace Sys2Proof.Machine
open Sys2Proof

/-! ## The figures of a sample -/

/-! ### One channel -/

theorem codeValid_iff (c : Code) : codeValid c = true ↔ 1 ≤ c.toNat ∧ c.toNat ≤ 1022 := by
  simp [codeValid]

/-- The two codes that are not valid are those of a shorted and of an open sensor (R35). -/
theorem codeValid_eq_false_iff (c : Code) : codeValid c = false ↔ c = 0 ∨ c = 1023 := by
  have hlt : c.toNat < 1024 := c.isLt
  have h0 : c = 0 ↔ c.toNat = 0 := BitVec.toNat_inj.symm
  have h1023 : c = 1023 ↔ c.toNat = 1023 := BitVec.toNat_inj.symm
  rw [← Bool.not_eq_true, codeValid_iff, h0, h1023]
  omega

theorem channel_of_valid {c : Code} (h : codeValid c = true) (base span : Nat) :
    channel base span c = some (temperature base span c) := if_pos h

theorem channel_of_not_valid {c : Code} (h : ¬ codeValid c = true) (base span : Nat) : channel base span c = none :=
  if_neg h

theorem channel_isSome (base span : Nat) (c : Code) : (channel base span c).isSome = codeValid c := by
  cases h : codeValid c with
  | true => rw [channel_of_valid h, Option.isSome_some]
  | false => rw [channel_of_not_valid (by simp [h]), Option.isSome_none]

theorem channel_eq_none_iff (base span : Nat) (c : Code) : channel base span c = none ↔ c = 0 ∨ c = 1023 := by
  rw [← codeValid_eq_false_iff, ← channel_isSome base span, Option.isSome_eq_false_iff, Option.isNone_iff_eq_none]

/-- The highest temperature a calibration in range can give (R36). -/
theorem temperature_le {base span : Nat} {c : Code} (hb : base ≤ 999) (hs : span ≤ 2000) (hc : c.toNat ≤ 1022) :
    temperature base span c ≤ 2995 := by
  have hmul : c.toNat * span ≤ 1022 * 2000 := Nat.mul_le_mul hc hs
  unfold temperature
  omega

theorem channel_getD_le {base span : Nat} (hb : base ≤ 999) (hs : span ≤ 2000) (c : Code) :
    (channel base span c).getD 0 ≤ 2995 := by
  by_cases h : codeValid c = true
  · rw [channel_of_valid h, Option.getD_some]
    exact temperature_le hb hs ((codeValid_iff c).mp h).2
  · rw [channel_of_not_valid h, Option.getD_none]
    exact Nat.zero_le _

/-! ### The agreement of the channels (Table 12) -/

/-- The agreed temperature and the status a sample is formed with (R37). -/
def agreement (v : Sanitation) (a : Code) : Option Code → Option Nat × SampleStatus
  | some b => agreePair v.agree (channel v.aBase v.aSpan a) (channel v.bBase v.bSpan b)
  | none => agreeOne (channel v.aBase v.aSpan a)

theorem sampleOf_t (v : Sanitation) (flow : Bool) (a : Code) (b : Option Code) :
    (sampleOf v flow a b).t = (agreement v a b).1.getD 0 := by cases b <;> rfl

theorem sampleOf_status (v : Sanitation) (flow : Bool) (a : Code) (b : Option Code) :
    (sampleOf v flow a b).status = (agreement v a b).2 := by cases b <;> rfl

theorem sampleOf_band (v : Sanitation) (flow : Bool) (a : Code) (b : Option Code) :
    (sampleOf v flow a b).band = bandOf v.floor flow (agreement v a b).1 := by cases b <;> rfl

theorem sampleOf_credit (v : Sanitation) (flow : Bool) (a : Code) (b : Option Code) :
    (sampleOf v flow a b).credit = creditOf v.credit (sampleOf v flow a b).band := rfl

/-- One sensor gives no temperature, and the status INVALID, exactly without A's (R34). -/
theorem agreeOne_without (a : Option Nat) :
    ((agreeOne a).1 = none ↔ a = none) ∧ ((agreeOne a).2 = .invalid ↔ a = none) := by
  cases a <;> simp [agreeOne]

theorem agreePair_agreed {limit a b : Nat} (h : max a b - min a b ≤ limit) :
    agreePair limit (some a) (some b) = (some ((a + b) / 2), .good) := if_pos h

theorem agreePair_apart {limit a b : Nat} (h : limit < max a b - min a b) :
    agreePair limit (some a) (some b) = (some (min a b), .disagree) := if_neg (Nat.not_le.mpr h)

/-- Two sensors give no temperature, and the status INVALID, exactly without both (Table 12). -/
theorem agreePair_without (limit : Nat) (a b : Option Nat) :
    ((agreePair limit a b).1 = none ↔ a = none ∧ b = none) ∧
      ((agreePair limit a b).2 = .invalid ↔ a = none ∧ b = none) := by
  match a, b with
  | some x, some y =>
    rcases Nat.lt_or_ge limit (max x y - min x y) with h | h
    · simp [agreePair_apart h]
    · simp [agreePair_agreed h]
  | some _, none | none, some _ | none, none => simp [agreePair]

/-- A sample without an agreed temperature is an INVALID one, and no other (R37). -/
theorem agreement_eq_none_iff (v : Sanitation) (a : Code) (b : Option Code) :
    (agreement v a b).1 = none ↔ (agreement v a b).2 = .invalid := by
  cases b with
  | none => exact (agreeOne_without _).1.trans (agreeOne_without _).2.symm
  | some b => exact (agreePair_without _ _ _).1.trans (agreePair_without _ _ _).2.symm

/-- With one sensor a sample is INVALID exactly when A's code is (R46). -/
theorem sampleOf_one_invalid_iff (v : Sanitation) (flow : Bool) (a : Code) :
    (sampleOf v flow a none).status = .invalid ↔ a = 0 ∨ a = 1023 := by
  rw [sampleOf_status, agreement, (agreeOne_without _).2, channel_eq_none_iff]

/-- With two sensors a sample is INVALID exactly when both codes are (R46). -/
theorem sampleOf_two_invalid_iff (v : Sanitation) (flow : Bool) (a b : Code) :
    (sampleOf v flow a (some b)).status = .invalid ↔ (a = 0 ∨ a = 1023) ∧ (b = 0 ∨ b = 1023) := by
  rw [sampleOf_status, agreement, (agreePair_without _ _ _).2, channel_eq_none_iff, channel_eq_none_iff]

/-- Settles O29, row by row of Table 12. -/
theorem temperaturesAgreeByTheTable : Obligations.TemperaturesAgreeByTheTable := by
  intro v flow a b m valid tA
  have chan {c : Code} (h : valid c) (base span : Nat) :
      channel base span c = some (base + (c.toNat * span + 512) / 1024) := channel_of_valid ((codeValid_iff c).mpr h) _ _
  have gone {c : Code} (h : ¬ valid c) (base span : Nat) : channel base span c = none :=
    channel_of_not_valid (fun hv => h ((codeValid_iff c).mp hv)) _ _
  have hmA : m.tA = (channel v.aBase v.aSpan a).getD 0 := rfl
  have hvA : m.validA = (channel v.aBase v.aSpan a).isSome := rfl
  have row {r : Option Nat × SampleStatus} (h : agreement v a b = r) : m.status = r.2 ∧ m.t = r.1.getD 0 :=
    ⟨(sampleOf_status v flow a b).trans (congrArg _ h), (sampleOf_t v flow a b).trans (by rw [h])⟩
  refine ⟨by rw [hvA, channel_isSome, codeValid_iff], fun h => by rw [hmA, chan h]; rfl, fun h => by rw [hmA, gone h]; rfl,
    fun hb hs => channel_getD_le hb hs a, fun hb hs => ?_, ?_, ?_, ?_, ?_⟩
  · cases b with
    | none => exact Nat.zero_le _
    | some b => exact channel_getD_le hb hs b
  · rintro rfl; rfl
  · rintro rfl h
    exact row (r := (some tA, .good)) (by rw [agreement, chan h]; rfl)
  · rintro rfl h
    exact row (r := (none, .invalid)) (by rw [agreement, gone h]; rfl)
  · rintro x rfl tB
    have hmB : m.tB = (channel v.bBase v.bSpan x).getD 0 := rfl
    have hvB : m.validB = (channel v.bBase v.bSpan x).isSome := rfl
    refine ⟨by rw [hvB, channel_isSome, codeValid_iff], fun h => by rw [hmB, chan h]; rfl,
      fun h => by rw [hmB, gone h]; rfl, fun ha hx hl => ?_, fun ha hx hl => ?_, fun ha hx => ?_, fun ha hx => ?_,
      fun ha hx => ?_⟩
    · exact row (r := (some ((tA + tB) / 2), .good)) (by rw [agreement, chan ha, chan hx, agreePair_agreed hl])
    · exact row (r := (some (min tA tB), .disagree)) (by rw [agreement, chan ha, chan hx, agreePair_apart hl])
    · exact row (r := (some tA, .single)) (by rw [agreement, chan ha, gone hx]; rfl)
    · exact row (r := (some tB, .single)) (by rw [agreement, gone ha, chan hx]; rfl)
    · exact row (r := (none, .invalid)) (by rw [agreement, gone ha, gone hx]; rfl)

/-! ### The band and the credit (R39) -/

theorem bandOf_some (floor : Nat) (flow : Bool) (t : Nat) :
    bandOf floor flow (some t) = if flow = true ∧ floor ≤ t then some (min 15 ((t - floor) / 10)) else none := by
  simp [bandOf]

/-- The credit of a band in the table is its entry. -/
theorem creditOf_some (table : Vector Nat 16) (k : Nat) (h : k < 16) : creditOf table (some k) = table[k] := by
  simp [creditOf, Nat.mod_eq_of_lt h]

/-- Settles O30: INVALID, cold and dry samples have no band, the others the clamped one. -/
theorem creditFollowsTheBand : Obligations.CreditFollowsTheBand := by
  refine ⟨fun v flow a b => ?_, rfl, rfl⟩
  intro m
  have hstatus : m.status = (agreement v a b).2 := sampleOf_status v flow a b
  have ht : m.t = (agreement v a b).1.getD 0 := sampleOf_t v flow a b
  have hband : m.band = bandOf v.floor flow (agreement v a b).1 := sampleOf_band v flow a b
  have hcredit : m.credit = creditOf v.credit m.band := sampleOf_credit v flow a b
  have hinvalid := agreement_eq_none_iff v a b
  rw [← hstatus] at hinvalid
  cases hr : (agreement v a b).1 with
  | none =>
    have hnone : m.band = none := by rw [hband, hr]; rfl
    exact ⟨fun _ => ⟨by rw [hcredit, hnone]; rfl, hnone⟩, fun h => absurd (hinvalid.mp hr) h⟩
  | some t =>
    rw [hr, Option.getD_some] at ht
    rw [hr, bandOf_some, ← ht] at hband
    refine ⟨fun h => ?_, fun _ hfloor hflow => ?_⟩
    · have hnone : m.band = none := by
        rw [hband, if_neg]
        rintro ⟨hflow, hfloor⟩
        rcases h with h | h | h
        · rw [hinvalid.mpr h] at hr; cases hr
        · omega
        · rw [h] at hflow; cases hflow
      exact ⟨by rw [hcredit, hnone]; rfl, hnone⟩
    · rw [if_pos ⟨hflow, hfloor⟩] at hband
      exact ⟨hband, by rw [hcredit, hband, creditOf_some]⟩

end Sys2Proof.Machine
end

section
namespace Sys2Proof.Machine
open Sys2Proof

/-! ## The formation of a sample -/

/-! ### The runs and their notices (R45, R46, R48) -/

theorem runNext_true (run : Nat) : runNext true run = min 8 (run + 1) := rfl

theorem runNext_false (run : Nat) : runNext false run = 0 := rfl

theorem countsForRecovery_iff {v : Sanitation} {margin : Nat} {m : Sample} :
    countsForRecovery v margin m = true ↔ m.status ≠ .invalid ∧ v.floor + margin ≤ m.t := by
  simp [countsForRecovery]

/-- The notices of a formation: a sample has one status, so at most one run takes its eighth sample (R45, R46). -/
theorem runNotices_of_disagree {m : Sample} {d : Dose} (h : m.status = .disagree) :
    runNotices m d = if d.disagreeRun = 7 then [.fault (.sensorDisagree (sensorReport m))] else [] := by
  simp [runNotices, runCompletes, Config.runLength, h]

theorem runNotices_of_invalid {m : Sample} {d : Dose} (h : m.status = .invalid) :
    runNotices m d = if d.invalidRun = 7 then [.fault (.sensorLost (sensorReport m))] else [] := by
  simp [runNotices, runCompletes, Config.runLength, h]

theorem runNotices_of_other {m : Sample} {d : Dose} (h1 : m.status ≠ .disagree) (h2 : m.status ≠ .invalid) :
    runNotices m d = [] := by
  simp [runNotices, runCompletes, h1, h2]

/-- Without a run at its eighth sample there is no notice. -/
theorem runNotices_of_no_run {m : Sample} {d : Dose} (h1 : ¬ (m.status = .disagree ∧ d.disagreeRun = 7))
    (h2 : ¬ (m.status = .invalid ∧ d.invalidRun = 7)) : runNotices m d = [] := by
  by_cases hd : m.status = .disagree
  · exact (runNotices_of_disagree hd).trans (if_neg fun h => h1 ⟨hd, h⟩)
  · by_cases hi : m.status = .invalid
    · exact (runNotices_of_invalid hi).trans (if_neg fun h => h2 ⟨hi, h⟩)
    · exact runNotices_of_other hd hi

/-- The sample a formation makes of these codes, with the settings and the flow of that moment (R38, R51). -/
def sampleAt (s : State) (a : Code) (b : Option Code) : Sample :=
  sampleOf s.programmes.sanitation (!s.interlock.live.rinse) a b

/-- The sample counts towards a recovery at this moment (R48). -/
def hotAt (s : State) (a : Code) (b : Option Code) : Bool :=
  countsForRecovery s.programmes.sanitation s.profile.values.recoveryMargin (sampleAt s a b)

/-- The records with a credit added at F1 and F2 (R40). -/
def creditedRecords (c : Nat) (v : Vector (Option TrackRecord) 17) : Vector (Option TrackRecord) 17 :=
  (v.set 11 (v[11].map (creditRecord c))).set 12 (v[12].map (creditRecord c))

/-- The part with a sample credited and the runs advanced, before the notice of a run that it completes (R33, R40, R45). -/
def credited (a : Code) (b : Option Code) (s : State) : State :=
  { s with dose := s.dose.advance (sampleAt s a b) (hotAt s a b),
           track := { s.track with positions := creditedRecords (sampleAt s a b).credit s.track.positions } }

theorem formed_eq (a : Code) (b : Option Code) (s : State) :
    formed a b s = enqueueAll (runNotices (sampleAt s a b) s.dose) (credited a b s) := rfl

theorem formed_dose (a : Code) (b : Option Code) (s : State) :
    (formed a b s).dose = s.dose.advance (sampleAt s a b) (hotAt s a b) := by
  simp [formed_eq, credited]

/-- A formation that completes no run queues nothing. -/
theorem formed_of_none {a : Code} {b : Option Code} {s : State} (h : runNotices (sampleAt s a b) s.dose = []) :
    formed a b s = credited a b s := by
  rw [formed_eq, h]
  rfl

theorem formed_of_one {a : Code} {b : Option Code} {s : State} {n : Notice}
    (h : runNotices (sampleAt s a b) s.dose = [n]) : formed a b s = enqueue n (credited a b s) := by
  rw [formed_eq, h]
  rfl

/-- Settles O28, status by status. -/
theorem runsOfBadSamplesAreReported : Obligations.RunsOfBadSamplesAreReported := by
  intro a b s _ _ m t
  have hd : t.dose = s.dose.advance m (hotAt s a b) := formed_dose a b s
  have hdis : t.dose.disagreeRun = runNext (m.status == .disagree) s.dose.disagreeRun := congrArg _ hd
  have hinv : t.dose.invalidRun = runNext (m.status == .invalid) s.dose.invalidRun := congrArg _ hd
  refine ⟨fun h => by rw [hdis, h]; rfl, fun h => by rw [hdis, beq_eq_false_iff_ne.mpr h]; rfl,
    fun h => by rw [hinv, h]; rfl, fun h => by rw [hinv, beq_eq_false_iff_ne.mpr h]; rfl,
    fun h h7 => ?_, fun h h7 => ?_, fun h1 h2 => ?_, ?_, ?_⟩
  · have ht : t = enqueue _ (credited a b s) := formed_of_one ((runNotices_of_disagree h).trans (if_pos h7))
    exact (congrArg State.link ht).trans (enqueue_link_congr (s := credited a b s) (t := s) rfl _)
  · have ht : t = enqueue _ (credited a b s) := formed_of_one ((runNotices_of_invalid h).trans (if_pos h7))
    exact (congrArg State.link ht).trans (enqueue_link_congr (s := credited a b s) (t := s) rfl _)
  · have ht : t = credited a b s := formed_of_none (runNotices_of_no_run h1 h2)
    exact (congrArg State.link ht).trans rfl
  · rintro rfl
    exact sampleOf_one_invalid_iff _ _ a
  · rintro x rfl
    exact sampleOf_two_invalid_iff _ _ a x

end Sys2Proof.Machine
end

section
namespace Sys2Proof.Machine
open Sys2Proof

/-! ## What follows a sample -/

/-! ### The records behind a due evaluation -/

/-- A record without the marks that a step start sets on it (R14). -/
def unjudged (r : TrackRecord) : TrackRecord := { r with verdict := .none, leaving := false }

/-- The records differ at most by the marks of a started step: the verdict at F2 and the destination at X (R14). -/
structure RecordsKept (v w : Vector (Option TrackRecord) 17) : Prop where
  others : ∀ (i : Nat) (h : i < 17), i ≠ 12 → i ≠ 16 → w[i] = v[i]
  f2 : w[12].map unjudged = v[12].map unjudged

/-- What a due evaluation and a grant opportunity keep of the track: the records, the whole track outside the states that
evaluate, and that it is not in RECOVERY (R7, R92). -/
structure TrackFollows (s t : State) : Prop where
  records : RecordsKept s.track.positions t.track.positions
  inactive : s.track.state.evaluates = false → t.track = s.track
  notRecovery : s.track.state ≠ .recovery → t.track.state ≠ .recovery

theorem TrackFollows.of_track_eq {s t : State} (h : t.track = s.track) : TrackFollows s t where
  records := ⟨fun _ _ _ _ => by rw [h], by rw [h]⟩
  inactive _ := h
  notRecovery hs := by rwa [h]

theorem TrackFollows.trans {s t u : State} (h : TrackFollows s t) (g : TrackFollows t u) : TrackFollows s u where
  records := ⟨fun i hi h12 h16 => (g.records.others i hi h12 h16).trans (h.records.others i hi h12 h16),
    g.records.f2.trans h.records.f2⟩
  inactive hs := by
    have ht := h.inactive hs
    exact (g.inactive (by rwa [ht])).trans ht
  notRecovery := g.notRecovery ∘ h.notRecovery

/-- A track that evaluates and changes no record, but its marks and its state, to another state than RECOVERY. -/
theorem TrackFollows.of_evaluates {s t : State} (h : s.track.state.evaluates = true)
    (hr : RecordsKept s.track.positions t.track.positions) (ht : t.track.state ≠ .recovery) : TrackFollows s t where
  records := hr
  inactive hs := absurd h (by simp [hs])
  notRecovery _ := ht

theorem recordsKept_startedRecords (s : State) : RecordsKept s.track.positions (startedRecords s) where
  others i h h12 h16 := by rw [startedRecords_getElem, if_neg h12, if_neg h16]
  f2 := by
    rw [startedRecords_getElem, if_pos rfl, Option.map_map]
    rfl

/-- A started step leaves the track in STEPPING or PURGING. -/
theorem stepStart_not_recovery (s : State) : (stepStart s).track.state ≠ .recovery := by
  rw [stepStart_track]
  dsimp only
  split <;> decide

theorem trackFollows_stepStart {s : State} (e : Timer) (h : s.track.state.evaluates = true) :
    TrackFollows s (stepStart (withExtension e s)) := by
  refine .of_evaluates h ?_ (stepStart_not_recovery _)
  rw [stepStart_track]
  exact recordsKept_startedRecords (withExtension e s)

theorem trackFollows_dueEvaluation (s : State) : TrackFollows s (dueEvaluation s) := by
  have kept : RecordsKept s.track.positions s.track.positions := ⟨fun _ _ _ _ => rfl, rfl⟩
  have runs (h : s.track.state = .ready ∨ s.track.state = .hold) : s.track.state.evaluates = true := by
    rcases h with h | h <;> rw [h] <;> rfl
  have hd := dueEvaluation_outcome s
  generalize dueEvaluation s = t at hd
  cases hd with
  | nothing => exact .of_track_eq rfl
  | blocked e h _ => exact .of_evaluates (runs h) kept fun hr => by simp [withExtension] at hr; simp [hr] at h
  | starts e h _ _ => exact trackFollows_stepStart e (runs h)
  | held e r h => exact .of_evaluates (runs h) kept nofun
  | purges h _ _ => exact trackFollows_stepStart s.track.extension (by rw [h]; rfl)
  | purgeHeld r h => exact .of_evaluates (by rw [h]; rfl) kept fun hr => by simp [h] at hr

/-- A grant opportunity changes the track only in HOLD, where TRANSFER may join the reasons (R93). -/
theorem grantOpportunity_track_holds (s : State) : ∃ q, (grantOpportunity s).track = { s.track with holds := q } := by
  cases ho : grantOpen s with
  | false => exact ⟨s.track.holds, by rw [grantOpportunity_of_closed ho]⟩
  | true =>
    obtain ⟨u, hu, hc⟩ := grantOpportunity_open ho
    have hut : u.track = s.track := by rcases hu with rfl | rfl <;> simp
    rcases hc with ⟨g, hg⟩ | ⟨hg, _⟩ <;> rw [hg]
    · exact ⟨(makeGrant g (resolveHeads u)).track.holds, by simp [makeGrant, hut]⟩
    · exact ⟨s.track.holds, by simp [hut]⟩

theorem trackFollows_grantOpportunity (s : State) : TrackFollows s (grantOpportunity s) := by
  by_cases h : s.track.state = .hold
  · obtain ⟨q, hq⟩ := grantOpportunity_track_holds s
    refine .of_evaluates (by rw [h]; rfl) ?_ ?_ <;> rw [hq]
    · exact ⟨fun _ _ _ _ => rfl, rfl⟩
    · simp [h]
  · exact .of_track_eq (grantOpportunity_track h)

theorem trackFollows_conclude (b : State) {s : State} (hr : s.phase = .running) : TrackFollows s (conclude b s) := by
  refine ((trackFollows_dueEvaluation s).trans (trackFollows_grantOpportunity _)).trans (.of_track_eq ?_)
  simp [conclude, hr]

/-- The end of a command stops no recovery timer and starts none. -/
theorem conclude_recovery_timers (b s : State) :
    (conclude b s).interlock.recovery = s.interlock.recovery ∧ (conclude b s).interlock.limit = s.interlock.limit := by
  unfold conclude
  rw [idleTimerHook_eq]
  split <;> simp

/-! ### The end of a recovery (R48, R164) -/

/-- The sample of these codes ends the recovery: in TEMPERATURE mode the eighth that counts (R48, R164). -/
def RecoveryEnds (s : State) (a : Code) (b : Option Code) : Prop :=
  s.track.state = .recovery ∧ s.profile.values.recoveryMode = .temperature ∧ hotAt s a b = true ∧ s.dose.recoveryRun = 7

theorem recoveryReached_iff (a : Code) (b : Option Code) (s : State) :
    recoveryReached s (dueEvaluation (formed a b s)) = true ↔ RecoveryEnds s a b := by
  have hrun : (dueEvaluation (formed a b s)).dose.recoveryRun = runNext (hotAt s a b) s.dose.recoveryRun := by
    have hdose : (dueEvaluation (formed a b s)).dose = (formed a b s).dose := by simp
    rw [hdose, formed_dose]
    rfl
  unfold recoveryReached RecoveryEnds
  rw [hrun]
  cases hotAt s a b <;> simp +contextual [runNext_true, runNext_false, Config.runLength, and_assoc]

theorem formed_track (a : Code) (b : Option Code) (s : State) :
    (formed a b s).track = { s.track with positions := creditedRecords (sampleAt s a b).credit s.track.positions } := by
  simp [formed_eq, credited]

/-- The track enters READY with the recovery timers stopped, before the due evaluation that follows (R164). -/
def recovered (s : State) : State :=
  { s with track := { s.track with state := .ready },
           interlock := { s.interlock with recovery := .idle, limit := .idle } }

theorem formSample_ends {a : Code} {b : Option Code} {s : State} (h : RecoveryEnds s a b) :
    formSample a b s = dueEvaluation (withStateNotice (recovered (formed a b s))) := by
  have hst : (formed a b s).track.state = .recovery := by rw [formed_track]; exact h.1
  have hnot : dueEvaluation (formed a b s) = formed a b s := dueEvaluation_of_not_evaluates (by rw [hst]; rfl)
  unfold formSample
  dsimp only
  rw [if_pos ((recoveryReached_iff a b s).mpr h), hnot, completeRecovery,
    enterState_notified (by simp [stopRecoveryTimers, hst, stateNotified, TrackState.isStepping3])]
  rfl

theorem formSample_goes_on {a : Code} {b : Option Code} {s : State} (h : ¬ RecoveryEnds s a b) :
    formSample a b s = dueEvaluation (formed a b s) := if_neg (mt (recoveryReached_iff a b s).mp h)

/-- A sample that counts is not INVALID, so its formation reports a disagreement at most (R45, R48). -/
theorem formed_of_hot {a : Code} {b : Option Code} {s : State} (h : hotAt s a b = true) :
    formed a b s = if (sampleAt s a b).status = .disagree ∧ s.dose.disagreeRun = 7 then
      enqueue (.fault (.sensorDisagree (sensorReport (sampleAt s a b)))) (credited a b s) else credited a b s := by
  have hi := (countsForRecovery_iff.mp h).1
  by_cases hd : (sampleAt s a b).status = .disagree
  · have hn := runNotices_of_disagree (d := s.dose) hd
    split
    · next h7 => exact formed_of_one (hn.trans (if_pos h7.2))
    · next h7 => exact formed_of_none (hn.trans (if_neg fun he => h7 ⟨hd, he⟩))
  · rw [if_neg fun h7 => hd h7.1]
    exact formed_of_none (runNotices_of_other hd hi)

/-! ### The conversions -/

theorem conversionA_forms {c : Code} {s : State} (h : s.dose.converter = .convertingA) (hs : s.profile.values.sensors = 1) :
    conversionA c s = formSample c none s := by
  rw [conversionA, if_pos h, if_pos hs]

theorem conversionA_pends {c : Code} {s : State} (h : s.dose.converter = .convertingA) (hs : s.profile.values.sensors ≠ 1) :
    conversionA c s = { s with dose := { s.dose with converter := .convertingB, pendingA := some c } } := by
  rw [conversionA, if_pos h, if_neg hs]

theorem conversionA_idle {c : Code} {s : State} (h : s.dose.converter ≠ .convertingA) : conversionA c s = s := if_neg h

theorem conversionB_forms {a c : Code} {s : State} (h : s.dose.converter = .convertingB) (ha : s.dose.pendingA = some a) :
    conversionB c s = formSample a (some c) s := by
  simp only [conversionB, h, ha]

theorem conversionB_idle {c : Code} {s : State} (h : s.dose.converter ≠ .convertingB) : conversionB c s = s := by
  unfold conversionB
  split
  · next hb _ => exact absurd hb h
  · rfl

/-- A conversion under way whose end forms the sample of these codes (R33). -/
def FormsWith (c : Instr) (a : Code) (b : Option Code) (s : State) : Prop :=
  (c = .conversionAComplete a ∧ b = none ∧ s.dose.converter = .convertingA ∧ s.profile.values.sensors = 1) ∨
    (∃ x, c = .conversionBComplete x ∧ b = some x ∧ s.dose.converter = .convertingB ∧ s.dose.pendingA = some a)

theorem exec_forms {c : Instr} {a : Code} {b : Option Code} {s : State} (hr : s.phase = .running) (h : FormsWith c a b s) :
    exec c s = .next (conclude s (formSample a b s)) := by
  rcases h with ⟨rfl, rfl, hc, hs⟩ | ⟨x, rfl, rfl, hc, ha⟩
  · have he : exec (.conversionAComplete a) s = .next (event (conversionA a) s) := rfl
    rw [he, event_running hr, conversionA_forms hc hs]
  · have he : exec (.conversionBComplete x) s = .next (event (conversionB x) s) := rfl
    rw [he, event_running hr, conversionB_forms hc ha]

/-- A command without an effect, in a state with nothing left to follow (log entries 7 and 18). -/
theorem event_without_effect {f : State → State} {s : State} (hs : Settled s) (hl : LinkSound s) (h : f s = s) :
    event f s = s := by
  have hw : whenRunning f s = s := by
    unfold whenRunning
    rw [h]
    exact ite_self s
  rw [event, hw]
  exact conclude_self hs hl

/-! ### A formation and what follows it -/

theorem creditedRecords_getElem (c : Nat) (v : Vector (Option TrackRecord) 17) (i : Nat) (h : i < 17) :
    (creditedRecords c v)[i] = if i = 11 ∨ i = 12 then v[i].map (creditRecord c) else v[i] := by
  simp only [creditedRecords, Vector.getElem_set]
  split
  · next h12 => subst h12; rfl
  · split
    · next h11 => subst h11; rfl
    · rw [if_neg (by omega)]

theorem formSample_dose (a : Code) (b : Option Code) (s : State) : (formSample a b s).dose = (formed a b s).dose := by
  unfold formSample
  dsimp only
  split <;> simp

theorem formSample_phase (a : Code) (b : Option Code) (s : State) : (formSample a b s).phase = s.phase := by simp

/-- A sample that ends no recovery leaves the track to the due evaluation and to the end of the command. -/
theorem trackFollows_formation {a : Code} {b : Option Code} {s : State} (hr : s.phase = .running)
    (h : ¬ RecoveryEnds s a b) : TrackFollows (formed a b s) (conclude s (formSample a b s)) := by
  have hc := trackFollows_conclude s ((formSample_phase a b s).trans hr)
  rw [formSample_goes_on h] at hc ⊢
  exact (trackFollows_dueEvaluation _).trans hc

/-- A sample that ends the recovery leaves the track in READY to them. -/
theorem trackFollows_recovered {a : Code} {b : Option Code} {s : State} (hr : s.phase = .running)
    (h : RecoveryEnds s a b) : TrackFollows (recovered (formed a b s)) (conclude s (formSample a b s)) := by
  have hc := trackFollows_conclude s ((formSample_phase a b s).trans hr)
  rw [formSample_ends h] at hc ⊢
  have hn : TrackFollows (recovered (formed a b s)) (withStateNotice (recovered (formed a b s))) :=
    .of_track_eq (by simp [withStateNotice])
  exact hn.trans ((trackFollows_dueEvaluation _).trans hc)

theorem recordsKept_formation (a : Code) (b : Option Code) {s : State} (hr : s.phase = .running) :
    RecordsKept (creditedRecords (sampleAt s a b).credit s.track.positions)
      (conclude s (formSample a b s)).track.positions := by
  have hf : (formed a b s).track.positions = creditedRecords (sampleAt s a b).credit s.track.positions := by
    rw [formed_track]
  rw [← hf]
  by_cases h : RecoveryEnds s a b
  · exact (trackFollows_recovered hr h).records
  · exact (trackFollows_formation hr h).records

/-- A state that does not evaluate, left by no recovery, keeps the whole track but the credited doses. -/
theorem formation_track_of_inactive {a : Code} {b : Option Code} {s : State} (hr : s.phase = .running)
    (h : ¬ RecoveryEnds s a b) (hs : s.track.state.evaluates = false) :
    (conclude s (formSample a b s)).track =
      { s.track with positions := creditedRecords (sampleAt s a b).credit s.track.positions } := by
  rw [← formed_track]
  exact (trackFollows_formation hr h).inactive (by rw [formed_track]; exact hs)

/-- The end of the recovery stops both recovery timers for good (R164). -/
theorem formation_recovery_timers {a : Code} {b : Option Code} {s : State} (h : RecoveryEnds s a b) :
    (conclude s (formSample a b s)).interlock.recovery = .idle ∧
      (conclude s (formSample a b s)).interlock.limit = .idle := by
  obtain ⟨h1, h2⟩ := conclude_recovery_timers s (formSample a b s)
  rw [h1, h2, formSample_ends h]
  simp [withStateNotice, recovered]

/-- The rinse dose unit after a formation (R45, R46, R48, R49). -/
theorem formation_dose (a : Code) (b : Option Code) (s : State) :
    (conclude s (formSample a b s)).dose = s.dose.advance (sampleAt s a b) (hotAt s a b) := by
  rw [← formed_dose, ← formSample_dose]
  simp

theorem advance_eq (m : Sample) (hot : Bool) (d : Dose) :
    d.advance m hot = { d with
      converter := .idle, pendingA := none, last := some m, count := d.count + 1,
      disagreeRun := if m.status = .disagree then min 8 (d.disagreeRun + 1) else 0,
      invalidRun := if m.status = .invalid then min 8 (d.invalidRun + 1) else 0,
      recoveryRun := if hot = true then min 8 (d.recoveryRun + 1) else 0 } := by
  simp only [Dose.advance, runNext, beq_iff_eq]
  rfl

/-- Settles O27: the clock of the conversions first, then the formation with what follows it. -/
theorem samplesAreFormedAndCredited : Obligations.SamplesAreFormedAndCredited := by
  refine ⟨fun s hr => ⟨fun g hg => ?_, fun c hc hs => ?_, fun hs hl => ⟨fun hc => ?_, fun c hc => ?_, fun c hc => ?_⟩⟩,
    fun s c a b hr hf => ?_⟩
  · exact congrArg Host.Outcome.next (event_timer_running hr hg)
  · exact congrArg Host.Outcome.next ((event_running hr).trans (congrArg _ (conversionA_pends hc hs)))
  · exact congrArg Host.Outcome.next (event_timer_stopped hs hl hc)
  · exact congrArg Host.Outcome.next (event_without_effect hs hl (conversionA_idle hc))
  · exact congrArg Host.Outcome.next (event_without_effect hs hl (conversionB_idle hc))
  intro v m hot credit
  have hhot : hotAt s a b = true ↔ hot := countsForRecovery_iff
  have hexec := exec_forms hr hf
  have hdose := formation_dose a b s
  have hkept := recordsKept_formation a b hr
  have hinactive {st : TrackState} (hst : s.track.state = st) (he : st.evaluates = false) (h : ¬ RecoveryEnds s a b) :=
    formation_track_of_inactive hr h (hst ▸ he)
  refine ⟨conclude s (formSample a b s), hexec, ?_, ?_, ?_, fun i h11 h12 h16 => ?_, fun hst hmode hh h7 => ?_,
    fun hst hn => ?_, fun hst => ?_, by simp, by simp, by simp⟩
  · rw [hdose, advance_eq]
    simp only [hhot]
    rfl
  · exact (hkept.others 11 (by decide) (by decide) (by decide)).trans (creditedRecords_getElem _ _ 11 (by decide))
  · refine hkept.f2.trans ?_
    rw [creditedRecords_getElem, if_pos (.inr rfl), Option.map_map]
    rfl
  · have h11 : i.val ≠ 11 := fun h => h11 (Fin.ext h)
    have h12 : i.val ≠ 12 := fun h => h12 (Fin.ext h)
    have h16 : i.val ≠ 16 := fun h => h16 (Fin.ext h)
    refine (hkept.others i i.isLt h12 h16).trans ?_
    rw [creditedRecords_getElem, if_neg (by omega)]
    rfl
  · have hends : RecoveryEnds s a b := ⟨hst, hmode, hhot.mpr hh, h7⟩
    obtain ⟨hrec, hlim⟩ := formation_recovery_timers hends
    refine ⟨(trackFollows_recovered hr hends).notRecovery nofun, hrec, hlim, ?_⟩
    rw [hdose, hexec, formSample_ends hends, formed_of_hot (hhot.mpr hh)]
    rfl
  · have hends : ¬ RecoveryEnds s a b := fun ⟨_, hmode, hh, h7⟩ => hn ⟨hmode, hhot.mp hh, h7⟩
    rw [hinactive hst rfl hends]
    exact hst
  · have hends : ¬ RecoveryEnds s a b := fun h => by simp [h.1] at hst
    have he : s.track.state.evaluates = false := by rcases hst with h | h | h | h | h <;> rw [h] <;> rfl
    rw [hinactive rfl he hends]

end Sys2Proof.Machine
end

section
namespace Sys2Proof.Machine
open Sys2Proof

/-! ## The sanitation lock -/

/-! ### A track that holds phantoms only -/

/-- The track states in which a part can stand before its first RUN: OFF, STOPPED, FAULT and PURGING (R3, R21, R25). -/
def TrackState.beforeRun : TrackState → Bool
  | .off | .stopped | .fault | .purging => true
  | _ => false

theorem TrackState.beforeRun_iff (t : TrackState) : t.beforeRun = true ↔ t.enabled = false ∧ t ≠ .stepping := by
  cases t <;> decide

/-- No position holds any record but a phantom. -/
def PhantomsOnly (v : Vector (Option TrackRecord) 17) : Prop :=
  ∀ (i : Nat) (h : i < 17) (r : TrackRecord), v[i] = some r → r.source = .phantom

theorem phantomsOnly_iff {v : Vector (Option TrackRecord) 17} :
    PhantomsOnly v ↔ ∀ r ∈ v.toList, ∀ x, r = some x → x.source = .phantom := by
  constructor
  · intro h r hr x hx
    obtain ⟨i, hi, rfl⟩ := Vector.mem_iff_getElem.mp (Vector.mem_toList_iff.mp hr)
    exact h i hi x hx
  · exact fun h i hi r hr => h _ (Vector.mem_toList_iff.mpr (Vector.getElem_mem hi)) r hr

section
variable {v : Vector (Option TrackRecord) 17} (h : PhantomsOnly v)
include h

/-- A record that a position's record is changed into stays a phantom when the change leaves the source. -/
theorem PhantomsOnly.map {f : TrackRecord → TrackRecord} {i : Nat} {hi : i < 17} {r : TrackRecord}
    (hr : v[i].map f = some r) (hf : ∀ x, (f x).source = x.source) : r.source = .phantom := by
  obtain ⟨x, hx, rfl⟩ := Option.map_eq_some_iff.mp hr
  exact (hf x).trans (h i hi x hx)

theorem PhantomsOnly.startedRecords {s : State} (hv : s.track.positions = v) : PhantomsOnly (startedRecords s) := by
  subst hv
  intro i hi r hr
  rw [startedRecords_getElem] at hr
  split at hr
  · exact h.map hr fun _ => rfl
  · split at hr
    · exact h.map hr fun _ => rfl
    · exact h i hi r hr

/-- What the exit-eye check leaves at X is a phantom where a phantom or nothing has come (R18, R19). -/
theorem PhantomsOnly.movedRecords (eye : Bool) : PhantomsOnly (movedRecords v eye) := by
  intro i hi r hr
  rw [movedRecords_getElem] at hr
  split at hr
  · unfold checkedAtX at hr
    split at hr
    · obtain rfl := Option.some.inj hr
      cases hx : v[15] with
      | none => rfl
      | some x => exact h 15 (by decide) x hx
    · cases hr
  · split at hr
    · exact h.map hr fun _ => rfl
    · split at hr
      · cases hr
      · exact h (i - 1) (by omega) r hr

theorem PhantomsOnly.creditedRecords (c : Nat) : PhantomsOnly (creditedRecords c v) := by
  intro i hi r hr
  rw [creditedRecords_getElem] at hr
  split at hr
  · exact h.map hr fun x => by unfold creditRecord; split <;> rfl
  · exact h i hi r hr

end

/-! ### No rack is in the tunnel or on its way into it -/

/-- What the part is like before its first RUN: the track stands in a state that no RUN leads to, nothing is granted and no
record but phantoms is in the tunnel (R3, R92). -/
structure NoRackIn (s : State) : Prop where
  state : s.track.state.beforeRun = true
  idle : s.merge.state = .idle
  grant : s.merge.grant = none
  phantoms : PhantomsOnly s.track.positions

/-- It rests on four values. -/
theorem NoRackIn.congr {s t : State} (h : NoRackIn s) (state : t.track.state = s.track.state := by simp)
    (idle : t.merge.state = s.merge.state := by simp) (grant : t.merge.grant = s.merge.grant := by simp)
    (positions : t.track.positions = s.track.positions := by simp) : NoRackIn t :=
  ⟨state ▸ h.state, idle ▸ h.idle, grant ▸ h.grant, positions ▸ h.phantoms⟩

section
variable {s : State} (h : NoRackIn s)
include h

/-- A change of the track's state to one of those, with the merge as it is. -/
theorem NoRackIn.of_state {t : State} (state : t.track.state.beforeRun = true) (merge : t.merge = s.merge := by simp)
    (positions : t.track.positions = s.track.positions := by simp) : NoRackIn t :=
  ⟨state, merge ▸ h.idle, merge ▸ h.grant, positions ▸ h.phantoms⟩

theorem NoRackIn.state_ne {t : TrackState} (ht : t.beforeRun = false) : s.track.state ≠ t :=
  fun e => by have := h.state; rw [e, ht] at this; cases this

theorem NoRackIn.not_evaluating (hs : s.track.state = .ready ∨ s.track.state = .hold) : False :=
  hs.elim (h.state_ne rfl) (h.state_ne rfl)

/-- Only a purge step can be due, and it takes no rack in (R26). -/
theorem NoRackIn.dueEvaluation : NoRackIn (dueEvaluation s) := by
  have hd := dueEvaluation_outcome s
  generalize Machine.dueEvaluation s = t at hd
  cases hd with
  | nothing => exact h
  | blocked e hs => exact (h.not_evaluating hs).elim
  | starts e hs => exact (h.not_evaluating hs).elim
  | held e q hs => exact (h.not_evaluating hs).elim
  | purges hs =>
    refine ⟨?_, by simpa using h.idle, by simpa using h.grant, ?_⟩ <;> rw [stepStart_track]
    · dsimp only
      rw [if_pos hs]
      rfl
    · exact h.phantoms.startedRecords rfl
  | purgeHeld q _ => exact h.congr rfl rfl rfl rfl

/-- No grant opportunity opens (R92). -/
theorem NoRackIn.grantOpportunity : NoRackIn (grantOpportunity s) := by
  have hg : grantOpen s = false := by
    by_contra hg
    exact h.not_evaluating (grantOpen_cases (by simpa using hg)).2.2
  rwa [grantOpportunity_of_closed hg]

theorem NoRackIn.conclude (b : State) : NoRackIn (conclude b s) := by
  unfold Machine.conclude
  split
  · exact h.dueEvaluation.grantOpportunity.congr
  · exact h.congr

theorem NoRackIn.completeMotion : NoRackIn (completeMotion s) := by
  refine ⟨?_, by simpa using h.idle, by simpa using h.grant, ?_⟩ <;> rw [completeMotion_track]
  · exact h.state
  · exact h.phantoms.movedRecords _

end

theorem keptByEvaluation_noRackIn : KeptByEvaluation NoRackIn where
  congr h ht hm _ := h.congr (by rw [ht]) (by rw [hm]) (by rw [hm]) (by rw [ht])
  evaluation := NoRackIn.dueEvaluation

/-! ### The events -/

section
variable {s : State} (h : NoRackIn s)
include h

/-- A motion that completes before the first RUN is a purge step's (R17, R27). -/
theorem NoRackIn.indexMade (hg : Guarded s) : NoRackIn (indexMade s) := by
  unfold Machine.indexMade
  split
  · next hf =>
    have hp : (Machine.completeMotion s).track.state = .purging := by
      rw [completeMotion_track]
      exact (hg.2.1 hf).resolve_left (h.state_ne rfl)
    refine h.completeMotion.of_state ?_ (positions := ?_) <;> rw [stateAfterCompletion_track]
    dsimp only
    rw [if_pos hp]
    split <;> rfl
  · exact h

theorem NoRackIn.motionExpiry : NoRackIn (motionExpiry s) := by
  unfold Machine.motionExpiry jamMotion enterJam
  split
  · exact h.of_state (by simp; rfl)
  · exact h

theorem NoRackIn.transferExpiry : NoRackIn (transferExpiry s) := by
  rwa [Machine.transferExpiry, if_neg (by simp [h.idle])]

theorem NoRackIn.position0Made : NoRackIn (position0Made s) := by
  rwa [Machine.position0Made, if_neg (by simp [h.idle])]

theorem NoRackIn.trackOpening : NoRackIn (trackOpening s) := by
  refine h.of_state ?_ (positions := ?_) <;> rw [trackOpening_track]
  dsimp only
  split
  · rfl
  · exact h.state

theorem NoRackIn.mergeOpening : NoRackIn (mergeOpening s) := by
  rwa [Machine.mergeOpening, if_neg (by simp [h.idle])]

theorem NoRackIn.changeEstop (o : Bool) : NoRackIn (changeEstop o s) := by
  have hl : NoRackIn (setLive { s.interlock.live with estop := o } s) := h.congr
  unfold Machine.changeEstop
  dsimp only
  split
  · exact h
  · split
    · exact hl.trackOpening.mergeOpening.congr (by simp [returnOpening]) (by simp [returnOpening])
        (by simp [returnOpening]) (by simp [returnOpening])
    · exact (keptByEvaluation_noRackIn.returnClearance hl).congr

theorem NoRackIn.changeDoor (o : Bool) : NoRackIn (changeDoor o s) := by
  have hl : NoRackIn (setLive { s.interlock.live with door := o } s) := h.congr
  unfold Machine.changeDoor
  dsimp only
  split
  · exact h
  · split
    · exact hl.trackOpening.mergeOpening.congr
    · exact hl.congr

theorem NoRackIn.changeTank (o : Bool) : NoRackIn (changeTank o s) := by
  have hl : NoRackIn (setLive { s.interlock.live with tank := o } s) := h.congr
  unfold Machine.changeTank
  split
  · exact h
  · exact hl.dueEvaluation.congr

theorem NoRackIn.idleExpiry : NoRackIn (idleExpiry s) := by
  have hi : ¬ idleInReady s = true := fun hi => h.state_ne rfl (idleInReady_iff_count.mp hi).1
  rw [Machine.idleExpiry, if_neg hi]
  exact h.congr rfl rfl rfl rfl

theorem NoRackIn.recoveryExpiry : NoRackIn (recoveryExpiry s) := by
  rw [Machine.recoveryExpiry, if_neg (h.state_ne rfl)]
  exact h.congr rfl rfl rfl rfl

theorem NoRackIn.limitExpiry : NoRackIn (limitExpiry s) := by
  rw [Machine.limitExpiry, if_neg (h.state_ne rfl)]
  exact h.congr rfl rfl rfl rfl

theorem NoRackIn.formSample (a : Code) (b : Option Code) : NoRackIn (formSample a b s) := by
  rw [formSample_goes_on fun hr => h.state_ne rfl hr.1]
  refine NoRackIn.dueEvaluation ⟨?_, ?_, ?_, ?_⟩
  · rw [formed_track]; exact h.state
  · simpa using h.idle
  · simpa using h.grant
  · rw [formed_track]; exact h.phantoms.creditedRecords _

theorem NoRackIn.conversionA (c : Code) : NoRackIn (conversionA c s) := by
  unfold Machine.conversionA
  split
  · split
    · exact h.formSample c none
    · exact h.congr rfl rfl rfl rfl
  · exact h

theorem NoRackIn.conversionB (c : Code) : NoRackIn (conversionB c s) := by
  unfold Machine.conversionB
  split
  · exact h.formSample _ _
  · exact h

/-- A send wakes nothing, as the track is not in STANDBY (R73, R163). -/
theorem NoRackIn.pressSend (n : Quad) : NoRackIn (pressSend n s) := by
  unfold Machine.pressSend takeSend
  dsimp only
  split
  · split
    · rw [if_neg (by simpa using h.state_ne rfl)]
      exact h.congr
    · exact h.congr
  · exact h

/-! ### The requests -/

theorem NoRackIn.requestHalt : NoRackIn (requestHalt s).1 := by
  unfold Machine.requestHalt
  dsimp only
  split
  case h_1 => exact h
  case h_2 | h_3 => exact h.congr rfl rfl rfl rfl
  case h_9 =>
    split
    · exact h.of_state (by simp [endPurge]; rfl) (positions := by simp [endPurge])
    · exact h.congr rfl rfl rfl rfl
  all_goals exact h.of_state (by simp; rfl)

theorem NoRackIn.requestStandby : NoRackIn (requestStandby s).1 := by
  rwa [Machine.requestStandby, if_neg fun hi => h.state_ne rfl (idleInReady_iff_count.mp hi).1]

theorem NoRackIn.requestPurge : NoRackIn (requestPurge s).1 := by
  unfold Machine.requestPurge
  split
  · exact h.of_state (by simp; rfl)
  · exact h

theorem NoRackIn.leaveFault : NoRackIn (leaveFault s) :=
  h.of_state (by simp [Machine.leaveFault]; rfl) (positions := by simp [Machine.leaveFault])

/-- CLEAR_FAULT settles no transfer, since none was granted (R99). -/
theorem NoRackIn.requestClearFault : NoRackIn (requestClearFault s).1 := by
  have hc : NoRackIn { s with track := { s.track with fault := none } } := h.congr rfl rfl rfl rfl
  have hj : NoRackIn (settleJam { s with track := { s.track with fault := none } }).1 := by
    simp only [settleJam, h.grant]
    exact ⟨h.state, rfl, rfl, h.phantoms⟩
  unfold Machine.requestClearFault
  dsimp only
  split
  · split
    · exact h
    · split
      · exact hc.completeMotion.leaveFault
      · exact hc.leaveFault
  · split
    · exact h
    · exact hj.leaveFault
  · exact hc.of_state (by simp; rfl)
  · exact h

end

end Sys2Proof.Machine
end

section
namespace Sys2Proof.Machine
open Sys2Proof

/-! ### What the operations of a working part leave of the lock -/

/-- From `s` to `t` the lock stands as it was, no mark is set and no rack comes in. -/
structure KeepsLock (s t : State) : Prop where
  phase : t.phase = s.phase
  lock : t.programmes.lock = s.programmes.lock
  required : s.programmes.required = false → t.programmes.required = false
  noRackIn : NoRackIn s → NoRackIn t

section
variable {s t : State}

theorem KeepsLock.refl (s : State) : KeepsLock s s := ⟨rfl, rfl, id, id⟩

/-- An operation that leaves the programme table alone. -/
theorem KeepsLock.of_noRackIn (h : NoRackIn s → NoRackIn t)
    (frame : t.phase = s.phase ∧ t.programmes = s.programmes := by simp) : KeepsLock s t :=
  ⟨frame.1, by rw [frame.2], fun hr => by rwa [frame.2], h⟩

/-- An operation that leaves the track and the merge alone, too. -/
theorem KeepsLock.of_parts (phase : t.phase = s.phase := by simp) (programmes : t.programmes = s.programmes := by simp)
    (track : t.track = s.track := by simp) (merge : t.merge = s.merge := by simp) : KeepsLock s t :=
  .of_noRackIn (fun h => h.congr (by rw [track]) (by rw [merge]) (by rw [merge]) (by rw [track])) ⟨phase, programmes⟩

/-- An operation that keeps the four values the lock looks at in the track and the merge, such as one on a timer beside
them. -/
theorem KeepsLock.of_values (phase : t.phase = s.phase) (programmes : t.programmes = s.programmes)
    (state : t.track.state = s.track.state) (idle : t.merge.state = s.merge.state) (grant : t.merge.grant = s.merge.grant)
    (positions : t.track.positions = s.track.positions) : KeepsLock s t :=
  .of_noRackIn (fun h => h.congr state idle grant positions) ⟨phase, programmes⟩

/-- An operation that changes the programme table alone, and the lock not at all. -/
theorem KeepsLock.of_programmes (lock : t.programmes.lock = s.programmes.lock)
    (required : s.programmes.required = false → t.programmes.required = false) (phase : t.phase = s.phase := by simp)
    (track : t.track = s.track := by simp) (merge : t.merge = s.merge := by simp) : KeepsLock s t :=
  ⟨phase, lock, required, fun h => h.congr (by rw [track]) (by rw [merge]) (by rw [merge]) (by rw [track])⟩

theorem KeepsLock.guarded (c : Bool) {f : State → State} (h : KeepsLock s (f s)) : KeepsLock s (if c then f s else s) := by
  split
  · exact h
  · exact .refl s

theorem KeepsLock.ifNot (c : Bool) {f : State → State} (h : KeepsLock s (f s)) : KeepsLock s (if c then s else f s) := by
  split
  · exact .refl s
  · exact h

end

theorem setDescriptor_programmes (p : Fin 8) (d : Option Descriptor) (s : State) :
    (setDescriptor p d s).programmes = { s.programmes with table := s.programmes.table.set p d } := by
  simp [setDescriptor]

theorem keepsLock_setProgramme (n q d : Byte) (c : Half) (x a w : Byte) (s : State) :
    KeepsLock s (requestSetProgramme n q d c x a w s).1 := by
  have kept (p : Fin 8) (e : Option Descriptor) : KeepsLock s (setDescriptor p e s) :=
    .of_programmes (by rw [setDescriptor_programmes]) (by rw [setDescriptor_programmes]; exact id)
  unfold requestSetProgramme
  split
  · exact .refl s
  · split <;> exact kept _ _

theorem keepsLock_setKindMap (u p c k t : Byte) (s : State) : KeepsLock s (requestSetKindMap u p c k t s).1 := by
  unfold requestSetKindMap
  dsimp only
  split
  · exact .refl s
  · exact .of_programmes (by simp) (by simp)

theorem keepsLock_setSanitation (v : Sanitation) (s : State) : KeepsLock s (requestSetSanitation v s).1 := by
  unfold requestSetSanitation
  split
  · exact .refl s
  · split
    · exact .refl s
    · exact .of_programmes rfl fun _ => rfl

/-- Every request but RUN leaves the lock as it is (R64). -/
theorem keepsLock_executeRequest {r : Request} (hr : r ≠ .run) (s : State) : KeepsLock s (executeRequest r s).1 := by
  have k := keptByEvaluation_noRackIn
  cases r with
  | run => exact absurd rfl hr
  | halt => exact .of_noRackIn NoRackIn.requestHalt (by simp [executeRequest])
  | standby => exact .of_noRackIn NoRackIn.requestStandby (by simp [executeRequest])
  | clearFault => exact .of_noRackIn NoRackIn.requestClearFault (by simp [executeRequest])
  | purge => exact .of_noRackIn NoRackIn.requestPurge (by simp [executeRequest])
  | setProgramme n q d c x a w => exact keepsLock_setProgramme n q d c x a w s
  | setKindMap u p c k t => exact keepsLock_setKindMap u p c k t s
  | setSanitation => exact keepsLock_setSanitation _ s
  | setStation n m q => exact .of_noRackIn (k.requestSetStationPrompted n m q) (by simp [executeRequest])
  | releaseQuarantine a => exact .of_noRackIn (k.requestReleaseQuarantine a) (by simp [executeRequest])
  | _ => refine .of_parts ?_ ?_ ?_ ?_ <;> simp [executeRequest]

/-! ### The invariant of the lock -/

/-- The invariant of the lock, with what the clear lock says of the outstanding grant. -/
structure LockSafe (s : State) : Prop where
  unread : s.phase = .profileRead ∨ (s.phase = .held ∧ s.resetKind ≠ .warm) → s.programmes.lock = false
  required : s.programmes.lock = true → s.programmes.required = false
  noRackIn : s.programmes.lock = false → NoRackIn s

theorem LockSound.lockSafe {s : State} (h : LockSound s) (hg : s.merge.grant.isSome ↔ s.merge.state ≠ .idle) :
    LockSafe s := by
  obtain ⟨hu, hr, hc⟩ := h
  refine ⟨hu, hr, fun hl => ?_⟩
  obtain ⟨hen, hst, hm, hp⟩ := hc hl
  exact ⟨(TrackState.beforeRun_iff _).mpr ⟨hen, hst⟩, hm, by simpa [hm] using hg, phantomsOnly_iff.mpr hp⟩

theorem LockSafe.lockSound {s : State} (h : LockSafe s) : LockSound s := by
  refine ⟨h.unread, h.required, fun hl => ?_⟩
  obtain ⟨hst, hm, _, hp⟩ := h.noRackIn hl
  obtain ⟨hen, hne⟩ := (TrackState.beforeRun_iff _).mp hst
  exact ⟨hen, hne, hm, phantomsOnly_iff.mp hp⟩

section
variable {s : State} (h : LockSafe s)
include h

/-- The invariant rests on these parts of the state. -/
theorem LockSafe.congr {t : State} (phase : t.phase = s.phase := by simp) (kind : t.resetKind = s.resetKind := by simp)
    (programmes : t.programmes = s.programmes := by simp) (state : t.track.state = s.track.state := by simp)
    (idle : t.merge.state = s.merge.state := by simp) (grant : t.merge.grant = s.merge.grant := by simp)
    (positions : t.track.positions = s.track.positions := by simp) : LockSafe t where
  unread := by simpa only [phase, kind, programmes] using h.unread
  required := by simpa only [programmes] using h.required
  noRackIn hl := (h.noRackIn (programmes ▸ hl)).congr state idle grant positions

/-- What keeps the lock keeps the invariant of a working part. -/
theorem LockSafe.keeps {t : State} (hr : s.phase = .running) (hk : KeepsLock s t) : LockSafe t where
  unread hp := by simp [hk.phase, hr] at hp
  required hl := hk.required (h.required (hk.lock ▸ hl))
  noRackIn hl := hk.noRackIn (h.noRackIn (hk.lock ▸ hl))

theorem LockSafe.conclude (b : State) : LockSafe (conclude b s) := by
  by_cases hr : s.phase = .running
  · exact h.keeps hr (.of_noRackIn fun hn => hn.conclude b)
  · rw [conclude_not_running hr]
    exact h.congr

/-- An event is acted on in a working part only (R176). -/
theorem LockSafe.event {b : State} {f : State → State} (hk : KeepsLock s (f s)) :
    LockSafe (Machine.conclude b (whenRunning f s)) := by
  refine LockSafe.conclude ?_ b
  unfold whenRunning
  split
  · next hr => exact h.keeps hr hk
  · exact h

/-- A RUN that is taken sets the lock, and it is not taken with the settings-required mark set (R3, R64). -/
theorem LockSafe.requestRun (hr : s.phase = .running) : LockSafe (requestRun s).1 := by
  unfold Machine.requestRun
  split
  · exact h
  · next hx =>
    have hq : s.programmes.required = false := by
      simp only [runRefused, Bool.or_eq_true, not_or, Bool.not_eq_true] at hx
      exact hx.2
    exact ⟨fun hp => by simp [hr] at hp, fun _ => by simpa using hq, fun hl => by simp at hl⟩

theorem LockSafe.perform (w : Waiting) : LockSafe (perform w s).1 := by
  unfold Machine.perform
  split
  · next hc =>
    by_cases hw : w.request = .run
    · rw [hw]
      exact h.requestRun hc.1
    · exact h.keeps hc.1 (keepsLock_executeRequest hw s)
  · exact h

end

end Sys2Proof.Machine
end

section
namespace Sys2Proof.Machine
open Sys2Proof

/-! ### What the link can do -/

/-- From `s` to `t` the link has changed itself and performed requests, as often as it likes (R181 to R183). -/
inductive LinkActs (s : State) : State → Prop where
  | none : LinkActs s s
  | link {t : State} (l : Link) : LinkActs s t → LinkActs s { t with link := l }
  | perform {t : State} (w : Waiting) : LinkActs s t → LinkActs s (perform w t).1

section
variable {s t : State} (h : LinkActs s t)
include h

theorem LinkActs.executeOldest : LinkActs s (executeOldest t) := by
  unfold Machine.executeOldest
  split
  · exact ((h.link _).perform _).link _
  · exact h

theorem LinkActs.submit (r : Request) : LinkActs s (submit r t) := by
  unfold Machine.submit
  split
  · exact (h.link _).executeOldest
  · exact h.link _

theorem LinkActs.takeByte (b : Byte) : LinkActs s (takeByte b t).1 := by
  unfold Machine.takeByte
  dsimp only
  split
  case h_1 =>
    dsimp only
    split
    · exact h.link _
    · exact h
  case h_5 =>
    split
    · exact h.link _
    · split
      · exact (h.link _).submit _
      · exact (h.link _).link _
  case h_4 =>
    split
    · exact (h.link _).link _
    · exact h.link _
  all_goals exact h.link _

end

theorem LinkActs.takeBytes {s t : State} (h : LinkActs s t) (fuel : Nat) (q : List Byte) :
    LinkActs s (takeBytes fuel q t) := by
  induction fuel generalizing q t with
  | zero => exact h
  | succ fuel ih =>
    cases q with
    | nil => exact h
    | cons b rest => exact ih (h.takeByte b) _

theorem linkActs_receiveByte (b : Byte) (high : Bool) (s : State) : LinkActs s (receiveByte b high s) := by
  unfold receiveByte
  split
  · exact (LinkActs.none.link _).takeBytes _ _
  · split
    · exact .none
    · exact (LinkActs.none.link _).link _

theorem linkActs_receiveGap (s : State) : LinkActs s (receiveGap s) := by
  unfold receiveGap
  dsimp only
  split
  · exact .link _ .none
  · exact ((LinkActs.none.link _).link _).link _

/-- At the end of a message the link acts, or the reset that the reply asked for is taken (R175). -/
theorem linkActs_endTransmission (s : State) :
    LinkActs s (endTransmission s) ∨ ∃ k l, endTransmission s = requestedReset k { s with link := l } := by
  unfold endTransmission
  dsimp only
  split
  · split
    · exact .inr ⟨_, _, rfl⟩
    · exact .inl (LinkActs.none.link _).executeOldest
  · exact .inl (.link _ .none)

theorem LockSafe.linkActs {s t : State} (h : LockSafe s) (ht : LinkActs s t) : LockSafe t := by
  induction ht with
  | none => exact h
  | link l _ ih => exact ih.congr rfl rfl rfl rfl rfl rfl rfl
  | perform w _ ih => exact ih.perform w

end Sys2Proof.Machine
end

section
namespace Sys2Proof.Machine
open Sys2Proof

/-! ### Resets and the profile read -/

/-- A reset keeps the invariant where the lock is clear or the reset warm (R64, R174). -/
theorem lockSafe_holdOrBegin {s : State} (hu : s.resetKind ≠ .warm → s.programmes.lock = false)
    (hr : s.programmes.lock = true → s.programmes.required = false) (hn : s.programmes.lock = false → NoRackIn s) :
    LockSafe (holdOrBegin s) := by
  unfold holdOrBegin beginStartUp
  split
  · exact ⟨fun hp => hu (by simpa using hp), hr, fun hl => (hn hl).congr rfl rfl rfl rfl⟩
  · split
    · next hw => exact ⟨fun hp => by simp at hp, hr, fun hl => (hn hl).congr rfl rfl rfl rfl⟩
    · next hw => exact ⟨fun _ => hu hw, hr, fun hl => (hn hl).congr rfl rfl rfl rfl⟩

theorem noRackIn_reset : NoRackIn State.reset := by
  refine ⟨rfl, rfl, rfl, fun i h r hr => ?_⟩
  have hn : State.reset.track.positions[i] = none := reset_position ⟨i, h⟩
  rw [hn] at hr
  cases hr

theorem lockSafe_coldReset (k : ResetKind) (c : ResetCause) (s : State) : LockSafe (coldReset k c s) :=
  lockSafe_holdOrBegin (fun _ => rfl) (fun _ => rfl) fun _ => noRackIn_reset.congr rfl rfl rfl rfl

theorem lockSafe_loseSupply (s : State) : LockSafe (loseSupply s) :=
  ⟨fun _ => rfl, fun _ => rfl, fun _ => noRackIn_reset.congr rfl rfl rfl rfl⟩

/-- The values of a profile reach neither track nor merge, and leave the lock (R62, R172). -/
theorem loadProfile_frame (img : List Byte) (s : State) : (loadProfile img s).track = s.track ∧
    (loadProfile img s).merge = s.merge ∧ (loadProfile img s).programmes.lock = s.programmes.lock := by
  unfold loadProfile
  dsimp only
  split <;> exact ⟨rfl, rfl, rfl⟩

section
variable {s : State} (h : LockSafe s)
include h

theorem LockSafe.warmReset (c : ResetCause) : LockSafe (warmReset c s) := by
  unfold Machine.warmReset
  dsimp only
  split
  · exact (lockSafe_coldReset s.resetKind s.resetCause s).congr rfl rfl rfl rfl rfl rfl rfl
  · refine lockSafe_holdOrBegin (fun hk => absurd rfl hk) h.required fun hl => ?_
    have hn := h.noRackIn hl
    exact ⟨rfl, hn.idle, hn.grant, hn.phantoms⟩

theorem LockSafe.requestedReset (k : ResetKind) : LockSafe (requestedReset k s) := by
  unfold Machine.requestedReset
  split
  · exact h.warmReset _
  · exact lockSafe_coldReset _ _ _

theorem LockSafe.assertCold : LockSafe (assertCold s) := by
  unfold Machine.assertCold
  dsimp only
  split
  · exact h.congr rfl rfl rfl rfl rfl rfl rfl
  · exact lockSafe_coldReset _ _ _

theorem LockSafe.assertWarm : LockSafe (assertWarm s) := by
  have hl : LockSafe { s with warmLine := true } := h.congr rfl rfl rfl rfl rfl rfl rfl
  unfold Machine.assertWarm
  dsimp only
  split
  · exact hl
  · exact hl.warmReset _

/-- A part that leaves the hold of a cold reset has its lock clear still (R174). -/
theorem LockSafe.releaseLine (l : RestartLine) : LockSafe (releaseLine l s) := by
  have released {u : State} (hu : LockSafe u) (hp : u.phase = s.phase) :
      LockSafe (if s.phase = .held && !lineAsserted u then Machine.beginStartUp u else u) := by
    split
    · next hc =>
      simp only [Bool.and_eq_true, Bool.not_eq_true', decide_eq_true_eq] at hc
      have hb : Machine.beginStartUp u = Machine.holdOrBegin u := by simp [Machine.holdOrBegin, hc.2]
      rw [hb]
      exact lockSafe_holdOrBegin (fun hk => hu.unread (.inr ⟨hp.trans hc.1, hk⟩)) hu.required hu.noRackIn
    · exact hu
  cases l <;> exact released (h.congr rfl rfl rfl rfl rfl rfl rfl) rfl

/-- The settings-required mark is set by the profile read alone, and the lock is clear then (R62). -/
theorem LockSafe.completeProfileRead (img : List Byte) : LockSafe (completeProfileRead img s) := by
  unfold Machine.completeProfileRead
  split
  · next hp =>
    obtain ⟨htrack, hmerge, hlock⟩ := loadProfile_frame img s
    have hl : s.programmes.lock = false := h.unread (.inl hp)
    have hn : NoRackIn (loadProfile img s) :=
      (h.noRackIn hl).congr (by rw [htrack]) (by rw [hmerge]) (by rw [hmerge]) (by rw [htrack])
    generalize loadProfile img s = u at hlock hn
    exact ⟨fun _ => hlock.trans hl, fun ht => by simp [hlock, hl] at ht, fun _ => hn.congr rfl rfl rfl rfl⟩
  · exact h

end

/-! ### The end of a start-up -/

section
variable {s : State} (h : NoRackIn s)
include h

theorem NoRackIn.motionResolved : NoRackIn (motionResolved s) := by
  have he : NoRackIn (restartExtension (fixPeriod s)) := by
    unfold restartExtension
    split <;> exact h.congr rfl rfl rfl rfl
  unfold Machine.motionResolved resolveMotion
  split
  · exact he
  · split
    · exact he.completeMotion
    · exact he.of_state rfl rfl rfl

/-- The track is restarted with no transfer to resolve (R31). -/
theorem NoRackIn.restartTrack : NoRackIn (restartTrack s) := by
  have hm := h.motionResolved
  have hc : (resolveCarried (Machine.motionResolved s)).1 = Machine.motionResolved s := by
    rw [resolveCarried_of_idle hm.idle]
  rcases restartTrack_cases s with e | ⟨x, e⟩ <;> rw [e, hc]
  · exact hm
  · exact hm.congr

theorem NoRackIn.endStartUp : NoRackIn (endStartUp s) := by
  have hg : NoRackIn (groupLatched s) := h.congr
  have ht : NoRackIn (trackRestarted s) := by
    rw [trackRestarted_eq]
    split
    · exact hg.restartTrack
    · exact hg
  have hh : NoRackIn (headsRead s) := ht.congr
  have hr : NoRackIn (returnRestarted s) := by
    unfold returnRestarted strayAtStart
    split
    · exact keptByEvaluation_noRackIn.restartReturn hh
    · split
      · exact hh.congr
      · exact hh
  rw [endStartUp_eq]
  exact hr.congr rfl rfl rfl rfl

end

theorem LockSafe.endStartUp {s : State} (h : LockSafe s) : LockSafe (endStartUp s) := by
  have hp : (Machine.endStartUp s).programmes = s.programmes ∧ (Machine.endStartUp s).phase = .running := by
    rw [endStartUp_eq]
    simp [startSample]
  refine ⟨fun hx => by simp [hp.2] at hx, ?_, fun hl => (h.noRackIn (hp.1 ▸ hl)).endStartUp⟩
  rw [hp.1]
  exact h.required

end Sys2Proof.Machine
end

section
namespace Sys2Proof.Machine
open Sys2Proof

/-! ### Commands and steps -/

theorem LockSafe.linked {b s : State} {f : State → State} (h : LockSafe s) (hf : LockSafe (f s)) :
    LockSafe (Machine.conclude b (whenLinked f s)) := by
  refine LockSafe.conclude ?_ b
  unfold whenLinked
  split
  · exact hf
  · exact h

theorem LockSafe.endTransmission {s : State} (h : LockSafe s) : LockSafe (endTransmission s) := by
  rcases linkActs_endTransmission s with ha | ⟨k, l, he⟩
  · exact h.linkActs ha
  · rw [he]
    refine LockSafe.requestedReset ?_ k
    exact h.congr rfl rfl rfl rfl rfl rfl rfl

/-- A motion completes with the lock kept in a part whose drive runs only in STEPPING and PURGING. -/
theorem keepsLock_indexMade {s : State} (hg : Guarded s) : KeepsLock s (indexMade s) :=
  .of_noRackIn (fun h => h.indexMade hg) (by unfold indexMade; split <;> simp)

section
variable (s : State)

theorem keepsLock_motionExpiry : KeepsLock s (motionExpiry s) :=
  .of_noRackIn NoRackIn.motionExpiry (by unfold motionExpiry; split <;> simp)

theorem keepsLock_position0Made : KeepsLock s (position0Made s) :=
  .of_noRackIn NoRackIn.position0Made (by unfold position0Made; split <;> simp)

theorem keepsLock_transferExpiry : KeepsLock s (transferExpiry s) :=
  .of_noRackIn NoRackIn.transferExpiry (by unfold transferExpiry; split <;> simp)

theorem keepsLock_tagByte (b : Byte) : KeepsLock s (tagByte b s) := by
  refine .of_noRackIn (fun h => h.congr ?_ ?_ ?_ ?_) <;> unfold tagByte queueTag <;> (repeat' split) <;> rfl

theorem keepsLock_deliveryExpiry (n : Quad) (i : Nat) : KeepsLock s (deliveryExpiry n i s) := by
  unfold deliveryExpiry
  split
  · exact .guarded _ (f := completeDelivery n i) .of_parts
  · exact .refl s

theorem keepsLock_travelEnds (i : Nat) : KeepsLock s (travelEnds i s) :=
  .of_noRackIn (keptByEvaluation_noRackIn.travelEnds i) (by unfold travelEnds; (repeat' split) <;> simp)

theorem keepsLock_spacingEnds : KeepsLock s (spacingEnds s) :=
  .of_noRackIn keptByEvaluation_noRackIn.spacingEnds (by simp [spacingEnds])

theorem keepsLock_arrivalSensor (before made : Bool) : KeepsLock s (arrivalSensor before made s) :=
  .of_noRackIn (keptByEvaluation_noRackIn.arrivalSensor before made)
    (by unfold arrivalSensor; split <;> simp)

theorem keepsLock_liftStack (n : Quad) : KeepsLock s (liftStack n s) :=
  .of_noRackIn (keptByEvaluation_noRackIn.liftStack n) (by simp [liftStack])

end

/-- Every command of a part with consistent moving parts keeps the invariant of the lock. -/
theorem exec_lockSafe {c : Instr} {s t : State} (h : LockSafe s) (hg : GuardedWhenRunning s) (he : exec c s = .next t) :
    LockSafe t := by
  have noted (p : Plant) : LockSafe (s.sense p) := h.congr
  have withInputs (i : Inputs) : LockSafe { s with inputs := i } := h.congr rfl rfl rfl rfl rfl rfl rfl
  cases hq : requestOf c with
  | some r =>
    rw [exec_request hq] at he
    obtain rfl := Host.Outcome.next.inj he
    have hw : LockSafe (withReadings c s) := by cases c <;> exact h.congr rfl rfl rfl rfl rfl rfl rfl
    exact hw.linked (hw.linkActs (LinkActs.none.submit r))
  | none =>
    cases c <;> try (cases hq; done)
    all_goals clear hq; obtain rfl := Host.Outcome.next.inj he; clear he
    case supervisoryByteReceived b high p => exact (noted p).linked ((noted p).linkActs (linkActs_receiveByte b high _))
    case receiveGapExpiry =>
      refine h.linked ?_
      unfold ifTimerRuns
      split
      · exact h.linkActs (linkActs_receiveGap s)
      · exact h
    case transmitComplete p => exact (noted p).linked (noted p).endTransmission
    case powerOnReset => exact lockSafe_coldReset _ _ _
    case supplyBelowOperatingLevel => exact lockSafe_loseSupply s
    case coldRestartLine => exact h.assertCold
    case warmRestartLine => exact h.assertWarm
    case restartLineReleased x => exact h.releaseLine x
    case profileReadComplete image => exact h.completeProfileRead image
    case endOfStartUp p =>
      split
      · exact (noted p).endStartUp.conclude s
      · exact noted p
    case stepCompletion p =>
      by_cases hr : s.phase = .running
      · exact (noted _).event (keepsLock_indexMade (hg hr))
      · exact LockSafe.conclude (by rw [whenRunning_of_not (by exact hr)]; exact noted _) s
    case tagByteReceived b => exact h.event (keepsLock_tagByte s b)
    case tagGapExpiry => exact h.event (.guarded _ (f := tagAbandon) (.of_values rfl rfl rfl rfl rfl rfl))
    case stepTimerExpiry => exact h.event (.guarded _ (f := stepFallsDue) (.of_values rfl rfl rfl rfl rfl rfl))
    case extensionExpiry => exact h.event (.guarded _ (f := extensionEnds) (.of_values rfl rfl rfl rfl rfl rfl))
    case sampleCycleExpiry => exact h.event (.guarded _ (f := startSample) (.of_values rfl rfl rfl rfl rfl rfl))
    case spurFullTimerExpiry n => exact h.event (.guarded _ (f := spurFullOut n) (.of_values rfl rfl rfl rfl rfl rfl))
    case motionTimeout => exact h.event (.guarded _ (keepsLock_motionExpiry s))
    case idleTimerExpiry => exact h.event (.guarded _ (.of_noRackIn NoRackIn.idleExpiry))
    case recoveryTimerExpiry => exact h.event (.guarded _ (.of_noRackIn NoRackIn.recoveryExpiry))
    case recoveryLimitExpiry => exact h.event (.guarded _ (.of_noRackIn NoRackIn.limitExpiry))
    case estopChainChange o => exact (withInputs _).event (.of_noRackIn (NoRackIn.changeEstop · o))
    case doorChainChange o => exact (withInputs _).event (.of_noRackIn (NoRackIn.changeDoor · o))
    case rinseFlowChange o => exact (withInputs _).event .of_parts
    case tankLevelChange o => exact (withInputs _).event (.of_noRackIn (NoRackIn.changeTank · o))
    case conversionAComplete a => exact h.event (.of_noRackIn (NoRackIn.conversionA · a))
    case conversionBComplete a => exact h.event (.of_noRackIn (NoRackIn.conversionB · a))
    case stackLift n => exact h.event (.guarded _ (keepsLock_liftStack s n))
    case sendButton n p => exact (noted p).event (.guarded _ (.of_noRackIn (NoRackIn.pressSend · n)))
    case spurHeadMade n p => exact (noted _).event (.guarded _ (.ifNot _ (f := profileHead n) .of_parts))
    case spurHeadClear n => exact (noted _).event (.guarded _ (.ifNot _ (f := withdrawHead n) .of_parts))
    case deliveryCompletion n i => exact h.event (keepsLock_deliveryExpiry s n i)
    case transferCompletion p => exact (noted _).event (keepsLock_position0Made _)
    case transferTimeout => exact h.event (.guarded _ (keepsLock_transferExpiry s))
    case unloadButton => exact h.event (.of_noRackIn keptByEvaluation_noRackIn.pressUnload)
    case travelTimerExpiry i => exact h.event (.ifNot _ (keepsLock_travelEnds s i))
    case spacingTimerExpiry => exact h.event (.ifNot _ (.guarded _ (keepsLock_spacingEnds s)))
    case routerArrivalSensor o => exact (withInputs _).event (keepsLock_arrivalSensor _ _ o)

theorem LockSafe.tick {s : State} (h : LockSafe s) : LockSafe (tick s) := by
  unfold Machine.tick
  split <;> exact h.congr rfl rfl rfl rfl rfl rfl rfl

/-- Settles O55, command by command: with the lock clear nothing but a RUN takes the track to a state that lets a rack in,
and RUN sets the lock. -/
theorem theSanitationLockIsSound : Obligations.TheSanitationLockIsSound := by
  intro s t hm hl hstep
  have h : LockSafe s := hl.lockSafe hm.1.2
  refine LockSafe.lockSound ?_
  rcases step_cases hstep with ⟨c, q, n, he⟩ | rfl
  · exact exec_lockSafe (s := { s with pending := q, choices := n }) (h.congr rfl rfl rfl rfl rfl rfl rfl) hm.guarded he
  · exact h.tick

end Sys2Proof.Machine
end

section
namespace Sys2Proof.Machine
open Sys2Proof

/-! ## The profile image -/

/-! ### Ranges and clamps -/

/-- A value is left by a clamp exactly when it lies in the range. -/
theorem eq_clamp_iff {lo hi v : Nat} (h : lo ≤ hi) : v = clamp lo hi v ↔ lo ≤ v ∧ v ≤ hi := by
  unfold clamp
  omega

theorem Sanitation.inRange_iff (v : Sanitation) : v.inRange = true ↔
    v.aBase ≤ 999 ∧ (100 ≤ v.aSpan ∧ v.aSpan ≤ 2000) ∧ v.bBase ≤ 999 ∧ (100 ≤ v.bSpan ∧ v.bSpan ≤ 2000) ∧
      (600 ≤ v.floor ∧ v.floor ≤ 950) ∧ v.agree ≤ 100 ∧ ∀ i : Fin 16, v.credit[i] ≤ 4095 := by
  have hc : (∀ x ∈ v.credit.toList, x ≤ 4095) ↔ ∀ i : Fin 16, v.credit[i] ≤ 4095 := by
    simp only [Vector.mem_toList_iff, Vector.mem_iff_getElem]
    exact ⟨fun h i => h _ ⟨i, i.isLt, rfl⟩, fun h x ⟨i, hi, hx⟩ => hx ▸ h ⟨i, hi⟩⟩
  simp only [inRange, Bool.and_eq_true, decide_eq_true_eq, List.all_eq_true, hc, and_assoc]

/-- Settings are left by the clamp exactly when they lie in their ranges (R171, Table 18). -/
theorem Sanitation.eq_clamp_iff (v : Sanitation) : v = v.clamp ↔ v.inRange = true := by
  have hc : v.credit = v.credit.map (Machine.clamp 0 4095) ↔ ∀ i : Fin 16, v.credit[i] ≤ 4095 := by
    constructor
    · intro h i
      have hi : v.credit[i] = Machine.clamp 0 4095 v.credit[i] := by
        simpa using congrArg (fun w : Vector Nat 16 => w[i]) h
      exact ((Machine.eq_clamp_iff (by decide)).mp hi).2
    · refine fun h => Vector.ext fun i hi => ?_
      rw [Vector.getElem_map]
      exact (Machine.eq_clamp_iff (by decide)).mpr ⟨Nat.zero_le _, h ⟨i, hi⟩⟩
  rw [inRange_iff, ← hc]
  obtain ⟨ab, as, bb, bs, f, g, cr⟩ := v
  simp only [clamp, mk.injEq, Machine.eq_clamp_iff (show 0 ≤ 999 by decide), Machine.eq_clamp_iff (show 100 ≤ 2000 by decide),
    Machine.eq_clamp_iff (show 600 ≤ 950 by decide), Machine.eq_clamp_iff (show 0 ≤ 100 by decide), Nat.zero_le, true_and]

/-! ### The checks of an image -/

theorem imageSound_iff (img : List Byte) :
    imageSound img = true ↔ imageSum img = imageHalf img 62 ∧ imageByte img 0 = 1 := by
  simp [imageSound]

theorem imageInRange_iff (img : List Byte) : imageInRange img = true ↔
    imageValues img = (imageValues img).clamp ∧ (imageSanitation img).inRange = true ∧ imageByte img 6 ≤ 1 := by
  rw [← Sanitation.eq_clamp_iff]
  simp [imageInRange, and_assoc]

/-- The clamped settings of an image, with the credit table entry by entry (R62, R171). -/
theorem imageSanitation_clamp (img : List Byte) : (imageSanitation img).clamp =
    ⟨clamp 0 999 (imageHalf img 19), clamp 100 2000 (imageHalf img 21), clamp 0 999 (imageHalf img 23),
      clamp 100 2000 (imageHalf img 25), clamp 600 950 (imageHalf img 27), clamp 0 100 (imageByte img 29),
      Vector.ofFn fun i : Fin 16 => clamp 0 4095 (imageHalf img (30 + 2 * i.val))⟩ := by
  simp [Sanitation.clamp, imageSanitation, Vector.map_ofFn, Function.comp_def]

/-! ### The end of the profile read -/

/-- The part at the end of its profile read, with what the image has given it (R169, R172, R176). -/
def profileTaken (status : ProfileStatus) (v : ProfileValues) (g : Sanitation) (o : SettingsSource) (required : Bool)
    (s : State) : State :=
  { s with
    phase := .settling, settle := .running 5,
    profile := { reading := false, bits := 512, values := v, status := status },
    programmes := { s.programmes with sanitation := g, source := o, required := required } }

theorem completeProfileRead_unsound {img : List Byte} {s : State} (hp : s.phase = .profileRead)
    (h : imageSound img = false) :
    completeProfileRead img s = profileTaken .fault .builtIn .builtIn .builtIn true s := by
  have hs : imageStatus img = .fault := by simp [imageStatus, h]
  rw [completeProfileRead, if_pos hp, loadProfile, if_pos hs, hs]
  rfl

theorem completeProfileRead_sound {img : List Byte} {s : State} (hp : s.phase = .profileRead)
    (h : imageSound img = true) : completeProfileRead img s =
      profileTaken (if imageInRange img then .ok else .clamped) (imageValues img).clamp (imageSanitation img).clamp .profile
        false s := by
  have hs : imageStatus img = if imageInRange img then .ok else .clamped := by simp [imageStatus, h]
  have hf : imageStatus img ≠ .fault := by rw [hs]; split <;> decide
  rw [completeProfileRead, if_pos hp, loadProfile, if_neg hf, hs]
  rfl

/-- Settles O51: the checks of the image, then its values field by field. -/
theorem profilesAreCheckedAndClamped : Obligations.ProfilesAreCheckedAndClamped := by
  intro s img _ b h within sound defaults factory read forced settings unforced after
  have hsound : imageSound img = true ↔ sound := imageSound_iff img
  have hsettings : (imageSanitation img).clamp = settings := imageSanitation_clamp img
  have hexact : imageInRange img = true ↔ unforced := by
    have hcredit : (∀ i : Fin 16, (imageSanitation img).credit[i] ≤ 4095) ↔ ∀ i : Fin 16, h (30 + 2 * i.val) ≤ 4095 := by
      simp [imageSanitation, h, b, imageHalf, imageByte]
    rw [imageInRange_iff, Sanitation.inRange_iff, hcredit]
    constructor
    · rintro ⟨hread, ⟨h19, ⟨h21, h21'⟩, h23, ⟨h25, h25'⟩, ⟨h27, h27'⟩, h29, h30⟩, h6⟩
      exact ⟨hread, h6, h21, h21', h25, h25', h19, h23, h27, h27', h29, h30⟩
    · rintro ⟨hread, h6, h21, h21', h25, h25', h19, h23, h27, h27', h29, h30⟩
      exact ⟨hread, ⟨h19, ⟨h21, h21'⟩, h23, ⟨h25, h25'⟩, ⟨h27, h27'⟩, h29, h30⟩, h6⟩
  have hexec : exec (.profileReadComplete img) s = .next (completeProfileRead img s) := rfl
  rw [hexec]
  refine ⟨fun hp hn => ?_, fun hp hs he => ?_, fun hp hs he => ?_, fun hp => ?_⟩
  · rw [completeProfileRead_unsound hp (by simpa [← hsound] using hn)]
    rfl
  · rw [completeProfileRead_sound hp (hsound.mpr hs), if_pos (hexact.mpr he), hsettings]
    rfl
  · rw [completeProfileRead_sound hp (hsound.mpr hs), if_neg (mt hexact.mp he), hsettings]
    rfl
  · rw [completeProfileRead, if_neg hp]

end Sys2Proof.Machine
end

section
namespace Sys2Proof.Machine
open Sys2Proof

/-! ## The requests of the programme table -/

/-! ### SET_PROGRAMME and SET_KIND_MAP -/

theorem programmeInRange_iff {s : State} {n : Byte} :
    programmeInRange s n = true ↔ n ≠ 0 ∧ n.toNat ≤ s.profile.values.tableLimit := by
  simp [programmeInRange]

theorem requestSetProgramme_refused {s : State} {n : Byte} (h : n = 0 ∨ s.profile.values.tableLimit < n.toNat)
    (q d : Byte) (c : Half) (x a w : Byte) : requestSetProgramme n q d c x a w s = (s, .range, .empty) := by
  have hn : programmeInRange s n = false := by
    rw [← Bool.not_eq_true, programmeInRange_iff, not_and_or, not_not, Nat.not_le]
    exact h
  simp [requestSetProgramme, hn]

theorem requestSetProgramme_stored {s : State} {n q : Byte} (hn : programmeInRange s n = true) (hq : q ≠ 0) (d : Byte)
    (c : Half) (x a w : Byte) : requestSetProgramme n q d c x a w s =
      (setDescriptor (programmeOf n) (some (clampedDescriptor d c x a w)) s,
        if 60 < x.toNat ∨ 3 < w.toNat then .clamped else .ok,
        .programme (descriptorReport (some (clampedDescriptor d c x a w)))) := by
  have hy : yes q = true := bne_iff_ne.mpr hq
  simp [requestSetProgramme, hn, hy]

theorem requestSetProgramme_removed {s : State} {n : Byte} (hn : programmeInRange s n = true) (d : Byte) (c : Half)
    (x a w : Byte) : requestSetProgramme n 0 d c x a w s =
      (setDescriptor (programmeOf n) none s, .ok, .programme (descriptorReport none)) := by
  simp [requestSetProgramme, hn, yes]

/-- The kind map that five bytes in range give (R59). -/
def kindMapOf (u p c k t : Byte) : KindMap :=
  ⟨programmeOf u, programmeOf p, programmeOf c, programmeOf k, programmeOf t⟩

theorem requestSetKindMap_eq (u p c k t : Byte) (s : State) : requestSetKindMap u p c k t s =
    if s.profile.values.tableLimit < u.toNat ∨ s.profile.values.tableLimit < p.toNat ∨
        s.profile.values.tableLimit < c.toNat ∨ s.profile.values.tableLimit < k.toNat ∨
        s.profile.values.tableLimit < t.toNat then (s, .range, .empty)
    else (retestHeads { s with programmes := { s.programmes with kindMap := kindMapOf u p c k t } }, .ok,
      .kindMap (kindMapOf u p c k t)) := by
  simp [requestSetKindMap, kindMapOf]

/-! ### SET_SANITATION -/

theorem requestSetSanitation_locked {s : State} (h : s.programmes.lock = true) (v : Sanitation) :
    requestSetSanitation v s = (s, .locked, .empty) := by
  simp [requestSetSanitation, h]

theorem requestSetSanitation_refused {s : State} (h : s.programmes.lock = false) {v : Sanitation} (hv : v.inRange = false) :
    requestSetSanitation v s = (s, .range, .empty) := by
  simp [requestSetSanitation, h, hv]

/-- The settings that the host sets, in force (R63). -/
def withSettings (v : Sanitation) (s : State) : State :=
  { s with programmes := { s.programmes with sanitation := v, source := .host, required := false } }

theorem requestSetSanitation_taken {s : State} (h : s.programmes.lock = false) {v : Sanitation} (hv : v.inRange = true) :
    requestSetSanitation v s = (withSettings v s, .ok, .sanitation v) := by
  simp [requestSetSanitation, h, hv, withSettings]

/-- New settings leave nothing to follow (R63). -/
theorem conclude_withSettings {s : State} (hs : Settled s) (kind : Byte) (res : Result) (body : ReplyBody) (v : Sanitation) :
    conclude s (answered kind res body (withSettings v s)) = onlyAnswered kind res body (withSettings v s) :=
  conclude_settled (hs.congr rfl rfl rfl rfl rfl rfl) id

/-- Settles O31, request by request, with the re-test of the refused heads station by station. -/
theorem settingsAreStored : Obligations.SettingsAreStored := by
  refine ⟨⟨?programme, ?kindMap, ?retest⟩, ?sanitation⟩
  case programme =>
    intro s n q d c x a w hl stored told table
    refine ⟨fun hn hs => ?_, fun h0 hn hq => ?_, fun h0 hn => ?_⟩
    · exact exec_unchanged (r := .setProgramme n q d c x a w) rfl hl hs (requestSetProgramme_refused hn q d c x a w)
    · exact exec_answered (r := .setProgramme n q d c x a w) rfl hl
        (requestSetProgramme_stored (programmeInRange_iff.mpr ⟨h0, hn⟩) hq d c x a w)
    · exact exec_answered (r := .setProgramme n 0 d c x a w) rfl hl
        (requestSetProgramme_removed (programmeInRange_iff.mpr ⟨h0, hn⟩) d c x a w)
  case kindMap =>
    intro s u p c k t hl limit stored above
    refine ⟨fun ha hs => ?_, fun ha => ?_⟩
    · exact exec_unchanged (r := .setKindMap u p c k t) rfl hl hs
        ((requestSetKindMap_eq u p c k t s).trans (if_pos ha))
    · exact exec_answered (r := .setKindMap u p c k t) rfl hl
        ((requestSetKindMap_eq u p c k t s).trans (if_neg ha))
  case retest =>
    refine fun s => ⟨by rw [retestHeads_eq], fun n => ?_⟩
    rw [retestHeads_get]
    simp only [retestedUnit, fitted, decide_eq_true_eq]
  case sanitation =>
    intro s ab as bb bs f g cr hl hs v fits
    have hfits : v.inRange = true ↔ fits := by
      have hcredit : (∀ i : Fin 16, v.credit[i] ≤ 4095) ↔ ∀ i : Fin 16, cr[i].toNat ≤ 4095 := by simp [v]
      rw [Sanitation.inRange_iff, hcredit]
      tauto
    refine ⟨fun hk => ?_, fun hk hn => ?_, fun hk hf => ?_⟩
    · exact exec_unchanged (r := .setSanitation ab as bb bs f g cr) rfl hl hs (requestSetSanitation_locked hk v)
    · exact exec_unchanged (r := .setSanitation ab as bb bs f g cr) rfl hl hs
        (requestSetSanitation_refused (v := v) hk (by simpa [← hfits] using hn))
    · exact (exec_answered (c := .setSanitation ab as bb bs f g cr) (r := .setSanitation ab as bb bs f g cr) rfl hl
        (requestSetSanitation_taken hk (hfits.mpr hf))).trans
        (congrArg _ (conclude_withSettings hs _ _ _ v))

end Sys2Proof.Machine
end

section
namespace Sys2Proof.Machine
open Sys2Proof

/-! ## Rack ids -/

/-! ### How often an id is held -/

/-- How often a station holds an id: in its stack, its bay, its spur and its deliveries. -/
def unitCount (i : RackId) (u : StationUnit) : Nat :=
  (u.stack.map (·.id)).count i + (u.bay.toList.map (·.id)).count i + (u.spur.map (·.expected)).count i +
    (u.deliveries.map (·.id)).count i

/-- How often the stations hold an id. -/
def stationsCount (i : RackId) (f : Four StationUnit) : Nat :=
  unitCount i f.one + unitCount i f.two + unitCount i f.three + unitCount i f.four

/-- How often the records of the track hold an id. -/
def trackCount (i : RackId) (v : Vector (Option TrackRecord) 17) : Nat := v.toList.countP fun o => o.any (·.id == i)

/-- How often the queues of the return hold an id. -/
def retCount (i : RackId) (r : Return) : Nat :=
  (r.lane.map (·.id)).count i + (r.cleanEnd.map (·.record.id)).count i + (r.transit.map (·.record.id)).count i +
    (r.surplus.map (·.id)).count i

/-- How often an id is held in the part. -/
def heldCount (i : RackId) (s : State) : Nat := stationsCount i s.stations + trackCount i s.track.positions + retCount i s.ret

/-- The count is the one of the list of holders (R81). -/
theorem count_holders (i : RackId) (s : State) : ((holders none s).map (·.2)).count i = heldCount i s := by
  have htrack : ((s.track.positions.toList.filterMap fun r => r.map fun r => (Holder.track, r.id)).map (·.2)).count i =
      trackCount i s.track.positions := by
    rw [List.count_eq_countP, List.countP_map, List.countP_filterMap]
    refine List.countP_congr fun o _ => ?_
    cases o <;> simp
  simp only [holders, List.map_append, List.count_append, htrack, heldCount, stationsCount, unitCount, retCount, quads,
    List.flatMap_cons, List.flatMap_nil, spurIds, List.map_map, Function.comp_def, List.append_nil]
  simp only [Four.get, reduceCtorEq, beq_iff_eq, if_false]
  omega

theorem idsDistinct_iff {s : State} : IdsDistinct s ↔ (∀ i, i ≠ 0 → heldCount i s ≤ 1) ∧ GrantStands s := by
  refine and_congr_left fun _ => ?_
  rw [heldIds, List.nodup_iff_count_le_one]
  refine forall_congr' fun i => ?_
  by_cases h0 : i = 0
  · have hnone : (((holders none s).map (·.2)).filter (· != 0)).count i = 0 :=
      List.count_eq_zero.mpr fun hm => by simp [h0] at hm
    exact iff_of_true (hnone ▸ Nat.zero_le 1) fun hi => absurd h0 hi
  · rw [List.count_filter (by simpa using h0), count_holders, forall_prop_of_true h0]

theorem heldAnywhere_iff {i : RackId} {s : State} : heldAnywhere i s = true ↔ heldCount i s ≠ 0 := by
  rw [← count_holders, Ne, List.count_eq_zero]
  simp [heldAnywhere]

/-! ### The records of the track -/

/-- A position holds a record of this id. -/
def recordHas (i : RackId) (o : Option TrackRecord) : Nat := (o.any (·.id == i)).toNat

theorem trackCount_set (i : RackId) (v : Vector (Option TrackRecord) 17) (j : Nat) (h : j < 17) (o : Option TrackRecord) :
    trackCount i (v.set j o) + recordHas i v[j] = trackCount i v + recordHas i o := by
  have hj : j < v.toList.length := by simpa using h
  have hone (o : Option TrackRecord) : recordHas i o = if o.any (·.id == i) = true then 1 else 0 := by
    unfold recordHas
    cases o.any (·.id == i) <;> rfl
  have hpos : recordHas i v[j] ≤ trackCount i v := by
    rw [hone]
    split
    · next hp => exact List.countP_pos_iff.mpr ⟨v[j], by simp, hp⟩
    · exact Nat.zero_le _
  have hset : trackCount i (v.set j o) = trackCount i v - recordHas i v[j] + recordHas i o := by
    rw [trackCount, Vector.toList_set, List.countP_set hj, hone, hone, trackCount]
    simp
  omega

/-- A record changed in its marks leaves every id where it is. -/
theorem trackCount_set_same {i : RackId} {v : Vector (Option TrackRecord) 17} {j : Nat} {h : j < 17} {o : Option TrackRecord}
    (ho : recordHas i o = recordHas i v[j]) : trackCount i (v.set j o) = trackCount i v := by
  have := trackCount_set i v j h o
  omega

theorem recordHas_map {f : TrackRecord → TrackRecord} (hf : ∀ r, (f r).id = r.id) (i : RackId) (o : Option TrackRecord) :
    recordHas i (o.map f) = recordHas i o := by
  cases o <;> simp [recordHas, hf]

theorem trackCount_startedRecords (i : RackId) (s : State) :
    trackCount i (startedRecords s) = trackCount i s.track.positions := by
  unfold startedRecords
  rw [trackCount_set_same, trackCount_set_same]
  · exact recordHas_map (by intro r; rfl) i _
  · rw [Vector.getElem_set_ne _ _ (by decide)]
    exact recordHas_map (by intro r; rfl) i _

theorem creditRecord_id (c : Nat) (r : TrackRecord) : (creditRecord c r).id = r.id := by
  unfold creditRecord
  split <;> rfl

theorem trackCount_creditedRecords (i : RackId) (c : Nat) (v : Vector (Option TrackRecord) 17) :
    trackCount i (creditedRecords c v) = trackCount i v := by
  unfold creditedRecords
  rw [trackCount_set_same, trackCount_set_same]
  · exact recordHas_map (creditRecord_id c) i _
  · rw [Vector.getElem_set_ne _ _ (by decide)]
    exact recordHas_map (creditRecord_id c) i _

/-- The record at X leaves the track when the others move (R15). -/
theorem trackCount_shiftRecords (i : RackId) (v : Vector (Option TrackRecord) 17) :
    trackCount i (shiftRecords v) + recordHas i v[16] = trackCount i v := by
  have hv : v.toList = v.toList.dropLast ++ [v[16]] := by
    have hne : v.toList ≠ [] := by simp
    rw [← List.dropLast_concat_getLast hne, List.getLast_eq_getElem]
    simp
  have hs : (shiftRecords v).toList = none :: v.toList.dropLast := rfl
  rw [trackCount, hs, trackCount]
  conv_rhs => rw [hv]
  rw [List.countP_append, List.countP_cons, List.countP_singleton]
  unfold recordHas
  cases v[16].any (·.id == i) <;> simp

/-- After a completed motion the track holds no id that it did not hold before, and X has handed its own over (R15, R19). -/
theorem trackCount_movedRecords {i : RackId} (h0 : i ≠ 0) (v : Vector (Option TrackRecord) 17) (eye : Bool) :
    trackCount i (movedRecords v eye) + recordHas i v[16] ≤ trackCount i v := by
  have hshift := trackCount_shiftRecords i v
  have hd1 : trackCount i ((shiftRecords v).set 13 (v[12].map fun r => { r with leaving := false })) =
      trackCount i (shiftRecords v) :=
    trackCount_set_same (by rw [shiftRecords_getElem]; exact recordHas_map (by intro r; rfl) i _)
  have hx := trackCount_set i ((shiftRecords v).set 13 (v[12].map fun r => { r with leaving := false })) 16 (by decide)
    (checkedAtX v[15] eye)
  have hle : recordHas i (checkedAtX v[15] eye) ≤ recordHas i v[15] := by
    have hp : recordHas i (some phantom) = 0 := congrArg Bool.toNat (beq_false_of_ne h0.symm)
    unfold checkedAtX
    split
    · cases v[15] with
      | none => exact hp.le
      | some r => exact le_rfl
    · exact Nat.zero_le _
  simp only [Vector.getElem_set, shiftRecords_getElem] at hx
  unfold movedRecords
  simp at hx
  omega

end Sys2Proof.Machine
end

section
namespace Sys2Proof.Machine
open Sys2Proof

/-! ### The invariant with racks in hand -/

/-- A profiled head stays at the head of the spur, with its id and kind. -/
def HeadKept (u w : StationUnit) : Prop := ∀ x, u.head = some x → x.profiled = true →
  ∃ y, w.head = some y ∧ y.expected = x.expected ∧ y.kind = x.kind ∧ y.profiled = true

theorem HeadKept.of_spur {u w : StationUnit} (h : w.spur = u.spur) : HeadKept u w := fun x hx hp =>
  ⟨x, by rw [StationUnit.head, h]; exact hx, rfl, rfl, hp⟩

/-- A grant stands as long as the heads of the spurs and of the lane stay (R93, R94). -/
theorem GrantStands.kept {s t : State} (h : GrantStands s) (grant : t.merge.grant = s.merge.grant)
    (heads : ∀ n, transferFrom s n = true → HeadKept (s.stations.get n) (t.stations.get n))
    (lane : ∀ r, s.ret.lane.head? = some r → t.ret.lane.head? = some r) : GrantStands t := by
  unfold GrantStands at h ⊢
  rw [grant]
  cases hg : s.merge.grant with
  | none => trivial
  | some g =>
    rw [hg] at h
    cases g with
    | spur n e k q =>
      obtain ⟨x, hx, rfl, rfl, hp⟩ := h
      exact heads n (by simp [transferFrom, hg]) x hx hp
    | rewash r => exact lane r h

/-- With these ids in hand no id but 0 is held twice, and the grant stands: the invariant while a rack is on its way from one
queue to another within an action (R103). -/
structure DistinctWith (hand : List RackId) (s : State) : Prop where
  once : ∀ i, i ≠ 0 → heldCount i s + hand.count i ≤ 1
  grant : GrantStands s

theorem idsDistinct_iff_with {s : State} : IdsDistinct s ↔ DistinctWith [] s := by
  rw [idsDistinct_iff]
  exact ⟨fun ⟨h, hg⟩ => ⟨h, hg⟩, fun ⟨h, hg⟩ => ⟨h, hg⟩⟩

section
variable {a b : List RackId} {s : State} (h : DistinctWith a s)
include h

theorem DistinctWith.kept {t : State} (held : ∀ i, i ≠ 0 → heldCount i t + b.count i ≤ heldCount i s + a.count i)
    (grant : GrantStands t) : DistinctWith b t := ⟨fun i h0 => (held i h0).trans (h.once i h0), grant⟩

/-- The invariant rests on these parts of the state. -/
theorem DistinctWith.congr {t : State} (positions : t.track.positions = s.track.positions := by simp)
    (stations : t.stations = s.stations := by simp) (ret : t.ret = s.ret := by simp)
    (grant : t.merge.grant = s.merge.grant := by simp) : DistinctWith a t := by
  refine h.kept (fun i _ => ?_) (h.grant.kept grant (fun n _ => .of_spur (by rw [stations])) fun r hr => by rw [ret]; exact hr)
  simp only [heldCount, positions, stations, ret, le_refl]

/-- Other records on the track, none of them with an id of its own. -/
theorem DistinctWith.withTrack {t : State}
    (positions : ∀ i, i ≠ 0 → trackCount i t.track.positions ≤ trackCount i s.track.positions)
    (stations : t.stations = s.stations := by simp) (ret : t.ret = s.ret := by simp)
    (grant : t.merge.grant = s.merge.grant := by simp) : DistinctWith a t := by
  refine h.kept (fun i h0 => ?_) (h.grant.kept grant (fun n _ => .of_spur (by rw [stations])) fun r hr => by rw [ret]; exact hr)
  have := positions i h0
  simp only [heldCount, stations, ret]
  omega

omit h in
theorem stationsCount_set (i : RackId) (f : Four StationUnit) (n : Quad) (u : StationUnit) :
    stationsCount i (f.set n u) + unitCount i (f.get n) = stationsCount i f + unitCount i u := by
  match n with
  | 0 | 1 | 2 | 3 => simp only [stationsCount, Four.set, Four.get]; omega

/-- Another station, with what it takes from hand or gives to it. -/
theorem DistinctWith.setStation {n : Quad} {u : StationUnit}
    (count : ∀ i, i ≠ 0 → unitCount i u + b.count i ≤ unitCount i (s.stations.get n) + a.count i)
    (head : transferFrom s n = true → HeadKept (s.stations.get n) u) : DistinctWith b (s.setStation n u) := by
  refine h.kept (fun i h0 => ?_) (h.grant.kept rfl (fun m hm => ?_) fun _ hr => hr)
  · have := stationsCount_set i s.stations n u
    have := count i h0
    simp only [heldCount, State.setStation_stations, State.setStation_track, State.setStation_ret]
    omega
  · rw [State.setStation_stations, Four.get_set]
    split
    · next he => exact he ▸ head (he ▸ hm)
    · exact .of_spur rfl

/-- Another return, with what it takes from hand or gives to it. -/
theorem DistinctWith.withRet {r : Return}
    (count : ∀ i, i ≠ 0 → retCount i r + b.count i ≤ retCount i s.ret + a.count i)
    (lane : ∀ x, s.ret.lane.head? = some x → r.lane.head? = some x) : DistinctWith b { s with ret := r } := by
  refine h.kept (fun i h0 => ?_) (h.grant.kept rfl (fun m _ => .of_spur rfl) lane)
  have := count i h0
  simp only [heldCount]
  omega

/-- Another return with the same ids in its queues. -/
theorem DistinctWith.sameRet {r : Return} (lane : r.lane = s.ret.lane := by rfl) (clean : r.cleanEnd = s.ret.cleanEnd := by rfl)
    (transit : r.transit.map (·.record.id) = s.ret.transit.map (·.record.id) := by rfl)
    (surplus : r.surplus = s.ret.surplus := by rfl) : DistinctWith a { s with ret := r } :=
  h.withRet (fun i _ => by simp only [retCount, lane, clean, transit, surplus, le_refl]) fun _ hx => lane ▸ hx

/-! ### The track -/

theorem DistinctWith.stepStart : DistinctWith a (stepStart s) :=
  h.withTrack fun i _ => by rw [stepStart_track]; exact (trackCount_startedRecords i s).le

theorem DistinctWith.dueEvaluation : DistinctWith a (dueEvaluation s) := by
  generalize hd : Machine.dueEvaluation s = t
  have ho := dueEvaluation_outcome s
  rw [hd] at ho
  cases ho with
  | nothing => exact h
  | blocked e => exact h.congr rfl rfl rfl rfl
  | starts e => exact DistinctWith.stepStart (h.congr rfl rfl rfl rfl)
  | held e q => exact h.congr rfl rfl rfl rfl
  | purges => exact h.stepStart
  | purgeHeld q => exact h.congr rfl rfl rfl rfl

omit h in
/-- The queues take at most the record that stood at X (R16). -/
theorem retCount_handedRet (i : RackId) (s : State) :
    retCount i (handedRet s) ≤ retCount i s.ret + recordHas i s.track.positions[16] := by
  unfold handedRet
  cases s.track.positions[16] with
  | none => exact Nat.le_add_right ..
  | some r =>
    have hr : recordHas i (some r) = if r.id = i then 1 else 0 := by
      by_cases hi : r.id = i <;> simp [recordHas, hi]
    rw [hr]
    dsimp only
    split <;> simp only [retCount, List.map_append, List.map_cons, List.map_nil, List.count_append, List.count_singleton,
      beq_iff_eq] <;> omega

omit h in
theorem handedRet_lane {s : State} {x : TrackRecord} (hx : s.ret.lane.head? = some x) :
    (handedRet s).lane.head? = some x := by
  unfold handedRet
  (repeat' split) <;> simp [List.head?_append, hx]

theorem DistinctWith.completeMotion : DistinctWith a (completeMotion s) := by
  refine h.kept (fun i h0 => ?_) (h.grant.kept (by simp) (fun n _ => .of_spur (by simp)) fun x hx => ?_)
  · have := trackCount_movedRecords h0 s.track.positions s.plant.exitEye
    have := retCount_handedRet i s
    simp only [heldCount, completeMotion_ret, completeMotion_frame]
    rw [completeMotion_track]
    dsimp only
    omega
  · rw [completeMotion_ret]
    exact handedRet_lane hx

theorem DistinctWith.enterState (st : TrackState) : DistinctWith a (enterState st s) := h.congr

theorem DistinctWith.stateAfterCompletion : DistinctWith a (stateAfterCompletion s) :=
  h.congr (by rw [stateAfterCompletion_track])

theorem DistinctWith.trackOpening : DistinctWith a (trackOpening s) := h.congr (by rw [trackOpening_track])

theorem DistinctWith.enterJam (c : FaultCause) (n : FaultNotice) : DistinctWith a (enterJam c n s) :=
  h.congr (by simp [Machine.enterJam])

theorem DistinctWith.resumeMotion : DistinctWith a (resumeMotion s) := by
  unfold Machine.resumeMotion
  split
  · exact h.completeMotion.enterState _
  · exact h.congr (by simp [runDrive])

theorem DistinctWith.enterRecovery : DistinctWith a (enterRecovery s) := h.congr (by simp [Machine.enterRecovery])

theorem DistinctWith.wake : DistinctWith a (wake s) := by
  unfold Machine.wake
  dsimp only
  split
  · refine DistinctWith.enterRecovery ?_
    exact h.congr rfl rfl rfl rfl
  · refine DistinctWith.enterState ?_ _
    exact h.congr rfl rfl rfl rfl

theorem DistinctWith.runMove : DistinctWith a (runMove s) := by
  have hr : DistinctWith a { s with track := { s.track with runEnable := true } } := h.congr rfl rfl rfl rfl
  unfold Machine.runMove
  dsimp only
  split
  · split
    · exact hr.resumeMotion
    · exact hr.enterState _
  · split
    · exact hr.resumeMotion
    · split
      · exact hr.enterRecovery
      · exact hr.enterState _
  · exact hr.wake
  · exact hr

/-! ### Samples -/

theorem DistinctWith.formed (x : Code) (y : Option Code) : DistinctWith a (formed x y s) :=
  h.withTrack fun i _ => by rw [formed_track]; exact (trackCount_creditedRecords i _ _).le

theorem DistinctWith.completeRecovery : DistinctWith a (completeRecovery s) := by
  refine DistinctWith.dueEvaluation (DistinctWith.enterState ?_ _)
  exact h.congr rfl rfl rfl rfl

theorem DistinctWith.formSample (x : Code) (y : Option Code) : DistinctWith a (formSample x y s) := by
  unfold Machine.formSample
  dsimp only
  split
  · exact (h.formed x y).dueEvaluation.completeRecovery
  · exact (h.formed x y).dueEvaluation

theorem DistinctWith.conversionA (c : Code) : DistinctWith a (conversionA c s) := by
  unfold Machine.conversionA
  split
  · split
    · exact h.formSample _ _
    · exact h.congr rfl rfl rfl rfl
  · exact h

theorem DistinctWith.conversionB (c : Code) : DistinctWith a (conversionB c s) := by
  unfold Machine.conversionB
  split
  · exact h.formSample _ _
  · exact h

end

end Sys2Proof.Machine
end

section
namespace Sys2Proof.Machine
open Sys2Proof

-- Elaborated one declaration after another: each waiting worker thread costs a whole stack of
-- the memory a compile of the text may take.
set_option Elab.async false

/-! ### The stations -/

theorem head_eq_some {u : StationUnit} {x : SpurEntry} (h : u.head = some x) : ∃ rest, u.spur = x :: rest :=
  List.head?_eq_some_iff.mp h

theorem count_anonymous {i : RackId} (h0 : i ≠ 0) : [(0 : RackId)].count i = 0 :=
  List.count_eq_zero.mpr fun hm => h0 (List.mem_singleton.mp hm)

/-- The part with what a bay held told LOOSE, as a stack-lift begins (R71). -/
def bayDiscarded (n : Quad) (s : State) : State :=
  match (s.stations.get n).bay with
  | some e => sendLocation e.id .loose s
  | none => s

theorem bayDiscarded_eq (n : Quad) (s : State) :
    bayDiscarded n s = { s with directory := (bayDiscarded n s).directory } := by
  unfold bayDiscarded
  split
  · unfold sendLocation updateEntry
    split <;> rfl
  · rfl

theorem popStack_cons {n : Quad} {s : State} {e : RackEntry} {rest : List RackEntry} (h : (s.stations.get n).stack = e :: rest) :
    popStack n s = sendLocation e.id (.bay n)
      ((bayDiscarded n s).setStation n { s.stations.get n with stack := rest, bay := some e }) := by
  unfold popStack
  simp only [h]
  rfl

theorem popStack_nil {n : Quad} {s : State} (h : (s.stations.get n).stack = []) :
    popStack n s = (bayDiscarded n s).setStation n { s.stations.get n with bay := some ⟨0, .unknown⟩ } := by
  unfold popStack
  simp only [h]
  rfl

section
variable {a : List RackId} {s : State} (h : DistinctWith a s)
include h

theorem DistinctWith.sendLocation (id : RackId) (l : Location) : DistinctWith a (sendLocation id l s) := h.congr

theorem DistinctWith.sendUnpin (id : RackId) (l : Location) : DistinctWith a (sendUnpin id l s) := h.congr

theorem DistinctWith.sendKind (id : RackId) (k : Kind) : DistinctWith a (sendKind id k s) := h.congr

theorem DistinctWith.enqueue (n : Notice) : DistinctWith a (enqueue n s) := h.congr

/-- Another head with the id of the one it replaces, and with its kind once it is profiled. -/
theorem DistinctWith.setHead {n : Quad} {e x : SpurEntry} (hx : (s.stations.get n).head = some x)
    (hk : x.profiled = true → e.kind = x.kind ∧ e.profiled = true) (hid : e.expected = x.expected := by rfl) :
    DistinctWith a (setHead n e s) := by
  obtain ⟨rest, hrest⟩ := head_eq_some hx
  refine h.setStation (fun i _ => ?_) fun _ y hy hp => ?_
  · simp only [unitCount, hrest, List.map_cons, List.tail_cons, hid, le_refl]
  · obtain rfl := Option.some.inj (hx.symm.trans hy)
    exact ⟨e, rfl, hid, hk hp⟩

/-- A head with other marks (R88, R91). -/
theorem DistinctWith.markHead {n : Quad} {e x : SpurEntry} (hx : (s.stations.get n).head = some x)
    (hid : e.expected = x.expected := by rfl) (hk : e.kind = x.kind := by rfl) (hp : e.profiled = x.profiled := by rfl) :
    DistinctWith a (Machine.setHead n e s) := h.setHead hx (fun hx' => ⟨hk, hp.trans hx'⟩) hid

theorem DistinctWith.retestHead (n : Quad) : DistinctWith a (retestHead n s) := by
  unfold Machine.retestHead
  split
  · next e _ =>
    split
    · exact h.markHead (x := e) ‹_›
    · exact h
  · exact h

theorem DistinctWith.resolveStation (n : Quad) : DistinctWith a (resolveStation n s) := by
  unfold Machine.resolveStation
  split
  · next e _ =>
    split
    · exact DistinctWith.enqueue (h.markHead (x := e) ‹_›) _
    · exact h
  · exact h

theorem DistinctWith.retestHeads : DistinctWith a (retestHeads s) := foldl_stations_keeps (fun n _ h => h.retestHead n) _ h

theorem DistinctWith.resolveHeads : DistinctWith a (resolveHeads s) :=
  foldl_stations_keeps (fun n _ h => h.resolveStation n) _ h

omit h in
/-- A grant that is chosen names what stands at the head of its queue (R93, R94). -/
theorem grantStands_makeGrant {r : Requester} {g : Grant} (hc : chooseRequester s = some r) (hg : grantOf s r = some g) :
    GrantStands (makeGrant g s) := by
  cases r with
  | rewash =>
    obtain ⟨x, hx, rfl⟩ := Option.map_eq_some_iff.mp hg
    exact hx
  | spur n =>
    have he : eligible s n = true := by
      unfold chooseRequester at hc
      split at hc
      · cases hc
      · dsimp only at hc
        split at hc
        · next m hm =>
          obtain rfl := Requester.spur.inj (Option.some.inj hc)
          exact (List.mem_filter.mp (List.mem_of_find?_eq_some hm)).2
        · obtain ⟨m, hm, he⟩ := Option.map_eq_some_iff.mp hc
          obtain rfl := Requester.spur.inj he
          exact (List.mem_filter.mp (List.mem_of_head? hm)).2
    obtain ⟨x, hx, hx'⟩ := Option.bind_eq_some_iff.mp hg
    obtain ⟨p, _, rfl⟩ := Option.map_eq_some_iff.mp hx'
    have hp : x.profiled = true := by
      simp only [eligible, headWaiting, hx, Bool.and_eq_true] at he
      exact he.1.2.1
    exact ⟨x, hx, rfl, rfl, hp⟩

theorem DistinctWith.grantOpportunity : DistinctWith a (grantOpportunity s) := by
  have htested : DistinctWith a (if s.merge.retest then Machine.retestHeads { s with merge := { s.merge with retest := false } }
      else s) := by
    split
    · exact DistinctWith.retestHeads (h.congr rfl rfl rfl rfl)
    · exact h
  unfold Machine.grantOpportunity
  dsimp only
  split
  · split
    · next g hg =>
      obtain ⟨r, hr, hg⟩ := Option.bind_eq_some_iff.mp hg
      exact ⟨htested.resolveHeads.once, grantStands_makeGrant hr hg⟩
    · exact htested.resolveHeads
  · exact h

/-- A head that is profiled keeps its id, and an entry made in an empty spur is anonymous (R76). -/
theorem DistinctWith.profileHead (n : Quad) : DistinctWith a (profileHead n s) := by
  unfold Machine.profileHead
  dsimp only
  split
  · next e he =>
    split
    · exact h
    · next hp => exact DistinctWith.sendKind (h.setHead he fun hp' => absurd hp' hp) _ _
  · next he =>
    have hnil : (s.stations.get n).spur = [] := List.head?_eq_none_iff.mp he
    refine h.setStation (fun i h0 => ?_) fun _ x hx => by simp [he] at hx
    simp only [unitCount, hnil, List.map_cons, List.map_nil, count_anonymous h0, List.count_nil, le_refl]

theorem DistinctWith.readSpurHead (n : Quad) : DistinctWith a (readSpurHead n s) := by
  unfold Machine.readSpurHead
  split
  · exact h.profileHead n
  · exact h

omit h in
theorem unitCount_tail (i : RackId) (u : StationUnit) : unitCount i { u with spur := u.spur.tail } ≤ unitCount i u := by
  have : (u.spur.tail.map (·.expected)).count i ≤ (u.spur.map (·.expected)).count i :=
    ((List.tail_sublist _).map _).count_le i
  simp only [unitCount]
  omega

/-- A head leaves a spur that has not been granted (R76, R77). -/
theorem DistinctWith.withdrawHead {n : Quad} (hn : transferFrom s n = false) : DistinctWith a (withdrawHead n s) := by
  unfold Machine.withdrawHead
  split
  · split
    · refine DistinctWith.sendLocation (h.setStation (fun i _ => Nat.add_le_add_right (unitCount_tail i _) _) ?_) _ _
      exact fun hn' => by simp [hn] at hn'
    · exact h
  · exact h

/-- Another stack, bay and deliveries of a station, with the spur as it stands. -/
theorem DistinctWith.sameSpur {n : Quad} {u : StationUnit}
    (count : ∀ i, i ≠ 0 → unitCount i u ≤ unitCount i (s.stations.get n))
    (spur : u.spur = (s.stations.get n).spur := by rfl) : DistinctWith a (s.setStation n u) :=
  h.setStation (fun i h0 => Nat.add_le_add_right (count i h0) _) fun _ => .of_spur spur

/-- The top of the stack replaces what the bay held, or an anonymous entry does (R71, R72). -/
theorem DistinctWith.popStack (n : Quad) : DistinctWith a (popStack n s) := by
  have hloose : DistinctWith a (bayDiscarded n s) := by rw [bayDiscarded_eq]; exact h.congr rfl rfl rfl rfl
  have hsame : (bayDiscarded n s).stations = s.stations := by rw [bayDiscarded_eq]
  cases hs : (s.stations.get n).stack with
  | nil =>
    rw [popStack_nil hs]
    refine hloose.sameSpur (fun i h0 => ?_) (by rw [hsame])
    rw [hsame]
    simp only [unitCount, Option.toList_some, List.map_cons, List.map_nil, count_anonymous h0]
    omega
  | cons e rest =>
    rw [popStack_cons hs]
    refine DistinctWith.sendLocation (hloose.sameSpur (fun i h0 => ?_) (by rw [hsame])) _ _
    rw [hsame]
    simp only [unitCount, hs, Option.toList_some, List.map_cons, List.map_nil, List.count_cons, List.count_nil]
    omega

/-- The bay's rack joins the spur, or an anonymous one does (R73). -/
theorem DistinctWith.pressSend (n : Quad) : DistinctWith a (pressSend n s) := by
  unfold Machine.pressSend
  dsimp only
  split
  · split
    · unfold takeSend
      dsimp only
      generalize hid : ((s.stations.get n).bay.map (·.id)).getD 0 = id
      have hsent : DistinctWith a (Machine.sendLocation id (.spur n) (s.setStation n
          { s.stations.get n with spur := (s.stations.get n).spur ++ [sentEntry id], bay := none })) := by
        refine DistinctWith.sendLocation (h.setStation (fun i h0 => ?_) fun _ x hx hp => ?_) _ _
        · have : [id].count i ≤ ((s.stations.get n).bay.toList.map (·.id)).count i := by
            cases hb : (s.stations.get n).bay with
            | none => rw [← hid, hb]; exact (count_anonymous h0).le
            | some e => rw [← hid, hb]; exact le_rfl
          simp only [unitCount, sentEntry, List.map_append, List.map_cons, List.map_nil, List.count_append,
            Option.toList_none, List.count_nil]
          omega
        · obtain ⟨rest, hrest⟩ := head_eq_some hx
          exact ⟨x, by simp [StationUnit.head, hrest], rfl, rfl, hp⟩
      split
      · exact hsent.wake
      · exact hsent
    · exact h.sameSpur fun _ _ => le_rfl
  · exact h

theorem DistinctWith.deliveryExpiry (n : Quad) (j : Nat) : DistinctWith a (deliveryExpiry n j s) := by
  unfold Machine.deliveryExpiry completeDelivery
  split
  · next d hd =>
    split
    · simp only [hd]
      refine DistinctWith.sendLocation (h.sameSpur fun i _ => ?_) _ _
      obtain ⟨hj, rfl⟩ := List.getElem?_eq_some_iff.mp hd
      have hperm := ((List.getElem_cons_eraseIdx_perm hj).map (·.id)).count_eq i
      simp only [unitCount, List.map_cons, List.count_cons] at hperm ⊢
      omega
    · exact h
  · exact h

theorem DistinctWith.requestClearStack (n : Byte) : DistinctWith a (requestClearStack n s).1 := by
  unfold Machine.requestClearStack
  split
  · next m _ =>
    refine DistinctWith.congr (t := _) (h.sameSpur (n := m) (u := { s.stations.get m with stack := [] }) fun i _ => ?_)
    simp only [unitCount, List.map_nil, List.count_nil]
    omega
  · exact h

theorem DistinctWith.requestSetStation (n m k : Byte) : DistinctWith a (requestSetStation n m k s).1 := by
  unfold Machine.requestSetStation
  split
  · dsimp only
    split
    · exact h.sameSpur fun _ _ => le_rfl
    · exact h
  · exact h

theorem DistinctWith.requestForceProgramme (n p : Byte) : DistinctWith a (requestForceProgramme n p s).1 := by
  unfold Machine.requestForceProgramme
  split
  · exact h
  · split
    · exact h
    · split
      · exact h
      · next e he =>
        split
        · exact h
        · dsimp only
          split
          · exact h
          · exact DistinctWith.resolveStation (h.markHead (x := e) he) _

theorem DistinctWith.setDescriptor (p : Fin 8) (d : Option Descriptor) : DistinctWith a (setDescriptor p d s) :=
  DistinctWith.retestHeads (h.congr rfl rfl rfl rfl)

end

/-- The ids that are not anonymous are counted as often as all of them (R81). -/
theorem count_namedIds {i : RackId} (h0 : i ≠ 0) (q : List RackEntry) : (q.map (·.id)).count i = (namedIds q).count i := by
  rw [namedIds, List.count_filter (by simpa using h0)]

/-- Entries whose ids are new and differ join a stack (R81). -/
theorem DistinctWith.requestLoadStack {s : State} (h : DistinctWith [] s) (n c : Byte) (es : List LoadEntry) :
    DistinctWith [] (requestLoadStack n c es s).1 := by
  unfold Machine.requestLoadStack
  split
  · next m q _ _ =>
    dsimp only
    split
    · exact h
    · split
      · exact h
      · split
        · exact h
        · next hnew =>
          simp only [Bool.or_eq_true, not_or, Bool.not_eq_true', decide_eq_false_iff_not, not_not, List.any_eq_true,
            not_exists, not_and, heldAnywhere_iff] at hnew
          obtain ⟨hnodup, hfree⟩ := hnew
          have hload : DistinctWith [] (s.setStation m { s.stations.get m with stack := q.reverse ++ (s.stations.get m).stack }) := by
            refine ⟨fun i h0 => ?_, h.grant.kept rfl (fun k _ => .of_spur ?_) fun _ hx => hx⟩
            · have hset := stationsCount_set i s.stations m { s.stations.get m with stack := q.reverse ++ (s.stations.get m).stack }
              have hold := h.once i h0
              have hone := List.nodup_iff_count_le_one.mp hnodup i
              have hzero : (namedIds q).count i = 0 ∨ heldCount i s = 0 :=
                or_iff_not_imp_left.mpr fun hi => hfree i (List.count_pos_iff.mp (Nat.pos_of_ne_zero hi))
              simp only [unitCount, List.map_append, List.map_reverse, List.count_append, List.count_reverse,
                count_namedIds h0 q] at hset
              simp only [heldCount, State.setStation_stations, State.setStation_track, State.setStation_ret,
                List.count_nil] at hold hzero ⊢
              omega
            · rw [State.setStation_stations, Four.get_set]
              split
              · next he => rw [he]
              · rfl
          exact hload.congr
  · exact h

end Sys2Proof.Machine
end

section
namespace Sys2Proof.Machine
open Sys2Proof

/-! ### The identity of an admitted rack (R102, R103) -/

theorem removeHead_stack (n m : Quad) (s : State) :
    ((removeHead n s).stations.get m).stack = (s.stations.get m).stack := by
  rw [removeHead_stations, Four.get_set]
  split
  · next he => rw [he]
  · rfl

theorem removeHead_bay (n m : Quad) (s : State) : ((removeHead n s).stations.get m).bay = (s.stations.get m).bay := by
  rw [removeHead_stations, Four.get_set]
  split
  · next he => rw [he]
  · rfl

theorem removeHead_deliveries (n m : Quad) (s : State) :
    ((removeHead n s).stations.get m).deliveries = (s.stations.get m).deliveries := by
  rw [removeHead_stations, Four.get_set]
  split
  · next he => rw [he]
  · rfl

/-- The holders other than the granted head are those of the part without it (log entry 22). -/
theorem holders_granted (n : Quad) (s : State) : holders (some n) s = holders none (removeHead n s) := by
  have hspur (m : Quad) : spurIds (some n == some m) (s.stations.get m) =
      spurIds (none == some m) ((removeHead n s).stations.get m) := by
    unfold spurIds
    rw [removeHead_get]
    by_cases he : m = n
    · simp [he]
    · simp [he, Ne.symm he]
  simp only [holders, removeHead_stack, removeHead_bay, removeHead_deliveries, hspur, removeHead_track, removeHead_ret]

theorem holderOf_eq_none {n : Quad} {i : RackId} {s : State} (h : holderOf n i s = none) : heldCount i (removeHead n s) = 0 := by
  rw [holderOf, Option.map_eq_none_iff, List.find?_eq_none, holders_granted] at h
  rw [← count_holders, List.count_eq_zero]
  intro hm
  obtain ⟨x, hx, he⟩ := List.mem_map.mp hm
  exact h x hx (beq_iff_eq.mpr he)

theorem holderOf_mem {n : Quad} {i : RackId} {s : State} {x : Holder} (h : holderOf n i s = some x) :
    (x, i) ∈ holders none (removeHead n s) := by
  obtain ⟨⟨y, j⟩, hy, rfl⟩ := Option.map_eq_some_iff.mp h
  have hj : j = i := by simpa using List.find?_some hy
  rw [← holders_granted, ← hj]
  exact List.mem_of_find?_eq_some hy

/-- The ids that a resting holder holds (R103). -/
def restingIds (s : State) : Holder → List RackId
  | .stack n => (s.stations.get n).stack.map (·.id)
  | .bay n => (s.stations.get n).bay.toList.map (·.id)
  | .spur n => (s.stations.get n).spur.map (·.expected)
  | .surplus => s.ret.surplus.map (·.id)
  | .track | .rewash | .clean | .onReturn | .delivery _ => []

theorem mem_restingIds {s : State} {x : Holder} {i : RackId} (h : (x, i) ∈ holders none s) (hx : x.resting = true) :
    i ∈ restingIds s x := by
  simp only [holders, List.mem_append, List.mem_flatMap, List.mem_map, List.mem_filterMap, Prod.mk.injEq,
    Option.map_eq_some_iff, spurIds] at h
  cases x with
  | stack n | bay n | spur n => simpa [restingIds, mem_quads] using h
  | surplus => simpa [restingIds] using h
  | track | rewash | clean | onReturn | delivery n => cases hx

/-- The entries of a queue that holds an id forget it (R103). -/
theorem count_forget {α : Type} {ids : α → RackId} {f : α → α} {i : RackId}
    (hf : ∀ e, ids (f e) = if ids e = i then 0 else ids e) {q : List α} (hi : i ∈ q.map ids) {j : RackId} (h0 : j ≠ 0) :
    ((q.map f).map ids).count j + [i].count j ≤ (q.map ids).count j := by
  have hmap : (q.map f).map ids = (q.map ids).map fun x => if x = i then 0 else x := by
    simp only [List.map_map, Function.comp_def, hf]
  rw [hmap]
  by_cases hj : j = i
  · have hnone : ((q.map ids).map fun x => if x = i then 0 else x).count j = 0 := by
      refine List.count_eq_zero.mpr fun hm => ?_
      obtain ⟨x, _, hx⟩ := List.mem_map.mp hm
      split at hx
      · exact h0 hx.symm
      · next hne => exact hne (hx.trans hj)
    have := List.count_pos_iff.mpr (hj ▸ hi : j ∈ q.map ids)
    rw [hnone, hj, List.count_singleton_self]
    rw [hj] at this
    omega
  · have hother : [i].count j = 0 := List.count_eq_zero.mpr fun hm => hj (List.mem_singleton.mp hm)
    rw [hother, List.count_eq_countP, List.countP_map, Nat.add_zero]
    refine List.countP_mono_left fun x _ hx => ?_
    rw [Function.comp_apply] at hx
    split at hx
    · exact absurd (beq_iff_eq.mp hx).symm h0
    · exact hx

theorem heldCount_removeHead (i : RackId) (n : Quad) (s : State) :
    heldCount i (removeHead n s) + (((s.stations.get n).spur.take 1).map (·.expected)).count i = heldCount i s := by
  have hset := stationsCount_set i s.stations n { s.stations.get n with spur := (s.stations.get n).spur.tail }
  have hspur : ((s.stations.get n).spur.map (·.expected)).count i =
      (((s.stations.get n).spur.take 1).map (·.expected)).count i + ((s.stations.get n).spur.tail.map (·.expected)).count i := by
    cases (s.stations.get n).spur <;> simp [List.count_cons, Nat.add_comm]
  simp only [unitCount, hspur] at hset
  simp only [heldCount, removeHead_stations, removeHead_track, removeHead_ret]
  omega

/-- The granted head keeps its id when a resting holder forgets it. -/
theorem forgetId_head (n : Quad) (i : RackId) (x : Holder) (s : State) :
    ((forgetId n i x s).stations.get n).spur.take 1 = (s.stations.get n).spur.take 1 := by
  unfold forgetId
  split
  · rw [State.setStation_stations, Four.get_set]
    split
    · next he => rw [he]
    · rfl
  · rw [State.setStation_stations, Four.get_set]
    split
    · next he => rw [he]
    · rfl
  · next m =>
    rw [State.setStation_stations, Four.get_set]
    split
    · next he =>
      rw [← he, forgetSpur, if_pos (by simp)]
      cases (s.stations.get n).spur <;> simp
    · rfl
  · rfl
  · rfl

/-- A resting holder other than the granted head lets go of an id it holds (R103). -/
theorem heldCount_forgetId {n : Quad} {i : RackId} {x : Holder} {s : State} (hm : (x, i) ∈ holders none (removeHead n s))
    (hx : x.resting = true) {j : RackId} (h0 : j ≠ 0) :
    heldCount j (forgetId n i x s) + [i].count j ≤ heldCount j s := by
  have hi := mem_restingIds hm hx
  have hentry (e : RackEntry) : (e.forget i).id = if e.id = i then 0 else e.id := by
    unfold RackEntry.forget
    split <;> rfl
  have hspur (e : SpurEntry) : (e.forget i).expected = if e.expected = i then 0 else e.expected := by
    unfold SpurEntry.forget
    split <;> rfl
  cases x with
  | stack m =>
    rw [restingIds, removeHead_stack] at hi
    have := count_forget (ids := fun e : RackEntry => e.id) (f := fun e => e.forget i) hentry hi h0
    have := stationsCount_set j s.stations m { s.stations.get m with stack := (s.stations.get m).stack.map (·.forget i) }
    simp only [unitCount] at this
    simp only [forgetId, heldCount, State.setStation_stations, State.setStation_track, State.setStation_ret]
    omega
  | bay m =>
    rw [restingIds, removeHead_bay] at hi
    have := count_forget (ids := fun e : RackEntry => e.id) (f := fun e => e.forget i) hentry hi h0
    have := stationsCount_set j s.stations m { s.stations.get m with bay := (s.stations.get m).bay.map (·.forget i) }
    simp only [unitCount, Option.toList_map] at this
    simp only [forgetId, heldCount, State.setStation_stations, State.setStation_track, State.setStation_ret]
    omega
  | spur m =>
    rw [restingIds, removeHead_get] at hi
    have hq : ((forgetSpur (m = n) i (s.stations.get m).spur).map (·.expected)).count j + [i].count j ≤
        ((s.stations.get m).spur.map (·.expected)).count j := by
      unfold forgetSpur
      split at hi
      · next he =>
        have := count_forget (ids := fun e : SpurEntry => e.expected) (f := fun e => e.forget i) hspur hi h0
        rw [if_pos (by simpa using he)]
        cases hs : (s.stations.get m).spur with
        | nil => simp [hs] at hi
        | cons h rest =>
          rw [hs, List.tail_cons] at this
          simp only [List.take_succ_cons, List.take_zero, List.tail_cons, List.map_append, List.map_cons, List.map_nil,
            List.count_append, List.count_cons, List.count_nil] at this ⊢
          omega
      · next he => rw [if_neg (by simpa using he)]; exact count_forget (ids := fun e : SpurEntry => e.expected) (f := fun e => e.forget i) hspur hi h0
    have := stationsCount_set j s.stations m { s.stations.get m with spur := forgetSpur (m = n) i (s.stations.get m).spur }
    simp only [unitCount] at this
    simp only [forgetId, heldCount, State.setStation_stations, State.setStation_track, State.setStation_ret]
    omega
  | surplus =>
    have := count_forget (ids := fun e : RackEntry => e.id) (f := fun e => e.forget i) hentry hi h0
    simp only [removeHead_ret] at this
    simp only [forgetId, heldCount, retCount]
    omega
  | track | rewash | clean | onReturn | delivery m => cases hx

/-- Once the granted head has left, the final id is held nowhere (R103). -/
theorem presenceCheck_once {s : State} (h : ∀ j, j ≠ 0 → heldCount j s ≤ 1) (n : Quad) (i : RackId) (o : IdSource) (v : Bool)
    {j : RackId} (h0 : j ≠ 0) :
    heldCount j (removeHead n (presenceCheck n i o v s).state) + [(presenceCheck n i o v s).id].count j ≤ 1 := by
  have hs := heldCount_removeHead j n s
  have hone := h j h0
  unfold presenceCheck
  split
  · next hi =>
    dsimp only
    rw [hi, count_anonymous h0]
    omega
  · split
    · next hn =>
      dsimp only
      by_cases hj : j = i
      · rw [hj, holderOf_eq_none hn, List.count_singleton_self]
      · have hother : [i].count j = 0 := List.count_eq_zero.mpr fun hm => hj (List.mem_singleton.mp hm)
        omega
    · next x hx =>
      split
      · next hr =>
        have := heldCount_forgetId (holderOf_mem hx) hr h0
        have := heldCount_removeHead j n (forgetId n i x s)
        dsimp only
        omega
      · dsimp only
        rw [count_anonymous h0]
        omega

/-! ### The merge -/

theorem heldCount_congr {s t : State} (positions : t.track.positions = s.track.positions := by simp)
    (stations : t.stations = s.stations := by simp) (ret : t.ret = s.ret := by simp) (i : RackId) :
    heldCount i t = heldCount i s := by simp only [heldCount, positions, stations, ret]

theorem recordHas_some (i : RackId) (r : TrackRecord) : recordHas i (some r) = [r.id].count i := by
  by_cases hi : r.id = i <;> simp [recordHas, hi]

/-- A record put at a position brings its own id at most. -/
theorem heldCount_setPosition_le (i : RackId) (j : Fin 17) (r : TrackRecord) (s : State) :
    heldCount i (s.setPosition j (some r)) ≤ heldCount i s + [r.id].count i := by
  have := trackCount_set i s.track.positions j j.isLt (some r)
  rw [recordHas_some] at this
  simp only [heldCount, State.setPosition_track, State.setPosition_stations, State.setPosition_ret]
  omega

theorem completeSpur_once {s : State} (h : ∀ j, j ≠ 0 → heldCount j s ≤ 1) (n : Quad) (e : RackId) (k : Kind) (p : Snapshot)
    {j : RackId} (h0 : j ≠ 0) : heldCount j (completeSpur n e k p s) ≤ 1 := by
  unfold completeSpur
  dsimp only
  generalize resolveIdentity n e s.merge.tags s.merge.overrun = q
  have hc := presenceCheck_once h n q.1 q.2.1 s.merge.overrun h0
  generalize presenceCheck n q.1 q.2.1 s.merge.overrun s = c at hc
  rw [heldCount_congr (s := (removeHead n c.state).setPosition 0
    (some (builtRecord n c.id k p c.source (sendAdmission n c.id e k c.state).2)))]
  exact (heldCount_setPosition_le j 0 _ _).trans hc

/-- The head of the lane moves to position 0 (R105). -/
theorem completeRewash_once {s : State} (h : ∀ j, j ≠ 0 → heldCount j s ≤ 1) {j : RackId} (h0 : j ≠ 0) :
    heldCount j (completeRewash s) ≤ 1 := by
  have hone := h j h0
  unfold completeRewash
  split
  · next r rest hl =>
    dsimp only
    have hpos := trackCount_set j s.track.positions 0 (by decide) (some (reentered r))
    have hid : recordHas j (some (reentered r)) = [r.id].count j := recordHas_some j _
    have hlane : (s.ret.lane.map (·.id)).count j = [r.id].count j + (rest.map (·.id)).count j := by
      rw [hl, List.map_cons, ← List.singleton_append, List.count_append]
    have hpart : heldCount j { s.setPosition 0 (some (reentered r)) with ret := { s.ret with lane := rest } } ≤ 1 := by
      simp only [heldCount, retCount, State.setPosition_track, State.setPosition_stations] at hone ⊢
      change stationsCount j s.stations + trackCount j (s.track.positions.set 0 (some (reentered r))) + _ ≤ 1
      omega
    split
    · exact (heldCount_congr (by simp) (by simp) (by simp) j).trans_le hpart
    · exact hpart
  · exact hone

/-- With the grant discarded only the ids matter. -/
theorem distinctWith_mergeIdle {s : State} (h : ∀ j, j ≠ 0 → heldCount j s ≤ 1) : DistinctWith [] (mergeIdle s) :=
  ⟨h, trivial⟩

section
variable {s : State} (h : DistinctWith [] s)
include h

theorem DistinctWith.completeTransfer : DistinctWith [] (completeTransfer s) := by
  have hs : ∀ j, j ≠ 0 → heldCount j (stopPusher s) ≤ 1 := h.once
  unfold Machine.completeTransfer
  dsimp only
  split
  · next n e k p _ =>
    exact (distinctWith_mergeIdle fun _ => completeSpur_once hs n e k p).dueEvaluation.readSpurHead n
  · exact (distinctWith_mergeIdle fun _ => completeRewash_once hs).dueEvaluation
  · exact distinctWith_mergeIdle hs

theorem DistinctWith.transferExpiry : DistinctWith [] (transferExpiry s) := by
  unfold Machine.transferExpiry jamTransfer
  dsimp only
  split
  · split
    · refine DistinctWith.enterJam ?_ _ _
      exact h.congr rfl rfl rfl rfl
    · exact h.congr rfl rfl rfl rfl
  · exact h

theorem DistinctWith.mergeOpening : DistinctWith [] (mergeOpening s) := by
  unfold Machine.mergeOpening
  split
  · exact h.congr rfl rfl rfl rfl
  · exact h

theorem DistinctWith.dropTransfer : DistinctWith [] (dropTransfer s) := by
  have hd : DistinctWith [] (Machine.mergeIdle (stopPusher s)) := distinctWith_mergeIdle h.once
  unfold Machine.dropTransfer readGranted
  split
  · exact hd.readSpurHead _
  · exact hd

theorem DistinctWith.resolveTransfer : DistinctWith [] (resolveTransfer s) := by
  unfold Machine.resolveTransfer
  split
  · exact h.completeTransfer
  · exact h.dropTransfer

theorem DistinctWith.resolveInterrupted : DistinctWith [] (resolveInterrupted s) := by
  unfold Machine.resolveInterrupted
  split
  · exact h.resolveTransfer
  · exact h

theorem DistinctWith.settleJam : DistinctWith [] (settleJam s).1 := by
  have he : DistinctWith [] (emptyTags s) := h.congr rfl rfl rfl rfl
  unfold Machine.settleJam
  dsimp only
  split
  · exact distinctWith_mergeIdle h.once
  · split
    · exact he.completeTransfer
    · split
      · exact he.dropTransfer
      · next n e _ _ _ =>
        split
        · exact he.dropTransfer
        · refine (distinctWith_mergeIdle fun j h0 => ?_).readSpurHead n
          have := heldCount_removeHead j n (emptyTags s)
          have := he.once j h0
          rw [heldCount_congr (s := removeHead n (emptyTags s))]
          omega

theorem DistinctWith.tagByte (b : Byte) : DistinctWith [] (tagByte b s) := by
  unfold Machine.tagByte
  split
  · split
    · exact h.congr rfl rfl rfl rfl
    · exact h
  · unfold queueTag
    split <;> exact h.congr rfl rfl rfl rfl
  · exact h.congr rfl rfl rfl rfl

end

end Sys2Proof.Machine
end

section
namespace Sys2Proof.Machine
open Sys2Proof

-- Elaborated one declaration after another: each waiting worker thread costs a whole stack of
-- the memory a compile of the text may take.
set_option Elab.async false

/-! ### The return -/

section
variable {a : List RackId} {s : State} (h : DistinctWith a s)
include h

/-- The oldest entry of the clean end joins transit (R133). -/
theorem DistinctWith.completeConfirm : DistinctWith a (completeConfirm s) := by
  unfold Machine.completeConfirm
  split
  · exact h
  · next e rest hclean =>
    refine DistinctWith.dueEvaluation (DistinctWith.sendUnpin (h.withRet (fun i _ => ?_) (by exact fun _ hx => hx)) _ _)
    simp only [retCount, hclean, List.map_append, List.map_cons, List.map_nil, List.count_append, List.count_cons,
      List.count_nil]
    omega

theorem DistinctWith.confirmOldest : DistinctWith a (confirmOldest s) := by
  unfold Machine.confirmOldest
  split
  · exact h.completeConfirm
  · exact h.sameRet

theorem DistinctWith.pressUnload : DistinctWith a (pressUnload s) := by
  unfold Machine.pressUnload
  split
  · exact h
  · split
    · exact h
    · exact h.confirmOldest

theorem DistinctWith.releaseReturn {e : CleanEntry} {rest : List CleanEntry} (hclean : s.ret.cleanEnd = e :: rest) :
    DistinctWith a (releaseReturn e rest s).1 := by
  refine DistinctWith.confirmOldest (h.withRet (fun i _ => ?_) (by exact fun _ hx => hx))
  simp only [retCount, hclean, List.map_cons, le_refl]

/-- The oldest entry of the clean end joins the lane (R135). -/
theorem DistinctWith.releaseRewash {e : CleanEntry} {rest : List CleanEntry} (hclean : s.ret.cleanEnd = e :: rest) :
    DistinctWith a (releaseRewash e rest s).1 := by
  unfold Machine.releaseRewash
  split
  · exact h
  · split
    · exact h
    · refine DistinctWith.dueEvaluation (DistinctWith.sendLocation (h.withRet (fun i _ => ?_) fun x hx => ?_) _ _)
      · simp only [retCount, hclean, List.map_append, List.map_cons, List.map_nil, List.count_append, List.count_cons,
          List.count_nil]
        omega
      · simp [List.head?_append, hx]

theorem DistinctWith.requestReleaseQuarantine (x : Byte) : DistinctWith a (requestReleaseQuarantine x s).1 := by
  unfold Machine.requestReleaseQuarantine
  split
  · exact h
  · split
    · exact h
    · next hclean =>
      split
      · exact h
      · split
        · exact h.releaseReturn hclean
        · exact h.releaseRewash hclean

omit h in
/-- A delivery takes its id from hand (R144). -/
theorem DistinctWith.startDelivery {i : RackId} (h : DistinctWith (i :: a) s) (n : Quad) (k : Kind) (o : Origin) :
    DistinctWith a (startDelivery n i k o s) := by
  refine DistinctWith.sendLocation (h.setStation (fun j _ => ?_) (by exact fun _ => .of_spur rfl)) _ _
  simp only [unitCount, List.map_append, List.map_cons, List.map_nil, List.count_append, List.count_cons, List.count_nil]
  omega

theorem DistinctWith.offerFeed : DistinctWith a (offerFeed s).1 := by
  unfold Machine.offerFeed
  split
  · next e rest n hsurplus _ =>
    refine DistinctWith.startDelivery (h.withRet (fun i _ => ?_) (by exact fun _ hx => hx)) n _ _
    simp only [retCount, hsurplus, List.map_cons, List.count_cons]
    omega
  · exact h

/-- The rack at the head of transit is taken in hand (R140). -/
theorem DistinctWith.leaveTransit {t : Transit} {rest : List Transit} (ht : s.ret.transit = t :: rest) :
    DistinctWith (t.record.id :: a) (leaveTransit s) := by
  refine h.withRet (fun i _ => ?_) (by exact fun _ hx => hx)
  simp only [retCount, ht, List.tail_cons, List.map_cons, List.count_cons]
  omega

theorem DistinctWith.completePending : DistinctWith a (completePending s) := by
  unfold Machine.completePending
  split
  · exact h.completeConfirm
  · exact h

omit h in
/-- A rack in hand is put in its place (R141, R143). -/
theorem DistinctWith.placeRack {r : TrackRecord} (h : DistinctWith (r.id :: a) s) (route : Route) :
    DistinctWith a (placeRack r route s) := by
  cases route with
  | station n => exact DistinctWith.startDelivery h.sameRet n _ _
  | surplus =>
    refine DistinctWith.sendLocation (h.withRet (fun i _ => ?_) (by exact fun _ hx => hx)) _ _
    simp only [retCount, List.map_append, List.map_cons, List.map_nil, List.count_append, List.count_cons, List.count_nil]
    omega

omit h in
/-- A rack in hand may leave the part. -/
theorem DistinctWith.drop {i : RackId} (h : DistinctWith (i :: a) s) : DistinctWith a s :=
  h.kept (fun _ _ => Nat.add_le_add_left (List.count_le_count_cons ..) _) h.grant

section
variable {t : Transit} {rest : List Transit} (ht : s.ret.transit = t :: rest)
include ht

theorem DistinctWith.routeHead (route : Route) : DistinctWith a (routeHead t.record route s) :=
  ((h.leaveTransit ht).placeRack route).completePending

theorem DistinctWith.routeHeld (route : Route) : DistinctWith a (routeHeld t.record route s) :=
  DistinctWith.placeRack (h.leaveTransit ht).completePending route

theorem DistinctWith.inspectHead (e : DirEntry) (q : RetireTest) : DistinctWith a (inspectHead t.record e q s) := by
  have hl := (h.leaveTransit ht).drop
  exact DistinctWith.completePending (DistinctWith.enqueue (DistinctWith.sendLocation hl.sameRet _ _) _)

theorem DistinctWith.arrive : DistinctWith a (arrive t.record s) := by
  have hl : DistinctWith a (routerLookup t.record.id s).1 := h.congr
  have htl : (routerLookup t.record.id s).1.ret.transit = t :: rest := by simpa using ht
  unfold Machine.arrive
  dsimp only
  split
  · exact hl.inspectHead htl _ _
  · split
    · exact (hl.routeHead htl _).offerFeed
    · exact hl.routeHead htl _
    · exact DistinctWith.enqueue hl.sameRet _

end

theorem DistinctWith.tryArrival : DistinctWith a (tryArrival s) := by
  unfold Machine.tryArrival
  split
  · next ht =>
    split
    · exact h.arrive ht
    · exact h
  · exact h

theorem DistinctWith.retryHeld : DistinctWith a (retryHeld s) := by
  unfold Machine.retryHeld
  split
  · next ht =>
    split
    · exact h.routeHeld ht _
    · exact h
  · exact h

theorem DistinctWith.prompt : DistinctWith a (prompt s) := by
  unfold Machine.prompt
  dsimp only
  split
  · exact h
  · split
    · exact h.retryHeld.offerFeed.retryHeld
    · exact h.retryHeld.offerFeed

theorem DistinctWith.returnOpening : DistinctWith a (returnOpening s) := h.sameRet

theorem DistinctWith.returnClearance : DistinctWith a (returnClearance s) :=
  DistinctWith.tryArrival (DistinctWith.prompt h.sameRet)

theorem DistinctWith.arrivalSensor (before made : Bool) : DistinctWith a (arrivalSensor before made s) := by
  unfold Machine.arrivalSensor arrivalMade
  split
  · split
    · exact h.enqueue _
    · exact h.tryArrival
  · exact h

theorem DistinctWith.travelEnds (i : Nat) : DistinctWith a (travelEnds i s) := by
  unfold Machine.travelEnds
  split
  · next t ht =>
    split
    · refine DistinctWith.tryArrival (h.sameRet rfl rfl ?_ rfl)
      obtain ⟨hi, rfl⟩ := List.getElem?_eq_some_iff.mp ht
      rw [List.map_set]
      exact List.ext_getElem (by simp) fun j _ hj => by
        by_cases he : i = j <;> simp [he]
    · exact h
  · exact h

theorem DistinctWith.spacingEnds : DistinctWith a (spacingEnds s) := DistinctWith.tryArrival h.sameRet

theorem DistinctWith.liftStack (n : Quad) : DistinctWith a (liftStack n s) := (h.popStack n).prompt

end

end Sys2Proof.Machine
end

section
namespace Sys2Proof.Machine
open Sys2Proof

/-! ### Interlocks, timers and requests -/

section
variable {s : State} (h : DistinctWith [] s)
include h

theorem DistinctWith.reportChange : DistinctWith [] (reportChange s) := h.congr

theorem DistinctWith.setLive (m : Members) : DistinctWith [] (setLive m s) := h.congr rfl rfl rfl rfl

theorem DistinctWith.changeEstop (o : Bool) : DistinctWith [] (changeEstop o s) := by
  unfold Machine.changeEstop
  dsimp only
  split
  · exact h
  · refine DistinctWith.reportChange ?_
    split
    · exact (h.setLive _).trackOpening.mergeOpening.returnOpening
    · exact (h.setLive _).returnClearance

theorem DistinctWith.changeDoor (o : Bool) : DistinctWith [] (changeDoor o s) := by
  unfold Machine.changeDoor
  dsimp only
  split
  · exact h
  · refine DistinctWith.reportChange ?_
    split
    · exact (h.setLive _).trackOpening.mergeOpening
    · exact h.setLive _

theorem DistinctWith.changeRinse (o : Bool) : DistinctWith [] (changeRinse o s) := by
  unfold Machine.changeRinse
  split
  · exact h
  · exact (h.setLive _).reportChange

theorem DistinctWith.changeTank (o : Bool) : DistinctWith [] (changeTank o s) := by
  unfold Machine.changeTank
  split
  · exact h
  · exact (h.setLive _).dueEvaluation.reportChange

theorem DistinctWith.idleExpiry : DistinctWith [] (idleExpiry s) := by
  unfold Machine.idleExpiry
  dsimp only
  split
  · refine DistinctWith.enterState ?_ _
    exact h.congr rfl rfl rfl rfl
  · exact h.congr rfl rfl rfl rfl

theorem DistinctWith.recoveryExpiry : DistinctWith [] (recoveryExpiry s) := by
  unfold Machine.recoveryExpiry
  dsimp only
  split
  · refine DistinctWith.completeRecovery ?_
    exact h.congr rfl rfl rfl rfl
  · exact h.congr rfl rfl rfl rfl

theorem DistinctWith.limitExpiry : DistinctWith [] (limitExpiry s) := by
  unfold Machine.limitExpiry failRecovery
  dsimp only
  split
  · refine DistinctWith.enqueue ?_ _
    exact h.congr rfl rfl rfl rfl
  · exact h.congr rfl rfl rfl rfl

theorem DistinctWith.indexMade : DistinctWith [] (indexMade s) := by
  unfold Machine.indexMade
  split
  · exact h.completeMotion.stateAfterCompletion
  · exact h

theorem DistinctWith.motionExpiry : DistinctWith [] (motionExpiry s) := by
  unfold Machine.motionExpiry jamMotion
  split
  · refine DistinctWith.enterJam ?_ _ _
    exact h.congr rfl rfl rfl rfl
  · exact h

theorem DistinctWith.requestHalt : DistinctWith [] (requestHalt s).1 := by
  unfold Machine.requestHalt
  split
  case h_1 => exact h
  case h_2 | h_3 => exact h.congr rfl rfl rfl rfl
  case h_9 =>
    split
    · refine DistinctWith.congr (s := s) h ?_ ?_ ?_ ?_ <;> simp [endPurge]
    · exact h.congr rfl rfl rfl rfl
  all_goals
    refine DistinctWith.enterState ?_ _
    exact h.congr rfl rfl rfl rfl

theorem DistinctWith.requestStandby : DistinctWith [] (requestStandby s).1 := by
  unfold Machine.requestStandby
  split
  · refine DistinctWith.enterState ?_ _
    exact h.congr rfl rfl rfl rfl
  · exact h

theorem DistinctWith.requestPurge : DistinctWith [] (requestPurge s).1 := by
  unfold Machine.requestPurge
  split
  · refine DistinctWith.enterState ?_ _
    exact h.congr rfl rfl rfl rfl
  · exact h

theorem DistinctWith.requestRun : DistinctWith [] (requestRun s).1 := by
  unfold Machine.requestRun
  split
  · exact h
  · refine DistinctWith.runMove (DistinctWith.resolveInterrupted ?_)
    exact h.congr rfl rfl rfl rfl

theorem DistinctWith.leaveFault : DistinctWith [] (leaveFault s) :=
  h.congr (by simp [Machine.leaveFault]) (by simp [Machine.leaveFault]) (by simp [Machine.leaveFault])
    (by simp [Machine.leaveFault])

theorem DistinctWith.requestClearFault : DistinctWith [] (requestClearFault s).1 := by
  have hf : DistinctWith [] { s with track := { s.track with fault := none } } := h.congr rfl rfl rfl rfl
  unfold Machine.requestClearFault
  dsimp only
  split
  · split
    · exact h
    · split
      · exact hf.completeMotion.leaveFault
      · exact hf.leaveFault
  · split
    · exact h
    · exact hf.settleJam.leaveFault
  · exact hf.enterState _
  · exact h

theorem DistinctWith.requestSetStationPrompted (n m k : Byte) : DistinctWith [] (requestSetStationPrompted n m k s).1 := by
  unfold Machine.requestSetStationPrompted
  dsimp only
  split
  · exact (h.requestSetStation n m k).prompt
  · exact h.requestSetStation n m k

theorem DistinctWith.requestSetProgramme (n q d : Byte) (c : Half) (x a w : Byte) :
    DistinctWith [] (requestSetProgramme n q d c x a w s).1 := by
  unfold Machine.requestSetProgramme
  split
  · exact h
  · split <;> exact h.setDescriptor _ _

theorem DistinctWith.requestSetKindMap (u p c k t : Byte) : DistinctWith [] (requestSetKindMap u p c k t s).1 := by
  unfold Machine.requestSetKindMap
  dsimp only
  split
  · exact h
  · refine DistinctWith.retestHeads ?_
    exact h.congr rfl rfl rfl rfl

theorem DistinctWith.executeRequest (r : Request) : DistinctWith [] (executeRequest r s).1 := by
  cases r with
  | run => exact h.requestRun
  | halt => exact h.requestHalt
  | standby => exact h.requestStandby
  | clearFault => exact h.requestClearFault
  | purge => exact h.requestPurge
  | setProgramme n q d c x a w => exact h.requestSetProgramme n q d c x a w
  | setKindMap u p c k t => exact h.requestSetKindMap u p c k t
  | setStation n m k => exact h.requestSetStationPrompted n m k
  | loadStack n c es => exact h.requestLoadStack n c es
  | clearStack n => exact h.requestClearStack n
  | forceProgramme n p => exact h.requestForceProgramme n p
  | releaseQuarantine a => exact h.requestReleaseQuarantine a
  | _ => refine h.congr ?_ ?_ ?_ ?_ <;> simp [Machine.executeRequest]

end

theorem keptByRequests_distinct : KeptByRequests (DistinctWith []) where
  link h _ := h.congr rfl rfl rfl rfl
  request h r := h.executeRequest r

end Sys2Proof.Machine
end

section
namespace Sys2Proof.Machine
open Sys2Proof

/-! ### Resets -/

theorem distinct_reset : DistinctWith [] State.reset := by
  refine idsDistinct_iff_with.mp ⟨?_, trivial⟩
  rw [heldIds_reset]
  exact List.nodup_nil

theorem freshState_distinct (k : ResetKind) (c : ResetCause) (s : State) : DistinctWith [] (freshState k c s) :=
  distinct_reset.congr rfl rfl rfl rfl

section
variable {s : State} (h : DistinctWith [] s)
include h

theorem DistinctWith.beginStartUp : DistinctWith [] (beginStartUp s) := by
  unfold Machine.beginStartUp
  split <;> exact h.congr rfl rfl rfl rfl

theorem DistinctWith.holdOrBegin : DistinctWith [] (holdOrBegin s) := by
  unfold Machine.holdOrBegin
  split
  · exact h.congr rfl rfl rfl rfl
  · exact h.beginStartUp

theorem DistinctWith.warmState : DistinctWith [] (warmState s) := by
  refine h.kept (fun i _ => le_rfl) (h.grant.kept rfl (fun n _ => .of_spur ?_) fun _ hx => hx)
  match n with
  | 0 | 1 | 2 | 3 => rfl

end

theorem coldReset_distinct (k : ResetKind) (c : ResetCause) (s : State) : DistinctWith [] (coldReset k c s) :=
  (freshState_distinct k c s).holdOrBegin

theorem loseSupply_distinct (s : State) : DistinctWith [] (loseSupply s) :=
  (freshState_distinct .powerOn .supply s).congr rfl rfl rfl rfl

section
variable {s : State} (h : DistinctWith [] s)
include h

theorem DistinctWith.warmReset (c : ResetCause) : DistinctWith [] (warmReset c s) := by
  unfold Machine.warmReset
  dsimp only
  split
  · exact (coldReset_distinct s.resetKind s.resetCause s).congr rfl rfl rfl rfl
  · refine DistinctWith.holdOrBegin ?_
    exact h.warmState.congr rfl rfl rfl rfl

theorem DistinctWith.requestedReset (k : ResetKind) : DistinctWith [] (requestedReset k s) := by
  unfold Machine.requestedReset
  split
  · exact h.warmReset _
  · exact coldReset_distinct _ _ _

theorem DistinctWith.assertCold : DistinctWith [] (assertCold s) := by
  unfold Machine.assertCold
  dsimp only
  split
  · exact h.congr rfl rfl rfl rfl
  · exact coldReset_distinct _ _ _

theorem DistinctWith.assertWarm : DistinctWith [] (assertWarm s) := by
  have hl : DistinctWith [] { s with warmLine := true } := h.congr rfl rfl rfl rfl
  unfold Machine.assertWarm
  dsimp only
  split
  · exact hl
  · exact hl.warmReset _

theorem DistinctWith.releaseLine (l : RestartLine) : DistinctWith [] (releaseLine l s) := by
  have released {u : State} (hu : DistinctWith [] u) :
      DistinctWith [] (if s.phase = .held && !lineAsserted u then Machine.beginStartUp u else u) := by
    split
    · exact hu.beginStartUp
    · exact hu
  cases l <;> (refine released ?_; exact h.congr rfl rfl rfl rfl)

theorem DistinctWith.loadProfile (img : List Byte) : DistinctWith [] (loadProfile img s) := by
  unfold Machine.loadProfile
  dsimp only
  split <;> exact h.congr rfl rfl rfl rfl

theorem DistinctWith.completeProfileRead (img : List Byte) : DistinctWith [] (completeProfileRead img s) := by
  unfold Machine.completeProfileRead
  split
  · have hl := h.loadProfile img
    generalize Machine.loadProfile img s = u at hl ⊢
    exact hl.congr rfl rfl rfl rfl
  · exact h

/-! ### The end of a start-up -/

theorem DistinctWith.latchAtStart : DistinctWith [] (latchAtStart s) :=
  h.congr (by simp) (by simp [Machine.latchAtStart]) (by simp [Machine.latchAtStart]) (by simp [Machine.latchAtStart])

theorem DistinctWith.resolveMotion : DistinctWith [] (resolveMotion s) := by
  unfold Machine.resolveMotion
  split
  · exact h
  · split
    · exact h.completeMotion
    · exact h.congr rfl rfl rfl rfl

theorem DistinctWith.resolveCarried : DistinctWith [] (resolveCarried s).1 := by
  unfold Machine.resolveCarried
  split
  · exact h
  · exact h.resolveTransfer
  · exact h.resolveTransfer
  · exact h.settleJam

theorem DistinctWith.motionResolved : DistinctWith [] (motionResolved s) := by
  refine DistinctWith.resolveMotion ?_
  unfold restartExtension
  split <;> exact h.congr rfl rfl rfl rfl

theorem DistinctWith.restartTrack : DistinctWith [] (restartTrack s) := by
  have hr : DistinctWith [] (Machine.resolveCarried (Machine.motionResolved s)).1 := h.motionResolved.resolveCarried
  unfold Machine.restartTrack
  dsimp only
  split
  · exact hr.enqueue _
  · exact hr

theorem DistinctWith.restartDeliveries (n : Quad) : DistinctWith [] (restartDeliveries n s) :=
  h.sameSpur fun i _ => by simp [unitCount, Function.comp_def, restartDelivery]

theorem DistinctWith.timersRestarted : DistinctWith [] (timersRestarted s) := by
  refine foldl_stations_keeps (fun n _ h => h.restartDeliveries n) _ (h.sameRet rfl rfl ?_ rfl)
  simp [Function.comp_def]

theorem DistinctWith.restartReturn : DistinctWith [] (restartReturn s) := by
  rw [restartReturn_eq]
  split
  · exact h.timersRestarted.prompt.enqueue _
  · exact h.timersRestarted.prompt

theorem DistinctWith.trackRestarted : DistinctWith [] (trackRestarted s) := by
  have hn : DistinctWith [] (Machine.latchAtStart (Machine.enqueue (.startUp s.resetKind s.resetCause s.profile.status)
      { s with phase := .running, settle := .idle })) := by
    refine (DistinctWith.enqueue ?_ _).latchAtStart
    exact h.congr rfl rfl rfl rfl
  unfold Machine.trackRestarted
  dsimp only
  split
  · exact hn.restartTrack
  · exact hn

theorem DistinctWith.headsRead : DistinctWith [] (headsRead s) := by
  have hr : DistinctWith [] (quads.foldl (fun s n => Machine.readSpurHead n s) (Machine.trackRestarted s)) :=
    foldl_stations_keeps (fun n _ h => h.readSpurHead n) _ h.trackRestarted
  exact hr.sameRet

theorem DistinctWith.endStartUp : DistinctWith [] (endStartUp s) := by
  have hr : DistinctWith [] (returnRestarted s) := by
    unfold returnRestarted strayAtStart
    split
    · exact h.headsRead.restartReturn
    · split
      · exact h.headsRead.enqueue _
      · exact h.headsRead
  rw [endStartUp_eq]
  exact hr.congr rfl rfl rfl rfl

/-! ### Commands -/

theorem DistinctWith.conclude (b : State) : DistinctWith [] (conclude b s) := by
  have hd := h.dueEvaluation.grantOpportunity
  unfold Machine.conclude
  refine keptByRequests_distinct.chooseMessage ?_
  split
  · exact hd.congr
  · exact h

theorem DistinctWith.sense (p : Plant) : DistinctWith [] (s.sense p) := h.congr rfl rfl rfl rfl

theorem DistinctWith.withInputs (i : Inputs) : DistinctWith [] { s with inputs := i } := h.congr rfl rfl rfl rfl

theorem DistinctWith.guarded (c : Prop) [Decidable c] {f : State → State} (hf : c → DistinctWith [] (f s)) :
    DistinctWith [] (if c then f s else s) := by
  split
  · next hc => exact hf hc
  · exact h

theorem DistinctWith.event {b : State} {f : State → State} (hf : DistinctWith [] (f s)) :
    DistinctWith [] (Machine.conclude b (whenRunning f s)) :=
  DistinctWith.conclude (h.guarded _ fun _ => hf) b

theorem DistinctWith.linked {b : State} {f : State → State} (hf : DistinctWith [] (f s)) :
    DistinctWith [] (Machine.conclude b (whenLinked f s)) :=
  DistinctWith.conclude (h.guarded _ fun _ => hf) b

theorem DistinctWith.ifNot (c : Prop) [Decidable c] {f : State → State} (hf : DistinctWith [] (f s)) :
    DistinctWith [] (if c then s else f s) := by
  split
  · exact h
  · exact hf

/-- An effect on a spur that no outstanding grant is from (R97). -/
theorem DistinctWith.ifNoTransfer (n : Quad) {f : State → State} (hf : transferFrom s n = false → DistinctWith [] (f s)) :
    DistinctWith [] (ifNoTransfer n f s) := by
  unfold Machine.ifNoTransfer
  split
  · exact h
  · next hn => exact hf (Bool.eq_false_iff.mpr hn)

theorem DistinctWith.endTransmission : DistinctWith [] (endTransmission s) := by
  rcases keptByRequests_distinct.endTransmission h with h' | ⟨k, l, h'⟩
  · exact h'
  · rw [h']
    refine DistinctWith.requestedReset ?_ k
    exact h.congr rfl rfl rfl rfl

end

/-- Every command keeps every id held at most once. -/
theorem exec_distinct {c : Instr} {s t : State} (h : DistinctWith [] s) (he : exec c s = .next t) : DistinctWith [] t := by
  have l := keptByRequests_distinct
  cases hq : requestOf c with
  | some r =>
    rw [exec_request hq] at he
    obtain rfl := Host.Outcome.next.inj he
    have hw : DistinctWith [] (withReadings c s) := by cases c <;> exact h.congr rfl rfl rfl rfl
    exact hw.linked (l.submit r hw)
  | none =>
    cases c <;> try (cases hq; done)
    all_goals clear hq; obtain rfl := Host.Outcome.next.inj he; clear he
    case supervisoryByteReceived b high p => exact (h.sense p).linked (l.receiveByte b high (h.sense p))
    case receiveGapExpiry => exact h.linked (h.guarded _ fun _ => l.receiveGap h)
    case transmitComplete p => exact (h.sense p).linked (h.sense p).endTransmission
    case powerOnReset => exact coldReset_distinct _ _ _
    case supplyBelowOperatingLevel => exact loseSupply_distinct s
    case coldRestartLine => exact h.assertCold
    case warmRestartLine => exact h.assertWarm
    case restartLineReleased x => exact h.releaseLine x
    case profileReadComplete image => exact h.completeProfileRead image
    case endOfStartUp p =>
      split
      · exact (h.sense p).endStartUp.conclude s
      · exact h.sense p
    case tagByteReceived b => exact h.event (h.tagByte b)
    case tagGapExpiry => exact h.event (h.guarded _ (f := tagAbandon) fun _ => h.congr rfl rfl rfl rfl)
    case stepTimerExpiry => exact h.event (h.guarded _ (f := stepFallsDue) fun _ => h.congr rfl rfl rfl rfl)
    case stepCompletion p => exact (h.sense _).event (h.sense _).indexMade
    case motionTimeout => exact h.event (h.guarded _ fun _ => h.motionExpiry)
    case extensionExpiry => exact h.event (h.guarded _ (f := extensionEnds) fun _ => h.congr rfl rfl rfl rfl)
    case idleTimerExpiry => exact h.event (h.guarded _ fun _ => h.idleExpiry)
    case recoveryTimerExpiry => exact h.event (h.guarded _ fun _ => h.recoveryExpiry)
    case recoveryLimitExpiry => exact h.event (h.guarded _ fun _ => h.limitExpiry)
    case estopChainChange o => exact (h.withInputs _).event ((h.withInputs _).changeEstop o)
    case doorChainChange o => exact (h.withInputs _).event ((h.withInputs _).changeDoor o)
    case rinseFlowChange o => exact (h.withInputs _).event ((h.withInputs _).changeRinse _)
    case tankLevelChange o => exact (h.withInputs _).event ((h.withInputs _).changeTank o)
    case sampleCycleExpiry => exact h.event (h.guarded _ (f := startSample) fun _ => h.congr rfl rfl rfl rfl)
    case conversionAComplete a => exact h.event (h.conversionA a)
    case conversionBComplete a => exact h.event (h.conversionB a)
    case stackLift n => exact h.event (h.guarded _ fun _ => h.liftStack n)
    case sendButton n p => exact (h.sense p).event ((h.sense p).guarded _ fun _ => (h.sense p).pressSend n)
    case spurFullTimerExpiry n =>
      exact h.event (h.guarded _ (f := spurFullOut n) fun _ => h.sameSpur fun _ _ => le_rfl)
    case spurHeadMade n p =>
      exact (h.sense _).event ((h.sense _).guarded _ fun _ => (h.sense _).ifNoTransfer n fun _ => (h.sense _).profileHead n)
    case spurHeadClear n =>
      exact (h.sense _).event ((h.sense _).guarded _ fun _ => (h.sense _).ifNoTransfer n (h.sense _).withdrawHead)
    case deliveryCompletion n i => exact h.event (h.deliveryExpiry n i)
    case transferCompletion p =>
      have hs : DistinctWith [] (s.sense { p with position0 := true }) := h.sense _
      exact hs.event (hs.guarded _ fun _ => hs.completeTransfer)
    case transferTimeout => exact h.event (h.guarded _ fun _ => h.transferExpiry)
    case unloadButton => exact h.event h.pressUnload
    case travelTimerExpiry i => exact h.event (h.ifNot _ (h.travelEnds i))
    case spacingTimerExpiry => exact h.event (h.ifNot _ (h.guarded _ fun _ => h.spacingEnds))
    case routerArrivalSensor o => exact (h.withInputs _).event ((h.withInputs _).arrivalSensor _ o)

/-- 10 ms leave every rack where it is. -/
theorem DistinctWith.tick {s : State} (h : DistinctWith [] s) : DistinctWith [] (tick s) := by
  unfold Machine.tick
  split
  case h_1 =>
    obtain ⟨hlane, hclean, hsurplus, _, htransit⟩ := Return.tick_queues (returnPaused s) s.ret
    have hids : (s.ret.tick (returnPaused s)).transit.map (·.record.id) = s.ret.transit.map (·.record.id) := by
      simpa [Function.comp_def] using congrArg (List.map (·.id)) htransit
    have hu (i : RackId) (u : StationUnit) : unitCount i (u.tick (returnPaused s)) = unitCount i u := by
      unfold StationUnit.tick unitCount
      split <;> simp [Function.comp_def, Delivery.tick]
    refine h.kept (fun i _ => le_of_eq ?_) (h.grant.kept rfl (fun n _ => .of_spur ?_) fun x hx => ?_)
    · have hret : retCount i (s.ret.tick (returnPaused s)) = retCount i s.ret := by
        simp only [retCount, hlane, hclean, hsurplus, hids]
      have hstations : stationsCount i (tickRunning s).stations = stationsCount i s.stations := by
        simp only [stationsCount, tickRunning, hu]
      rw [heldCount, hstations]
      exact congrArg (stationsCount i s.stations + trackCount i s.track.positions + · + 0) hret
    · match n with
      | 0 | 1 | 2 | 3 => rfl
    · exact (congrArg List.head? hlane).trans hx
  all_goals exact h.congr rfl rfl rfl rfl

theorem step_distinct {s t : State} (h : DistinctWith [] s) (hs : step s = .next t) : DistinctWith [] t := by
  rcases step_cases hs with ⟨c, q, n, he⟩ | rfl
  · exact exec_distinct (s := { s with pending := q, choices := n }) (h.congr rfl rfl rfl rfl) he
  · exact h.tick

/-- Settles O58, command by command: each move of a rack takes its id from one holder and gives it to another. -/
theorem noRackIdIsHeldTwice : Obligations.NoRackIdIsHeldTwice := by
  intro s t hd hs
  exact idsDistinct_iff_with.mpr (step_distinct (idsDistinct_iff_with.mp hd) hs)

end Sys2Proof.Machine
end

section
namespace Sys2Proof.Machine
open Sys2Proof

/-! ## The loading stations -/

/-! ### What a station request names -/

theorem fitted_iff {s : State} {n : Quad} : fitted s n = true ↔ n.val + 1 ≤ s.profile.values.stations := by simp [fitted]

/-- The number of a fitted station names it (R68). -/
theorem stationOf_of_fitted {s : State} {b : Byte} {n : Quad} (hb : b.toNat = n.val + 1)
    (hf : b.toNat ≤ s.profile.values.stations) : stationOf s b = some n := by
  have hn : fitted s n = true := fitted_iff.mpr (hb ▸ hf)
  unfold stationOf
  rw [hb]
  match n with
  | 0 | 1 | 2 | 3 => simp [quads, hn]

/-- A number that no fitted station has names none (R68). -/
theorem stationOf_absent {s : State} {b : Byte} (h : b = 0 ∨ 4 < b.toNat ∨ s.profile.values.stations < b.toNat) :
    stationOf s b = none := by
  refine List.find?_eq_none.mpr fun n _ hn => ?_
  simp only [Bool.and_eq_true, beq_iff_eq, fitted_iff] at hn
  obtain ⟨hb, hf⟩ := hn
  rcases h with rfl | h | h
  · cases hb
  · omega
  · omega

theorem kindOfCode_of_small {b : Byte} (h : b.toNat ≤ 4) : ∃ k, kindOfCode b = some k ∧ kindCode k = b.toNat := by
  unfold kindOfCode
  generalize b.toNat = c at h
  match c, h with
  | 0, _ => exact ⟨.unknown, rfl, rfl⟩
  | 1, _ => exact ⟨.plate, rfl, rfl⟩
  | 2, _ => exact ⟨.cup, rfl, rfl⟩
  | 3, _ => exact ⟨.cutlery, rfl, rfl⟩
  | 4, _ => exact ⟨.tray, rfl, rfl⟩

theorem kindOfCode_of_large {b : Byte} (h : 4 < b.toNat) : kindOfCode b = none := by
  unfold kindOfCode
  split <;> first | omega | rfl

/-- The four mask bits hold a kind when the low half of the byte is not 0 (R79). -/
theorem maskOfCode_nonEmpty (b : Byte) : (maskOfCode b).nonEmpty = decide (b &&& 0x0F ≠ 0) := by
  revert b
  decide

/-! ### The entries of LOAD_STACK (R81) -/

/-- Entries of the five kinds are read one by one, each with its id. -/
theorem loadEntries_read {es : List LoadEntry} (h : ∀ e ∈ es, e.kind.toNat ≤ 4) : ∃ kinds : List Kind,
    kinds.map kindCode = es.map (·.kind.toNat) ∧
    es.mapM loadEntry = some (List.zipWith RackEntry.mk (es.map (·.id)) kinds) := by
  induction es with
  | nil => exact ⟨[], rfl, rfl⟩
  | cons e es ih =>
    obtain ⟨k, hk, hc⟩ := kindOfCode_of_small (h e List.mem_cons_self)
    obtain ⟨kinds, hmap, hread⟩ := ih fun x hx => h x (List.mem_cons_of_mem e hx)
    refine ⟨k :: kinds, by rw [List.map_cons, List.map_cons, hc, hmap], ?_⟩
    rw [List.mapM_cons, hread, loadEntry, hk]
    rfl

theorem loadEntries_unread {es : List LoadEntry} (h : ∃ e ∈ es, 4 < e.kind.toNat) : es.mapM loadEntry = none := by
  induction es with
  | nil => obtain ⟨e, he, _⟩ := h; cases he
  | cons e es ih =>
    rw [List.mapM_cons]
    cases hk : loadEntry e with
    | none => rfl
    | some x =>
      have hes : ∃ e ∈ es, 4 < e.kind.toNat := by
        obtain ⟨y, hy, hlarge⟩ := h
        rcases List.mem_cons.mp hy with rfl | hy
        · rw [loadEntry, kindOfCode_of_large hlarge] at hk
          cases hk
        · exact ⟨y, hy, hlarge⟩
      rw [ih hes]
      rfl

/-- The entries that are read carry the listed ids. -/
theorem zipWith_entry_ids {ids : List RackId} {kinds : List Kind} (h : kinds.length = ids.length) :
    (List.zipWith RackEntry.mk ids kinds).map (·.id) = ids := by
  induction ids generalizing kinds with
  | nil => rfl
  | cons i ids ih =>
    cases kinds with
    | nil => cases h
    | cons k kinds => rw [List.zipWith_cons_cons, List.map_cons, ih (Nat.succ.inj h)]

theorem heldAnywhere_iff_mem {i : RackId} {s : State} (h0 : i ≠ 0) : heldAnywhere i s = true ↔ i ∈ heldIds s := by
  have hnamed : i ∈ heldIds s ↔ i ∈ (holders none s).map (·.2) :=
    List.mem_filter.trans (and_iff_left (bne_iff_ne.mpr h0))
  rw [hnamed]
  simp [heldAnywhere]

/-! ### What is settled rests on the spurs alone of the stations -/

section
variable {s t : State} (spurs : ∀ n, (t.stations.get n).spur = (s.stations.get n).spur)
include spurs

theorem headWaiting_of_spurs (profile : t.profile.values.stations = s.profile.values.stations) (n : Quad) :
    headWaiting t n = headWaiting s n := by
  simp only [headWaiting, fitted, StationUnit.head, spurs, profile]

theorem idleInReady_of_spurs (track : t.track = s.track) (ret : t.ret = s.ret) (merge : t.merge = s.merge) :
    idleInReady t = idleInReady s := by
  have hall : (t.stations.list.all (·.spur.isEmpty)) = s.stations.list.all (·.spur.isEmpty) := by
    have h0 := spurs 0
    have h1 := spurs 1
    have h2 := spurs 2
    have h3 := spurs 3
    simp only [Four.get] at h0 h1 h2 h3
    simp only [Four.list, List.all_cons, h0, h1, h2, h3]
  simp only [idleInReady, partIdle, transferInFlight, track, ret, merge, hall]

/-- A change of stacks, bays and deliveries leaves a settled state settled. -/
theorem Settled.of_spurs (h : Settled s) (track : t.track = s.track := by rfl) (ret : t.ret = s.ret := by rfl)
    (merge : t.merge = s.merge := by rfl) (interlock : t.interlock = s.interlock := by rfl)
    (profile : t.profile = s.profile := by rfl) : Settled t := by
  obtain ⟨hdue, hopen, hidle⟩ := h
  have hwaiting : headWaiting t = headWaiting s := funext (headWaiting_of_spurs spurs (by rw [profile]))
  refine ⟨hdue.congr track ret (by rw [merge]) (by rw [interlock]), ?_, ?_⟩
  · rw [← hopen]
    simp only [grantOpen, hwaiting, track, ret, merge]
  · rwa [idleInReady_of_spurs spurs track ret merge, interlock]

end

/-! ### SET_STATION, CLEAR_STACK and LOAD_STACK -/

section
variable {s : State} {n m k : Byte} {q : Quad}

theorem requestSetStation_refused (h : (n = 0 ∨ 4 < n.toNat ∨ s.profile.values.stations < n.toNat) ∨ 1 < m.toNat ∨
    k &&& 0x0F = 0) : requestSetStation n m k s = (s, .range, .empty) := by
  unfold requestSetStation
  split
  · next hn hm =>
    have hmask : ¬ (maskOfCode k).nonEmpty = true := by
      rcases h with h | h | h
      · rw [stationOf_absent h] at hn
        cases hn
      · unfold modeOfCode at hm
        split at hm
        · omega
        · omega
        · cases hm
      · rw [maskOfCode_nonEmpty, h]
        decide
    dsimp only
    rw [if_neg hmask]
  · rfl

theorem modeOfCode_of {mode : Mode} (h : m = 0 ∧ mode = .closed ∨ m = 1 ∧ mode = .openMode) : modeOfCode m = some mode := by
  rcases h with ⟨rfl, rfl⟩ | ⟨rfl, rfl⟩ <;> rfl

theorem requestSetStation_taken {mode : Mode} (hq : stationOf s n = some q) (hm : modeOfCode m = some mode)
    (hk : k &&& 0x0F ≠ 0) : requestSetStation n m k s =
      (s.setStation q { s.stations.get q with mode := mode, mask := maskOfCode k }, .ok, .stationMode mode (maskOfCode k)) := by
  simp only [requestSetStation, hq, hm, maskOfCode_nonEmpty, decide_eq_true hk, if_true]

/-- A SET_STATION that is taken prompts the router (R79, R145). -/
theorem requestSetStationPrompted_taken {t : State} {body : ReplyBody} (h : requestSetStation n m k s = (t, .ok, body)) :
    requestSetStationPrompted n m k s = (prompt t, .ok, body) := by
  rw [requestSetStationPrompted, h]
  exact if_pos rfl

theorem requestSetStationPrompted_refused (h : requestSetStation n m k s = (s, .range, .empty)) :
    requestSetStationPrompted n m k s = (s, .range, .empty) := by
  rw [requestSetStationPrompted, h]
  exact if_neg nofun

/-- CLEAR_STACK of a fitted station (R82). -/
theorem requestClearStack_taken (hq : stationOf s n = some q) : requestClearStack n s =
    (((s.stations.get q).stack.map (·.id)).foldl (fun u i => sendLocation i .loose u)
      (s.setStation q { s.stations.get q with stack := [] }), .ok, .removed (s.stations.get q).stack.length) := by
  simp only [requestClearStack, hq]

section
variable {c : Byte} {es : List LoadEntry}

theorem requestLoadStack_refused (h : n = 0 ∨ 4 < n.toNat ∨ s.profile.values.stations < n.toNat ∨ c = 0 ∨ 6 < c.toNat ∨
    ∃ e ∈ es, 4 < e.kind.toNat) : requestLoadStack n c es s = (s, .range, .empty) := by
  unfold requestLoadStack
  split
  · next hn he =>
    refine if_pos ?_
    rcases h with h | h | h | h | h | h
    · rw [stationOf_absent (.inl h)] at hn
      cases hn
    · rw [stationOf_absent (.inr (.inl h))] at hn
      cases hn
    · rw [stationOf_absent (.inr (.inr h))] at hn
      cases hn
    · simp [h]
    · simp [h]
    · rw [loadEntries_unread h] at he
      cases he
  · rfl

/-- LOAD_STACK of a fitted station with its entries read (R81). -/
theorem requestLoadStack_read {xs : List RackEntry} (hq : stationOf s n = some q) (he : es.mapM loadEntry = some xs)
    (h0 : c ≠ 0) (hc : c.toNat ≤ 6) : requestLoadStack n c es s =
      if 6 < (s.stations.get q).committed + xs.length then (s, .full, .empty)
      else if ¬ (namedIds xs).Nodup ∨ ∃ i ∈ namedIds xs, i ∈ heldIds s then (s, .duplicate, .empty)
      else ((namedIds xs).foldl (fun t i => sendLocation i (.stack q) t)
        (s.setStation q { s.stations.get q with stack := xs.reverse ++ (s.stations.get q).stack }), .ok, .empty) := by
  have hcount : ¬ (decide (c = 0) || decide (6 < c.toNat)) = true := by
    rw [Bool.or_eq_true, decide_eq_true_eq, decide_eq_true_eq]
    exact not_or.mpr ⟨h0, Nat.not_lt.mpr hc⟩
  have hheld : (!decide (namedIds xs).Nodup || (namedIds xs).any (heldAnywhere · s)) = true ↔
      ¬ (namedIds xs).Nodup ∨ ∃ i ∈ namedIds xs, i ∈ heldIds s := by
    rw [Bool.or_eq_true, Bool.not_eq_true', decide_eq_false_iff_not, List.any_eq_true]
    refine or_congr_right (exists_congr fun i => and_congr_right fun hi => heldAnywhere_iff_mem ?_)
    simpa using (List.mem_filter.mp hi).2
  simp only [requestLoadStack, hq, he, if_neg hcount, hheld]

end

/-- A request that leaves the spurs of a settled part alone is answered, and that is all (R183). -/
theorem conclude_answered_of_spurs {t : State} (hs : Settled s) (spurs : ∀ n, (t.stations.get n).spur = (s.stations.get n).spur)
    (track : t.track = s.track) (ret : t.ret = s.ret) (merge : t.merge = s.merge) (interlock : t.interlock = s.interlock)
    (profile : t.profile = s.profile) (b : Byte) (r : Result) (body : ReplyBody) :
    conclude s (answered b r body t) = onlyAnswered b r body t := by
  have ht : Settled t := hs.of_spurs spurs track ret merge interlock profile
  have hidle : idleInReady (answered b r body t) = idleInReady s :=
    (idleInReady_congr (s := t) rfl rfl rfl rfl).trans (idleInReady_of_spurs spurs track ret merge)
  exact conclude_settled (ht.congr rfl rfl rfl rfl rfl rfl) fun h => hidle ▸ h

/-- A stack that is loaded, with its entries located there, leaves nothing to follow (R81). -/
theorem conclude_loaded (hs : Settled s) (q : Quad) (st : List RackEntry) (ids : List RackId) (l : Location) (b : Byte)
    (r : Result) (body : ReplyBody) :
    let t := ids.foldl (fun t i => sendLocation i l t) (s.setStation q { s.stations.get q with stack := st })
    conclude s (answered b r body t) = onlyAnswered b r body t := by
  obtain ⟨_, _, _, _, _, _, _, _, _, _, htrack, _, _, hstations, hmerge, hret, hinterlock, hprofile, _⟩ :=
    foldl_sendLocation_frame l ids (s.setStation q { s.stations.get q with stack := st })
  refine conclude_answered_of_spurs hs (fun m => ?_) htrack hret hmerge hinterlock hprofile b r body
  rw [hstations, State.setStation_stations, Four.get_set]
  split
  · next he => rw [he]
  · rfl

end

/-- Settles O32, request by request. -/
theorem stationsAreSetClearedAndLoaded : Obligations.StationsAreSetClearedAndLoaded := by
  refine ⟨fun s n m k hl => ⟨fun hs h => ?_, fun q mode hn hf hm hk => ?_, fun hs h => ?_, fun q hn hf => ?_⟩,
    fun s n c es hl hs _ => ⟨fun h => ?_, fun q hn hf h0 hc hkinds => ?_⟩⟩
  · have he : requestSetStationPrompted n m k s = (s, .range, .empty) :=
      requestSetStationPrompted_refused (requestSetStation_refused h)
    exact exec_unchanged (c := .setStation n m k) (r := .setStation n m k) rfl hl hs he
  · have he := requestSetStationPrompted_taken (requestSetStation_taken (stationOf_of_fitted hn hf) (modeOfCode_of hm) hk)
    exact exec_answered (c := .setStation n m k) (r := .setStation n m k) rfl hl he
  · have he : requestClearStack n s = (s, .range, .empty) := by simp only [requestClearStack, stationOf_absent h]
    exact exec_unchanged (c := .clearStack n) (r := .clearStack n) rfl hl hs he
  · exact exec_answered (c := .clearStack n) (r := .clearStack n) rfl hl (requestClearStack_taken (stationOf_of_fitted hn hf))
  · exact exec_unchanged (c := .loadStack n c es) (r := .loadStack n c es) rfl hl hs (requestLoadStack_refused h)
  · obtain ⟨kinds, hmap, hread⟩ := loadEntries_read hkinds
    have hcount : kinds.length = es.length := by simpa using congrArg List.length hmap
    have hnamed : namedIds (List.zipWith RackEntry.mk (es.map (·.id)) kinds) = (es.map (·.id)).filter (· != 0) := by
      rw [namedIds, zipWith_entry_ids (by simpa using hcount)]
    have hloaded := requestLoadStack_read (stationOf_of_fitted hn hf) hread h0 hc
    have hlength : (List.zipWith RackEntry.mk (es.map (·.id)) kinds).length = es.length := by simp [hcount]
    rw [hnamed, hlength, StationUnit.committed] at hloaded
    refine ⟨fun hfull => ?_, fun hroom hdup => ?_, fun hroom hnodup hnew => ⟨kinds, hmap, ?_⟩⟩
    · exact exec_unchanged (c := .loadStack n c es) (r := .loadStack n c es) rfl hl hs (hloaded.trans (if_pos hfull))
    · rw [if_neg (Nat.not_lt.mpr hroom), if_pos hdup] at hloaded
      exact exec_unchanged (c := .loadStack n c es) (r := .loadStack n c es) rfl hl hs hloaded
    · rw [if_neg (Nat.not_lt.mpr hroom), if_neg (not_or.mpr ⟨not_not.mpr hnodup, fun ⟨i, hi, hm⟩ => hnew i hi hm⟩)] at hloaded
      exact (exec_answered (c := .loadStack n c es) (r := .loadStack n c es) rfl hl hloaded).trans (congrArg _ (conclude_loaded hs _ _ _ _ _ _ _))

end Sys2Proof.Machine
end

section
namespace Sys2Proof.Machine
open Sys2Proof

/-! ### The inputs of a station (R68) -/

section
variable {s : State} {n : Quad} {f : State → State}

theorem eventAt_running (hr : s.phase = .running) (p : Plant) : eventAt p f s = conclude s (f (s.sense p)) := by
  rw [eventAt, whenRunning, if_pos (by exact hr)]

/-- At a fitted station an input is acted on. -/
theorem event_fitted (hr : s.phase = .running) (hn : n.val + 1 ≤ s.profile.values.stations) :
    event (atFitted n f) s = conclude s (f s) := by
  rw [event_running hr, atFitted, if_pos (fitted_iff.mpr hn)]

theorem eventAt_fitted (hr : s.phase = .running) (hn : n.val + 1 ≤ s.profile.values.stations) (p : Plant) :
    eventAt p (atFitted n f) s = conclude s (f (s.sense p)) := by
  rw [eventAt_running hr, atFitted, if_pos (fitted_iff.mpr (by exact hn))]

theorem atFitted_of_absent (hn : s.profile.values.stations < n.val + 1) : atFitted n f s = s := by
  rw [atFitted, if_neg (by rw [fitted_iff]; omega)]

theorem eventAt_absent (hs : Settled s) (hl : LinkSound s) (hn : s.profile.values.stations < n.val + 1) (p : Plant) :
    eventAt p (atFitted n f) s = s.sense p := by
  have hnone : whenRunning (atFitted n f) (s.sense p) = s.sense p := by
    unfold whenRunning
    rw [atFitted_of_absent (s := s.sense p) hn]
    exact ite_self _
  have hsettled : Settled (s.sense p) := hs
  rw [eventAt, hnone, conclude_settled hsettled (by exact fun h => h)]
  exact LinkSound.chooseMessage_eq (s := s.sense p) hl

end

/-! ### A stack-lift (R71, R72) -/

theorem sendLocation_eq (i : RackId) (l : Location) (s : State) :
    sendLocation i l s = { s with directory := (sendLocation i l s).directory } := by
  unfold sendLocation updateEntry
  split <;> rfl

/-- A stack-lift changes the station and the directory alone. -/
theorem popStack_top {n : Quad} {s : State} {e : RackEntry} {rest : List RackEntry} (h : (s.stations.get n).stack = e :: rest) :
    popStack n s = { s.setStation n { s.stations.get n with stack := rest, bay := some e } with
      directory := (sendLocation e.id (.bay n) (bayDiscarded n s)).directory } := by
  obtain ⟨d, hd⟩ : ∃ d, bayDiscarded n s = { s with directory := d } := ⟨_, bayDiscarded_eq n s⟩
  have htold : (sendLocation e.id (.bay n) (State.setStation n { s.stations.get n with stack := rest, bay := some e }
      { s with directory := d })).directory = (sendLocation e.id (.bay n) { s with directory := d }).directory :=
    sendLocation_directory_congr (by rfl) _ _
  rw [popStack_cons h, hd, sendLocation_eq, htold]
  rfl

theorem popStack_anonymous {n : Quad} {s : State} (h : (s.stations.get n).stack = []) :
    popStack n s = { s.setStation n { s.stations.get n with bay := some ⟨0, .unknown⟩ } with
      directory := (bayDiscarded n s).directory } := by
  rw [popStack_nil h, bayDiscarded_eq]
  rfl

/-! ### A send (R73, R74) -/

/-- The wake from STANDBY, with the profile and the chains of the part as it stood (R163). -/
theorem wake_standby {s t : State} (h : t.track.state = .standby) (profile : t.profile = s.profile)
    (live : t.interlock.live = s.interlock.live) : wake t =
    if s.interlock.live.estop = false ∧ s.interlock.live.door = false then withStateNotice { t with
      track := { t.track with state := .recovery, recoveryPending := false }, dose := { t.dose with recoveryRun := 0 },
      interlock := { t.interlock with
        heat := false,
        recovery := if s.profile.values.recoveryMode = .fixed then .running (1000 * s.profile.values.recoveryTime)
          else .idle,
        limit := if s.profile.values.recoveryMode = .fixed then .idle
          else .running (1000 * s.profile.values.recoveryLimit) } }
    else withStateNotice { t with
      track := { t.track with state := .stopped, recoveryPending := true }, interlock := { t.interlock with heat := false } } := by
  have hclosed : chainsClosed { t with interlock := { t.interlock with heat := false } } = true ↔
      s.interlock.live.estop = false ∧ s.interlock.live.door = false := live ▸ chainsClosed_iff
  unfold wake
  simp only [hclosed, ← profile]
  split
  · exact enterRecovery_notified (by rw [h]; rfl)
  · exact enterState_notified (by rw [h]; rfl)

/-- The part with the bay's rack at the tail of the spur (R73). -/
def baySent (n : Quad) (s : State) : State :=
  let id := match (s.stations.get n).bay with
    | some e => e.id
    | none => 0
  sendLocation id (.spur n) (s.setStation n { s.stations.get n with
    bay := none, spur := (s.stations.get n).spur ++ [⟨id, .unknown, false, false, none⟩] })

theorem pressSend_taken {n : Quad} {s : State} (hm : (s.stations.get n).mode = .openMode) (hb : s.plant.bay.get n = true)
    (hroom : (s.stations.get n).spur.length < 3) :
    pressSend n s = if s.track.state = .standby then wake (baySent n s) else baySent n s := by
  have hid : ((s.stations.get n).bay.map (·.id)).getD 0 = match (s.stations.get n).bay with
      | some e => e.id
      | none => 0 := by
    cases (s.stations.get n).bay <;> rfl
  have hstate : (baySent n s).track.state = s.track.state := by simp [baySent]
  simp only [pressSend, hm, hb, Bool.and_true, decide_true, if_true]
  rw [if_pos (by exact hroom), ← hstate, takeSend, hid]
  rfl

theorem pressSend_full {n : Quad} {s : State} (hm : (s.stations.get n).mode = .openMode) (hb : s.plant.bay.get n = true)
    (hfull : 3 ≤ (s.stations.get n).spur.length) :
    pressSend n s = s.setStation n { s.stations.get n with spurFull := .running 200 } := by
  simp only [pressSend, hm, hb, Bool.and_true, decide_true, if_true]
  rw [if_neg (Nat.not_lt.mpr hfull)]
  rfl

theorem pressSend_refused {n : Quad} {s : State} (h : (s.stations.get n).mode = .closed ∨ s.plant.bay.get n = false) :
    pressSend n s = s := by
  refine if_neg ?_
  rcases h with h | h <;> simp [h]

/-- Settles O33, input by input. -/
theorem racksAreLiftedAndSent : Obligations.RacksAreLiftedAndSent := by
  refine ⟨fun s n p hr hn => ⟨fun e rest hu => ?_, fun hu => ?_, fun hm hb hroom => ?_, fun hm hb hfull => ?_, fun h => ?_⟩,
    fun s n p hr hs hl hn => ⟨?_, ?_, ?_, ?_⟩⟩
  · exact ⟨popStack n s, congrArg _ (event_fitted hr hn), by rw [popStack_top hu]; rfl, by rw [popStack_top hu]; rfl⟩
  · exact ⟨popStack n s, congrArg _ (event_fitted hr hn), by rw [popStack_anonymous hu]; rfl,
      by rw [popStack_anonymous hu]; rfl⟩
  · refine (congrArg _ (eventAt_fitted hr hn p)).trans ?_
    rw [pressSend_taken (by exact hm) hb (by exact hroom)]
    refine congrArg (fun t => Host.Outcome.next (conclude s t)) (ite_congr rfl (fun h => ?_) fun _ => rfl)
    exact wake_standby (by simp [baySent, h]) (by simp [baySent]) (by simp [baySent])
  · refine (congrArg _ (eventAt_fitted hr hn p)).trans ?_
    rw [pressSend_full (by exact hm) hb (by exact hfull)]
    rfl
  · refine (congrArg _ (eventAt_fitted hr hn p)).trans ?_
    rw [pressSend_refused (by exact h)]
    rfl
  · exact congrArg _ (event_without_effect hs hl (atFitted_of_absent hn))
  · exact congrArg _ (eventAt_absent hs hl hn p)
  · exact congrArg _ (eventAt_absent hs hl hn _)
  · exact congrArg _ (eventAt_absent hs hl hn _)

end Sys2Proof.Machine
end

section
namespace Sys2Proof.Machine
open Sys2Proof

/-! ### The spur head (R76, R77) -/

section
variable {s : State} {n : Quad}

theorem head_of_cons {u : StationUnit} {e : SpurEntry} {rest : List SpurEntry} (h : u.spur = e :: rest) : u.head = some e := by
  rw [StationUnit.head, h, List.head?_cons]

theorem profileHead_unprofiled {e : SpurEntry} {rest : List SpurEntry} (hu : (s.stations.get n).spur = e :: rest)
    (hp : e.profiled = false) : profileHead n s = sendKind e.expected (s.plant.profile.get n)
      (s.setStation n { s.stations.get n with
        spur := { e with kind := s.plant.profile.get n, profiled := true } :: rest }) := by
  simp only [profileHead, head_of_cons hu, hp, setHead, hu, List.tail_cons, Bool.false_eq_true, if_false]

theorem profileHead_profiled {e : SpurEntry} {rest : List SpurEntry} (hu : (s.stations.get n).spur = e :: rest)
    (hp : e.profiled = true) : profileHead n s = s := by
  simp only [profileHead, head_of_cons hu, hp, if_true]

theorem profileHead_empty (hu : (s.stations.get n).spur = []) : profileHead n s = s.setStation n { s.stations.get n with
    spur := [⟨0, s.plant.profile.get n, true, false, none⟩] } := by
  simp only [profileHead, StationUnit.head, hu, List.head?_nil]

theorem withdrawHead_profiled {e : SpurEntry} {rest : List SpurEntry} (hu : (s.stations.get n).spur = e :: rest)
    (hp : e.profiled = true) : withdrawHead n s = sendLocation e.expected .loose
      (s.setStation n { s.stations.get n with spur := rest }) := by
  simp only [withdrawHead, head_of_cons hu, hp, if_true, removeHead, hu, List.tail_cons]

/-- Only a profiled head is withdrawn (R77). -/
theorem withdrawHead_other (h : ∀ e rest, (s.stations.get n).spur = e :: rest → e.profiled = false) :
    withdrawHead n s = s := by
  unfold withdrawHead
  split
  · next e he =>
    obtain ⟨rest, hu⟩ := head_eq_some he
    rw [h e rest hu, if_neg Bool.false_ne_true]
  · rfl

theorem ifNoTransfer_free {f : State → State} (h : transferFrom s n = false) : ifNoTransfer n f s = f s := by
  rw [ifNoTransfer, h, if_neg Bool.false_ne_true]

theorem ifNoTransfer_granted {f : State → State} (h : transferFrom s n = true) : ifNoTransfer n f s = s := if_pos h

/-! ### Deliveries (R70, R144, R148) -/

theorem deliveryExpiry_runs {i g : Nat} {d : Delivery} (hd : (s.stations.get n).deliveries[i]? = some d)
    (ht : d.timer = .running g) (he : s.interlock.live.estop = false) : deliveryExpiry n i s =
      sendLocation d.id (.stack n) (s.setStation n { s.stations.get n with
        deliveries := (s.stations.get n).deliveries.eraseIdx i, stack := ⟨d.id, d.kind⟩ :: (s.stations.get n).stack }) := by
  have hruns : (d.timer.isRunning && !returnPaused s) = true := by rw [ht, returnPaused, he]; rfl
  simp only [deliveryExpiry, hd, hruns, if_true, completeDelivery]

/-- A delivery's timer stands while the return is paused (R148). -/
theorem deliveryExpiry_paused (i : Nat) (he : s.interlock.live.estop = true) : deliveryExpiry n i s = s := by
  unfold deliveryExpiry
  split
  · rw [returnPaused, he, Bool.not_true, Bool.and_false, if_neg Bool.false_ne_true]
  · rfl

end

/-- Settles O34, event by event. -/
theorem stationEventsChangeTheirQueue : Obligations.StationEventsChangeTheirQueue := by
  intro s n p hr hn
  have made (f : State → State) {t : State}
      (h : f (s.sense { p with spurHead := p.spurHead.set n true }) = t) :
      (.next (eventAt { p with spurHead := p.spurHead.set n true } (atFitted n f) s) : Answer) = .next (conclude s t) :=
    h ▸ congrArg _ (eventAt_fitted hr hn _)
  have clear (f : State → State) {t : State}
      (h : f (s.sense { s.plant with spurHead := s.plant.spurHead.set n false }) = t) :
      (.next (eventAt { s.plant with spurHead := s.plant.spurHead.set n false } (atFitted n f) s) : Answer) =
        .next (conclude s t) := h ▸ congrArg _ (eventAt_fitted hr hn _)
  refine ⟨fun hg => ⟨fun e rest hu he => ?_, fun e rest hu he => ?_, fun hu => ?_, fun e rest hu he => ?_, fun hu => ?_⟩,
    fun hg => ⟨?_, ?_⟩, fun i d g hd ht he => ?_, fun i he => ?_, fun g hg => ?_⟩
  · exact made _ ((ifNoTransfer_free (by exact hg)).trans (profileHead_unprofiled (by exact hu) he))
  · exact made _ ((ifNoTransfer_free (by exact hg)).trans (profileHead_profiled (by exact hu) he))
  · exact made _ ((ifNoTransfer_free (by exact hg)).trans (profileHead_empty (by exact hu)))
  · exact clear _ ((ifNoTransfer_free (by exact hg)).trans (withdrawHead_profiled (by exact hu) he))
  · exact clear _ ((ifNoTransfer_free (by exact hg)).trans (withdrawHead_other (by exact hu)))
  · exact made _ (ifNoTransfer_granted (by exact hg))
  · exact clear _ (ifNoTransfer_granted (by exact hg))
  · exact congrArg _ ((event_running hr).trans (congrArg _ (deliveryExpiry_runs hd ht he)))
  · exact congrArg _ ((event_running hr).trans (congrArg _ (deliveryExpiry_paused i he)))
  · exact congrArg _ (event_timer_running hr hg)

end Sys2Proof.Machine
end

section
namespace Sys2Proof.Machine
open Sys2Proof

-- Elaborated one declaration after another: each waiting worker thread costs a whole stack of
-- the memory a compile of the text may take.
set_option Elab.async false

/-! ### A head as its resolution leaves it (R89) -/

/-- The head of this spur is refused exactly when it is profiled and does not resolve. -/
def HeadResolved (s : State) (n : Quad) : Prop :=
  ∀ e rest, (s.stations.get n).spur = e :: rest → e.refused = (e.profiled && (resolveHead s e).isNone)

theorem HeadResolved.congr {s t : State} {n : Quad} (h : HeadResolved s n) (station : t.stations.get n = s.stations.get n)
    (programmes : t.programmes = s.programmes) : HeadResolved t n := by
  intro e rest he
  rw [resolveHead_congr programmes]
  exact h e rest (station ▸ he)

section
variable {s : State} {n : Quad} (h : HeadResolved s n)
include h

/-- The re-test leaves such a head as it is (R90). -/
theorem HeadResolved.retestedUnit : retestedUnit s n = s.stations.get n := by
  unfold Machine.retestedUnit
  cases hu : (s.stations.get n).spur with
  | nil => exact congrArg (fun q => { s.stations.get n with spur := q }) hu.symm
  | cons e rest =>
    have hr := h e rest hu
    have hkeep : ¬ (n.val + 1 ≤ s.profile.values.stations ∧ e.refused = true ∧ (resolveHead s e).isSome = true) := by
      rintro ⟨_, he, hs⟩
      simp [hr, Option.isSome_iff_ne_none.mp hs] at he
    simp only [if_neg hkeep]
    exact congrArg (fun q => { s.stations.get n with spur := q }) hu.symm

/-- So does the resolution (R89). -/
theorem HeadResolved.resolvedUnit : resolvedUnit s n = s.stations.get n := by
  refine resolvedUnit_of_not_refused ?_
  unfold headWaiting eligible StationUnit.head
  cases hu : (s.stations.get n).spur with
  | nil => simp
  | cons e rest =>
    have hr := h e rest hu
    cases hp : e.profiled
    · simp [headWaiting, StationUnit.head, hu, hp]
    · cases hq : resolveHead s e <;> simp [headWaiting, StationUnit.head, hu, hp, hr, hq]

/-- So does a grant opportunity (R92). -/
theorem HeadResolved.grantOpportunity : (grantOpportunity s).stations.get n = s.stations.get n := by
  cases ho : grantOpen s with
  | false => rw [grantOpportunity_of_closed ho]
  | true =>
    obtain ⟨u, hu, hc⟩ := grantOpportunity_open ho
    have hunit : u.stations.get n = s.stations.get n := by
      rcases hu with rfl | rfl
      · rfl
      · rw [retestHeads_get]
        exact HeadResolved.retestedUnit (h.congr rfl rfl)
    have hprogrammes : u.programmes = s.programmes := by rcases hu with rfl | rfl <;> simp
    have hres : (resolveHeads u).stations.get n = s.stations.get n := by
      rw [resolveHeads_get, HeadResolved.resolvedUnit (h.congr hunit hprogrammes), hunit]
    rcases hc with ⟨g, hg⟩ | ⟨hg, _⟩ <;> rw [hg] <;> exact hres

end

/-! ### FORCE_PROGRAMME (R91) -/

/-- The head with the programme a request forces on it, not yet resolved (R91). -/
def forcedEntry (m : Byte) (e : SpurEntry) : SpurEntry :=
  { e with forced := if m = 0 then none else some (programmeOf m), refused := false }

/-- The head as it stands once it has been resolved (R89). -/
def resolvedEntry (s : State) (e : SpurEntry) : SpurEntry :=
  { e with refused := e.profiled && (resolveHead s e).isNone }

/-- The part with another head and the same entries behind it. -/
def withHead (q : Quad) (e : SpurEntry) (rest : List SpurEntry) (s : State) : State :=
  s.setStation q { s.stations.get q with spur := e :: rest }

section
variable {s : State} {q : Quad} {e : SpurEntry} {rest : List SpurEntry}

theorem withHead_get : (withHead q e rest s).stations.get q = { s.stations.get q with spur := e :: rest } := by
  rw [withHead, State.setStation_stations, Four.get_set, if_pos rfl]

theorem withHead_withHead (x : SpurEntry) : withHead q e rest (withHead q x rest s) = withHead q e rest s := by
  unfold withHead State.setStation
  match q with
  | 0 | 1 | 2 | 3 => rfl

theorem setHead_eq {x : SpurEntry} (hu : (s.stations.get q).spur = x :: rest) : setHead q e s = withHead q e rest s := by
  simp only [setHead, withHead, hu, List.tail_cons]

/-- A head that is not refused is resolved at once (R89). -/
theorem resolveStation_withHead (hf : fitted s q = true) (hr : e.refused = false) :
    resolveStation q (withHead q e rest s) = if (resolvedEntry s e).refused then
      enqueue (refusedNotice s q e) (withHead q (resolvedEntry s e) rest s) else withHead q (resolvedEntry s e) rest s := by
  have hres : resolveHead (withHead q e rest s) e = resolveHead s e := rfl
  have hhead : ((withHead q e rest s).stations.get q).head = some e := head_of_cons (by rw [withHead_get])
  have hwait : headWaiting (withHead q e rest s) q = e.profiled := by
    have hf' : fitted (withHead q e rest s) q = true := hf
    simp only [headWaiting, hf', hhead, hr, Bool.not_false, Bool.and_true, Bool.true_and]
  have hcond : (e.profiled && !(resolveHead s e).isSome) = (resolvedEntry s e).refused := by
    rw [Option.not_isSome]
    rfl
  have hentry {b : Bool} (hb : (resolvedEntry s e).refused = b) : resolvedEntry s e = { e with refused := b } :=
    congrArg (fun b => { e with refused := b }) hb
  simp only [resolveStation, hhead, hwait, hres, hcond]
  split
  · next h =>
    rw [hentry h, setHead_eq (x := e) (by rw [withHead_get]), withHead_withHead]
    rfl
  · next h => rw [hentry ((Bool.not_eq_true _).mp h), ← hr]

/-- A head that has been resolved stands as the resolution leaves it. -/
theorem headResolved_withHead : HeadResolved (withHead q (resolvedEntry s e) rest s) q := by
  intro x xs hx
  rw [withHead_get] at hx
  obtain ⟨rfl, rfl⟩ := List.cons.inj hx
  rfl

end

section
variable {s : State} {n m : Byte} {q : Quad}

theorem requestForceProgramme_absent (h : n = 0 ∨ 4 < n.toNat ∨ s.profile.values.stations < n.toNat) :
    requestForceProgramme n m s = (s, .range, .empty) := by
  simp only [requestForceProgramme, stationOf_absent h]

theorem requestForceProgramme_range (hq : stationOf s n = some q) (h : s.profile.values.tableLimit < m.toNat) :
    requestForceProgramme n m s = (s, .range, .empty) := by
  simp only [requestForceProgramme, hq, if_pos h]

theorem requestForceProgramme_state (hq : stationOf s n = some q) (hm : m.toNat ≤ s.profile.values.tableLimit)
    (h : (s.stations.get q).spur = [] ∨ transferFrom s q = true) : requestForceProgramme n m s = (s, .state, .empty) := by
  simp only [requestForceProgramme, hq, if_neg (Nat.not_lt.mpr hm)]
  split
  · rfl
  · next e he =>
    obtain ⟨rest, hu⟩ := head_eq_some he
    rcases h with h | h
    · rw [h] at hu
      cases hu
    · rw [if_pos h]

section
variable {e : SpurEntry} {rest : List SpurEntry} (hq : stationOf s n = some q) (hm : m.toNat ≤ s.profile.values.tableLimit)
  (hu : (s.stations.get q).spur = e :: rest) (hg : transferFrom s q = false)
include hq hm hu hg

theorem requestForceProgramme_notFound (h0 : m ≠ 0) (hd : descriptor s (programmeOf m) = none) :
    requestForceProgramme n m s = (s, .notFound, .empty) := by
  have hnone : m ≠ 0 ∧ (descriptor s (programmeOf m)).isNone = true := ⟨h0, by rw [hd]; rfl⟩
  simp only [requestForceProgramme, hq, if_neg (Nat.not_lt.mpr hm), head_of_cons hu, hg, Bool.false_eq_true, if_false,
    if_pos hnone]

/-- The head takes the programme and is resolved at once (R91). -/
theorem requestForceProgramme_taken (hf : fitted s q = true) (hd : m = 0 ∨ descriptor s (programmeOf m) ≠ none) :
    let x := resolvedEntry s (forcedEntry m e)
    requestForceProgramme n m s = (if x.refused then enqueue (refusedNotice s q (forcedEntry m e)) (withHead q x rest s)
      else withHead q x rest s, .ok, .head q x) := by
  have hsome : ¬ (m ≠ 0 ∧ (descriptor s (programmeOf m)).isNone = true) := by
    rintro ⟨h0, hn⟩
    exact hd.elim h0 fun h => h (Option.isNone_iff_eq_none.mp hn)
  have hstand : resolveStation q (setHead q (forcedEntry m e) s) = _ :=
    (congrArg (resolveStation q) (setHead_eq hu)).trans (resolveStation_withHead (rest := rest) hf rfl)
  have hhead : ((resolveStation q (setHead q (forcedEntry m e) s)).stations.get q).head =
      some (resolvedEntry s (forcedEntry m e)) := by
    rw [hstand]
    split
    · simp only [enqueue_frame, withHead_get]
      rfl
    · rw [withHead_get]
      rfl
  have hbody := congrArg (·.getD (forcedEntry m e)) hhead
  simp only [requestForceProgramme, hq, if_neg (Nat.not_lt.mpr hm), head_of_cons hu, hg, Bool.false_eq_true, if_false,
    if_neg hsome]
  exact Prod.ext hstand (Prod.ext rfl (congrArg (ReplyBody.head q) hbody))

end

/-- A forced head is refused only without a programme of its own, and its notice then names the kind map's (R89, Table
26). -/
theorem refusedNotice_forced {e : SpurEntry} (hd : m = 0 ∨ descriptor s (programmeOf m) ≠ none)
    (h : (resolvedEntry s (forcedEntry m e)).refused = true) : refusedNotice s q (forcedEntry m e) =
      .admission (.refused q e.expected e.kind (match e.kind with
        | .unknown => s.programmes.kindMap.unknown
        | .plate => s.programmes.kindMap.plate
        | .cup => s.programmes.kindMap.cup
        | .cutlery => s.programmes.kindMap.cutlery
        | .tray => s.programmes.kindMap.tray) false) := by
  by_cases h0 : m = 0
  · rw [refusedNotice_eq]
    simp only [forcedEntry, if_pos h0, Option.isSome_none] <;> rfl
  · have hnone : resolveHead s (forcedEntry m e) = none := by
      simp only [resolvedEntry, Bool.and_eq_true, Option.isNone_iff_eq_none] at h
      exact h.2
    have hprogramme : headProgramme s (forcedEntry m e) = programmeOf m := by
      simp only [headProgramme, forcedEntry, if_neg h0, Option.getD_some]
    rw [resolveHead, Option.map_eq_none_iff, hprogramme] at hnone
    exact absurd hnone (hd.resolve_left h0)

theorem queued_link (c : Bool) (x : Notice) (s : State) : ∃ l, (if c then enqueue x s else s) = { s with link := l } := by
  cases c
  · exact ⟨s.link, rfl⟩
  · exact ⟨(enqueue x s).link, by simp only [if_true, enqueue]; (repeat' split) <;> rfl⟩

/-- What the end of a command leaves of a part in which no step is due and a head stands resolved (R7, R92). -/
theorem conclude_resolvedHead {b t : State} (hr : t.phase = .running) (hd : NothingDue t) (hh : HeadResolved t q) :
    (conclude b t).stations.get q = t.stations.get q ∧ (conclude b t).track.positions = t.track.positions ∧
      (conclude b t).directory = t.directory := by
  rw [conclude_opportunity hr hd]
  have hpositions : (grantOpportunity t).track.positions = t.track.positions := by
    obtain ⟨_, hholds⟩ := grantOpportunity_track_holds t
    rw [hholds]
  simpa [hpositions] using hh.grantOpportunity

/-- What a request that gives a spur another head leaves, with the head resolved and what R7 and R92 say done. -/
theorem conclude_withHead {e : SpurEntry} {rest : List SpurEntry} (hr : s.phase = .running) (hd : NothingDue s) (c : Bool)
    (x : Notice) (k : Byte) (r : Result) (body : ReplyBody) :
    let w := withHead q (resolvedEntry s e) rest s
    let t := conclude s (answered k r body (if c then enqueue x w else w))
    t.link.reply = some ⟨replyKind k, r, body⟩ ∧
      t.stations.get q = { s.stations.get q with spur := resolvedEntry s e :: rest } ∧
      t.track.positions = s.track.positions ∧ t.ret = s.ret ∧ t.dose = s.dose ∧ t.programmes = s.programmes ∧
      t.directory = s.directory := by
  obtain ⟨l, hl⟩ := queued_link c x (withHead q (resolvedEntry s e) rest s)
  dsimp only
  rw [hl]
  obtain ⟨hstation, hpositions, hdirectory⟩ := conclude_resolvedHead (b := s) (q := q)
    (t := answered k r body { withHead q (resolvedEntry s e) rest s with link := l })
    hr (hd.congr rfl rfl rfl rfl) (headResolved_withHead.congr rfl rfl)
  simp only [conclude_frame]
  exact ⟨rfl, hstation.trans withHead_get, hpositions, rfl, rfl, rfl, hdirectory⟩

end

/-- Settles O35, refusal by refusal and then the head as it is resolved. -/
theorem programmesAreForced : Obligations.ProgrammesAreForced := by
  refine fun s n m hl hs => ⟨fun h => ?_, fun q hn hf => ⟨fun h => ?_, fun hm h => ?_, fun e rest hm hu hg => ⟨fun h0 hd => ?_,
    fun hd => ?_⟩⟩⟩
  · exact exec_unchanged (c := .forceProgramme n m) (r := .forceProgramme n m) rfl hl hs (requestForceProgramme_absent h)
  · exact exec_unchanged (c := .forceProgramme n m) (r := .forceProgramme n m) rfl hl hs
      (requestForceProgramme_range (stationOf_of_fitted hn hf) h)
  · exact exec_unchanged (c := .forceProgramme n m) (r := .forceProgramme n m) rfl hl hs
      (requestForceProgramme_state (stationOf_of_fitted hn hf) hm h)
  · exact exec_unchanged (c := .forceProgramme n m) (r := .forceProgramme n m) rfl hl hs
      (requestForceProgramme_notFound (stationOf_of_fitted hn hf) hm hu hg h0 hd)
  · have htaken := exec_answered (c := .forceProgramme n m) (r := .forceProgramme n m) rfl hl
      (requestForceProgramme_taken (stationOf_of_fitted hn hf) hm hu hg (fitted_iff.mpr (hn ▸ hf)) hd)
    refine ⟨htaken.trans (congrArg (fun t => Host.Outcome.next (conclude s (answered 0x1D .ok _ t)))
      (ite_congr rfl (fun hx => ?_) fun _ => rfl)), _, htaken,
      conclude_withHead (q := q) (e := forcedEntry m e) (rest := rest) hl.1 hs.1 (resolvedEntry s (forcedEntry m e)).refused
        (refusedNotice s q (forcedEntry m e)) 0x1D .ok (.head q (resolvedEntry s (forcedEntry m e)))⟩
    exact congrArg (enqueue · _) (refusedNotice_forced hd hx)

end Sys2Proof.Machine
end

section
namespace Sys2Proof.Machine
open Sys2Proof

/-! ## The end of a transfer -/

/-! ### A due evaluation, seen from outside -/

/-- A due evaluation starts the step, or it changes the track's state, holds and extension timer alone (R7, R9, R26). -/
theorem dueEvaluation_waits_or_starts (s : State) :
    (∃ w : Track, w.positions = s.track.positions ∧ w.motion = s.track.motion ∧ dueEvaluation s = { s with track := w }) ∨
      (chainsClosed s = true ∧ ∃ e, dueEvaluation s = stepStart (withExtension e s)) := by
  generalize hd : dueEvaluation s = t
  have ho := dueEvaluation_outcome s
  rw [hd] at ho
  cases ho with
  | nothing => exact .inl ⟨s.track, rfl, rfl, rfl⟩
  | blocked e => exact .inl ⟨{ s.track with extension := e }, rfl, rfl, rfl⟩
  | starts e _ hc => exact .inr ⟨hc, e, rfl⟩
  | held e q => exact .inl ⟨{ s.track with extension := e, state := .hold, holds := q }, rfl, rfl, rfl⟩
  | purges _ _ hc => exact .inr ⟨hc, s.track.extension, rfl⟩
  | purgeHeld q => exact .inl ⟨{ s.track with holds := q }, rfl, rfl, rfl⟩

/-- The directory is told the pass of the F2 record when the motion that the state ends with is one that has started (R14,
R120). -/
def passTold (m : Motion) (r : Option TrackRecord) (x : State) : State :=
  if m = .none then x else match r with
    | some r => if r.tracked then sendPass r.id (if r.required ≤ r.dose then .sanitised else .short) r.dose x else x
    | none => x

theorem passTold_resting {m : Motion} (h : m = .none) (r : Option TrackRecord) (x : State) : passTold m r x = x := if_pos h

theorem passTold_moving {m : Motion} (h : m ≠ .none) (r : Option TrackRecord) (x : State) :
    (passTold m r x).directory = match r with
      | some r => if r.tracked then (sendPass r.id (verdictOf r) r.dose x).directory else x.directory
      | none => x.directory := by
  cases r with
  | none => exact congrArg State.directory (if_neg h)
  | some r => exact (congrArg State.directory (if_neg h)).trans (apply_ite State.directory _ _ _)

theorem passTold_directory_congr {x y : State} (h : x.directory = y.directory) (m : Motion) (r : Option TrackRecord) :
    (passTold m r x).directory = (passTold m r y).directory := by
  unfold passTold
  split
  · exact h
  · split
    · split
      · exact sendPass_directory_congr h _ _ _
      · exact h
    · exact h

section
variable {s : State}

theorem dueEvaluation_position (s : State) {j : Fin 17} (h12 : j ≠ 12) (h16 : j ≠ 16) :
    (dueEvaluation s).track.positions[j] = s.track.positions[j] := by
  rcases dueEvaluation_waits_or_starts s with ⟨w, hw, -, he⟩ | ⟨-, e, he⟩ <;> rw [he]
  · simp only [hw]
  · rw [stepStart_track, Fin.getElem_fin, startedRecords_getElem, if_neg, if_neg]
    · rfl
    · exact fun h => h16 (Fin.ext h)
    · exact fun h => h12 (Fin.ext h)

theorem dueEvaluation_told (hm : s.track.motion = .none) : (dueEvaluation s).directory =
    (passTold (dueEvaluation s).track.motion s.track.positions[12] s).directory := by
  rcases dueEvaluation_waits_or_starts s with ⟨w, -, hw, he⟩ | ⟨-, e, he⟩ <;> rw [he]
  · rw [passTold_resting (hw.trans hm)]
  · rw [stepStart_directory (s := withExtension e s) (t := s) (by rfl), passTold_moving (by rw [stepStart_track]; exact nofun)]
    rfl

theorem PinnedEntry.dueEvaluation {i : RackId} (h : PinnedEntry s i) : PinnedEntry (dueEvaluation s) i := by
  rcases dueEvaluation_waits_or_starts s with ⟨w, -, -, he⟩ | ⟨-, e, he⟩ <;> rw [he]
  · exact h.congr rfl
  · have hd := stepStart_directory (s := withExtension e s) (t := s) rfl
    cases hr : (withExtension e s).track.positions[12] with
    | none =>
      rw [hr] at hd
      exact h.congr hd
    | some r =>
      rw [hr] at hd
      dsimp only at hd
      split at hd
      · refine PinnedEntry.congr (s := sendPass r.id (verdictOf r) r.dose s) ?_ hd
        exact h.updateEntry (fun _ => rfl) fun _ _ he => he
      · exact h.congr hd

theorem queues_dueEvaluation (s : State) : Queues 1 s (dueEvaluation s) := by
  rcases dueEvaluation_waits_or_starts s with ⟨w, -, -, he⟩ | ⟨-, e, he⟩ <;> rw [he]
  · exact .of_link (by rfl) 1
  · have hl := stepStart_link (s := withExtension e s) (t := s) rfl
    split at hl
    · split at hl
      · exact (queues_enqueue _ s).trans (Queues.of_link hl 0)
      · exact .of_link hl 1
    · exact .of_link hl 1

/-! ### The end of a command with a rack at position 0 -/

theorem grantOpen_occupied {r : TrackRecord} (h : s.track.positions[0] = some r) : grantOpen s = false := by
  simp [grantOpen, Track.infeed, h]

/-- With a rack at position 0 and the due evaluation made, what R7 and R92 say changes nothing but the track's marks, the
idle timer and the transmitter. -/
theorem conclude_occupied {b : State} {r : TrackRecord} (hr : s.phase = .running) (h0 : s.track.positions[0] = some r)
    (hd : chainsClosed s = true → NothingDue s) : ∃ w : Track, w.positions = s.track.positions ∧
      w.motion = s.track.motion ∧ conclude b s = chooseMessage (idleTimerHook b { s with track := w }) := by
  have hwaits : ∃ w : Track, w.positions = s.track.positions ∧ w.motion = s.track.motion ∧
      dueEvaluation s = { s with track := w } := by
    rcases dueEvaluation_waits_or_starts s with h | ⟨hc, _⟩
    · exact h
    · exact ⟨s.track, rfl, rfl, dueEvaluation_of_nothingDue (hd hc)⟩
  obtain ⟨w, hp, hm, he⟩ := hwaits
  refine ⟨w, hp, hm, conclude_of_due hr he (grantOpen_occupied (r := r) ?_)⟩
  exact (congrArg (·[0]) hp).trans h0

end

end Sys2Proof.Machine
end

section
namespace Sys2Proof.Machine
open Sys2Proof

/-! ### The completion, up to the end of its command -/

section
variable {s : State}

theorem exec_transferCompletion (hr : s.phase = .running) (hm : s.merge.state = .transferring) (p : Plant) :
    exec (.transferCompletion p) s = .next (conclude s (completeTransfer (s.sense { p with position0 := true }))) := by
  have hmade : position0Made (s.sense { p with position0 := true }) = completeTransfer (s.sense { p with position0 := true }) :=
    if_pos hm
  exact congrArg _ ((eventAt_running hr _).trans (congrArg _ hmade))

end

/-- What the end of the command leaves of a completed transfer: `u` before its due evaluation, `v` before what R7 and R92 say
follows, `t` in the end (R95). -/
structure CompletionEnds (u v t : State) : Prop where
  position : ∀ j : Fin 17, j ≠ 12 → j ≠ 16 → t.track.positions[j] = u.track.positions[j]
  motion : t.track.motion = (dueEvaluation u).track.motion
  stations : t.stations = v.stations
  merge : t.merge = u.merge
  ret : t.ret = u.ret
  dose : t.dose = u.dose
  programmes : t.programmes = u.programmes
  directory : t.directory = v.directory
  notices : u.link.notices.length ≤ 15 → ∀ x ∈ u.link.notices, x ∈ t.link.notices ∨ t.link.transmitter = .notice x

/-- A state that differs from the evaluated one in its stations and directory alone. -/
structure SpurRead (u v : State) : Prop where
  track : v.track = u.track
  ret : v.ret = u.ret
  merge : v.merge = u.merge
  interlock : v.interlock = u.interlock
  phase : v.phase = u.phase
  dose : v.dose = u.dose
  programmes : v.programmes = u.programmes
  link : v.link = u.link

theorem spurRead_readSpurHead (n : Quad) (u : State) : SpurRead u (readSpurHead n u) := by
  constructor <;> simp

theorem spurRead_self (u : State) : SpurRead u u := ⟨rfl, rfl, rfl, rfl, rfl, rfl, rfl, rfl⟩

theorem completionEnds {b u v : State} {r : TrackRecord} (hr : u.phase = .running) (h0 : u.track.positions[0] = some r)
    (hv : SpurRead (dueEvaluation u) v) : CompletionEnds u v (conclude b v) := by
  have hphase : v.phase = .running := hv.phase.trans (by simpa using hr)
  have hpos (j : Fin 17) (h12 : j ≠ 12) (h16 : j ≠ 16) : v.track.positions[j] = u.track.positions[j] := by
    rw [hv.track]
    exact dueEvaluation_position u h12 h16
  have hdue (hc : chainsClosed v = true) : NothingDue v := by
    have hcu : chainsClosed u = true := by
      simpa only [chainsClosed, hv.interlock, dueEvaluation_frame] using hc
    exact (nothingDue_dueEvaluation fun _ => hcu).congr hv.track hv.ret (by rw [hv.merge]) (by rw [hv.interlock])
  obtain ⟨w, hwp, hwm, he⟩ := conclude_occupied (b := b) hphase ((hpos 0 (by decide) (by decide)).trans h0) hdue
  have hqueues : Queues 1 u (dueEvaluation u) := queues_dueEvaluation u
  rw [he]
  refine ⟨fun j h12 h16 => ?_, ?_, by simp, ?_, ?_, ?_, ?_, by simp, fun hl x hx => mem_chooseMessage ?_⟩
  · have : (chooseMessage (idleTimerHook b { v with track := w })).track.positions = w.positions := by simp
    rw [this, hwp]
    exact hpos j h12 h16
  · have : (chooseMessage (idleTimerHook b { v with track := w })).track.motion = w.motion := by simp
    rw [this, hwm, hv.track]
  · simp [hv.merge]
  · simp [hv.ret]
  · simp [hv.dose]
  · simp [hv.programmes]
  · have : (idleTimerHook b { v with track := w }).link = (dueEvaluation u).link := by simp [hv.link]
    rw [this]
    exact hqueues.kept (Nat.add_le_add_right hl 1) hx

/-! ### The completion of a spur grant -/

theorem admissionRequest_congr {s t : State} (hd : t.directory = s.directory) (hl : t.link = s.link) (i : RackId) (k : Kind)
    (n : Quad) : (admissionRequest i k n t).2 = (admissionRequest i k n s).2 ∧
      (admissionRequest i k n t).1.directory = (admissionRequest i k n s).1.directory := by
  unfold admissionRequest allocate noticePlaceFree
  rw [lookup_congr hd, hd, hl]
  cases hk : lookup s i with
  | some x => exact ⟨rfl, updateEntry_directory_congr hd _ _⟩
  | none =>
    dsimp only
    generalize s.directory[setOf i] = d
    cases hw : d.invalidWay with
    | some w => simp [hd]
    | none =>
      cases hk : d.walk with
      | none => simp [hd]
      | some w =>
        cases hv : d.ways.get w with
        | none => simp [hv, hd]
        | some v =>
          by_cases hdirty : v.dirty = false
          · simp [hv, hdirty, hd]
          · by_cases hroom : s.link.notices.length < Config.noticePlaces <;> simp [hv, hdirty, hroom, hd]

section
variable (n : Quad) (e : RackId) (k : Kind) (q : Snapshot) (s : State)

theorem completeSpur_parts :
    let i := resolveIdentity n e s.merge.tags s.merge.overrun
    let c := presenceCheck n i.1 i.2.1 s.merge.overrun s
    let d := sendAdmission n c.id e k c.state
    let t := completeSpur n e k q s
    t.stations = (removeHead n c.state).stations ∧ t.ret = c.state.ret ∧
      t.track.positions = s.track.positions.set 0 (some (builtRecord n c.id k q c.source d.2)) ∧
      t.directory = d.1.directory ∧ t.link = (enqueueAll ((i.2.2 ++ c.notices).map .admission) d.1).link := by
  refine ⟨?_, ?_, ?_, ?_, ?_⟩
  · simp [completeSpur]
  · simp [completeSpur]
  · simp [completeSpur]
  · simp [completeSpur]
  · exact enqueueAll_link_congr (by rfl) _

end

/-! ### The presence check, case by case (R103) -/

/-- The id is held by a holder that does not rest. -/
def Clash (n : Quad) (i : RackId) (s : State) : Prop := i ≠ 0 ∧ ∃ x, holderOf n i s = some x ∧ x.resting = false

section
variable {n : Quad} {i : RackId} {o : IdSource} {v : Bool} {s : State}

theorem presenceCheck_free (h : i = 0 ∨ holderOf n i s = none) : presenceCheck n i o v s = ⟨i, o, [], s⟩ := by
  unfold presenceCheck
  split
  · rfl
  · next h0 => rw [h.resolve_left h0]

theorem presenceCheck_moved {x : Holder} (h0 : i ≠ 0) (hx : holderOf n i s = some x) (hr : x.resting = true) :
    presenceCheck n i o v s = ⟨i, o, [.moved n i x], forgetId n i x s⟩ := by
  simp only [presenceCheck, if_neg h0, hx, hr, if_true]

theorem presenceCheck_duplicate {x : Holder} (h0 : i ≠ 0) (hx : holderOf n i s = some x) (hr : x.resting = false) :
    presenceCheck n i o v s = ⟨0, .none, [.duplicate n i x v], s⟩ := by
  simp only [presenceCheck, if_neg h0, hx, hr, Bool.false_eq_true, if_false]

theorem presenceCheck_clash (h : Clash n i s) :
    (presenceCheck n i o v s).id = 0 ∧ (presenceCheck n i o v s).source = .none ∧ (presenceCheck n i o v s).state = s := by
  obtain ⟨h0, x, hx, hr⟩ := h
  rw [presenceCheck_duplicate h0 hx hr]
  exact ⟨rfl, rfl, rfl⟩

theorem presenceCheck_kept (h : ¬ Clash n i s) :
    (presenceCheck n i o v s).id = i ∧ (presenceCheck n i o v s).source = o := by
  by_cases h0 : i = 0
  · rw [presenceCheck_free (.inl h0)]
    exact ⟨rfl, rfl⟩
  · cases hx : holderOf n i s with
    | none =>
      rw [presenceCheck_free (.inr hx)]
      exact ⟨rfl, rfl⟩
    | some x =>
      have hr : x.resting = true := by
        by_contra hr
        exact h ⟨h0, x, hx, (Bool.not_eq_true _).mp hr⟩
      rw [presenceCheck_moved h0 hx hr]
      exact ⟨rfl, rfl⟩

end

/-! ### The messages of an admission (R104) -/

/-- The part with the directory told of an admission: the request for a final id, then LOOSE for an expected id that differs
from it. -/
def admissionTold (n : Quad) (x e : RackId) (k : Kind) (s : State) : State :=
  let asked := if x = 0 then s else (admissionRequest x k n s).1
  if e ≠ 0 ∧ e ≠ x then sendLocation e .loose asked else asked

section
variable {n : Quad} {x e : RackId} {k : Kind} {s t : State}

theorem sendAdmission_fst : (sendAdmission n x e k s).1 = admissionTold n x e k s := by
  unfold sendAdmission admissionTold
  by_cases h0 : x = 0 <;> simp only [h0, if_true, if_false]

theorem sendAdmission_snd : (sendAdmission n x e k s).2 = if x = 0 then false else (admissionRequest x k n s).2 := by
  unfold sendAdmission
  by_cases h0 : x = 0 <;> simp only [h0, if_true, if_false]

/-- The messages rest on the directory and the notice queue alone. -/
theorem admissionTold_congr (hd : t.directory = s.directory) (hl : t.link = s.link) :
    (admissionTold n x e k t).directory = (admissionTold n x e k s).directory := by
  have hasked : (if x = 0 then t else (admissionRequest x k n t).1).directory =
      (if x = 0 then s else (admissionRequest x k n s).1).directory := by
    split
    · exact hd
    · exact (admissionRequest_congr hd hl x k n).2
  unfold admissionTold
  dsimp only
  split
  · exact sendLocation_directory_congr hasked e .loose
  · exact hasked

/-- A TRACKED record has a pinned entry (R118, R119). -/
theorem admissionTold_pinned (h0 : x ≠ 0) (h : (admissionRequest x k n s).2 = true) :
    PinnedEntry (admissionTold n x e k s) x := by
  have hp := admissionRequest_pinned h0 h
  unfold admissionTold
  rw [if_neg h0]
  dsimp only
  split
  · exact hp.sendLocation e .loose
  · exact hp

end

end Sys2Proof.Machine
end

section
namespace Sys2Proof.Machine
open Sys2Proof

/-! ### Notices that find room (R186) -/

theorem mem_enqueueAll {ns : List Notice} {x : Notice} {s : State} (hx : x ∈ ns) (he : x.enabled s.link.mask = true)
    (hroom : s.link.notices.length + ns.length ≤ 16) : x ∈ (enqueueAll ns s).link.notices := by
  induction ns generalizing s with
  | nil => cases hx
  | cons y ns ih =>
    rw [List.length_cons] at hroom
    have hq := queues_enqueue y s
    have hlength := hq.length (by omega)
    change x ∈ (enqueueAll ns (enqueue y s)).link.notices
    rcases List.mem_cons.mp hx with rfl | hx
    · exact (queues_enqueueAll ns _).kept (by omega) (mem_enqueue_self he (by omega))
    · exact ih hx (by rw [hq.mask]; exact he) (by omega)

/-! ### A holder lets go of an id, read by station (R103) -/

section
variable (n m : Quad) (i : RackId) (x : Holder) (s : State)

theorem forgetId_stack : ((forgetId n i (.stack m) s).stations.get m).stack =
    (s.stations.get m).stack.map (·.forget i) := by simp [forgetId]

theorem forgetId_bay : ((forgetId n i (.bay m) s).stations.get m).bay = (s.stations.get m).bay.map (·.forget i) := by
  simp [forgetId]

theorem forgetId_spur : ((forgetId n i (.spur m) s).stations.get m).spur = forgetSpur (m = n) i (s.stations.get m).spur := by
  simp [forgetId]

theorem forgetSpur_tail (q : List SpurEntry) : (forgetSpur true i q).tail = q.tail.map (·.forget i) := by
  cases q <;> simp [forgetSpur]

/-- What stands behind the granted head forgets the id where this spur is its holder. -/
theorem forgetId_behind : ((forgetId n i x s).stations.get n).spur.tail =
    if x = .spur n then (s.stations.get n).spur.tail.map (·.forget i) else (s.stations.get n).spur.tail := by
  unfold forgetId
  split
  · next m =>
    rw [State.setStation_stations, Four.get_set]
    split
    · next he => rw [he]; rfl
    · rfl
  · next m =>
    rw [State.setStation_stations, Four.get_set]
    split
    · next he => rw [he]; rfl
    · rfl
  · next m =>
    rw [State.setStation_stations, Four.get_set]
    by_cases he : n = m
    · rw [if_pos he, if_pos (he ▸ rfl), ← he, decide_eq_true rfl]
      exact forgetSpur_tail i _
    · rw [if_neg he, if_neg fun h => he (Holder.spur.inj h).symm]
  · rfl
  · next h1 h2 h3 h4 => rw [if_neg (h3 n)]

end

/-! ### The kind of a new head (R78, R121) -/

theorem sendKind_directory_congr {s t : State} (h : s.directory = t.directory) (i : RackId) (k : Kind) :
    (sendKind i k s).directory = (sendKind i k t).directory := updateEntry_directory_congr h i _

/-- The directory has no entry of an anonymous rack. -/
theorem sendKind_anonymous (k : Kind) (s : State) : sendKind 0 k s = s := by
  have hl : lookup s 0 = none := if_pos rfl
  simp only [sendKind, updateEntry, hl]

theorem readSpurHead_directory (n : Quad) (s : State) : (readSpurHead n s).directory = match (s.stations.get n).spur with
    | h :: _ => if n.val + 1 ≤ s.profile.values.stations ∧ s.plant.spurHead.get n = true ∧ h.profiled = false then
        (sendKind h.expected (s.plant.profile.get n) s).directory else s.directory
    | [] => s.directory := by
  rw [readSpurHead_eq]
  by_cases hm : n.val + 1 ≤ s.profile.values.stations ∧ s.plant.spurHead.get n = true
  · rw [if_pos hm]
    cases hu : (s.stations.get n).spur with
    | nil => rfl
    | cons h rest =>
      dsimp only
      cases hp : h.profiled
      · rw [if_neg Bool.false_ne_true, if_pos ⟨hm.1, hm.2, rfl⟩]
        exact sendKind_directory_congr (by rfl) _ _
      · rw [if_pos rfl, if_neg (by simp)]
  · rw [if_neg hm]
    cases (s.stations.get n).spur with
    | nil => rfl
    | cons h rest => exact (if_neg fun hc => hm ⟨hc.1, hc.2.1⟩).symm

end Sys2Proof.Machine
end

section
namespace Sys2Proof.Machine
open Sys2Proof

/-! ### The completion of a spur grant (R95, R102 to R105) -/

/-- The part as the completion of a transfer finds it: position 0 made, the pusher and its timer stopped. -/
def arriving (p : Plant) (s : State) : State := stopPusher (s.sense { p with position0 := true })

/-- The identity that the tags give the rack (R102). -/
def arrivalIdentity (n : Quad) (e : RackId) (s : State) : RackId × IdSource × List AdmissionNotice :=
  resolveIdentity n e s.merge.tags s.merge.overrun

/-- The presence check of that identity (R103). -/
def arrivalPresence (n : Quad) (e : RackId) (p : Plant) (s : State) : Presence :=
  presenceCheck n (arrivalIdentity n e s).1 (arrivalIdentity n e s).2.1 s.merge.overrun (arriving p s)

/-- The part with the rack admitted and the merge idle, before the due evaluation. -/
def admitted (n : Quad) (e : RackId) (k : Kind) (q : Snapshot) (p : Plant) (s : State) : State :=
  mergeIdle (completeSpur n e k q (arriving p s))

/-- The part as it goes into the end of the command. -/
def spurCompleted (n : Quad) (e : RackId) (k : Kind) (q : Snapshot) (p : Plant) (s : State) : State :=
  readSpurHead n (dueEvaluation (admitted n e k q p s))

section
variable {n : Quad} {e : RackId} {k : Kind} {q : Snapshot} {p : Plant} {s : State}

theorem holderOf_arriving (i : RackId) : holderOf n i (arriving p s) = holderOf n i s := holderOf_congr rfl rfl rfl n i

theorem clash_arriving {i : RackId} : Clash n i (arriving p s) ↔ Clash n i s := by simp only [Clash, holderOf_arriving]

theorem exec_completed_spur (hr : s.phase = .running) (hm : s.merge.state = .transferring)
    (hg : s.merge.grant = some (.spur n e k q)) :
    exec (.transferCompletion p) s = .next (conclude s (spurCompleted n e k q p s)) := by
  rw [exec_transferCompletion hr hm, completeTransfer]
  simp only [show (s.sense { p with position0 := true }).merge.grant = some (.spur n e k q) from hg]
  rfl

/-! What the admission makes of each part. -/

theorem admitted_stations : (admitted n e k q p s).stations = (removeHead n (arrivalPresence n e p s).state).stations :=
  (completeSpur_parts n e k q (arriving p s)).1

theorem admitted_ret : (admitted n e k q p s).ret = (arrivalPresence n e p s).state.ret :=
  (completeSpur_parts n e k q (arriving p s)).2.1

theorem admitted_positions : (admitted n e k q p s).track.positions = s.track.positions.set 0
    (some (builtRecord n (arrivalPresence n e p s).id k q (arrivalPresence n e p s).source
      (sendAdmission n (arrivalPresence n e p s).id e k (arrivalPresence n e p s).state).2)) :=
  (completeSpur_parts n e k q (arriving p s)).2.2.1

theorem arrivalPresence_directory : (arrivalPresence n e p s).state.directory = s.directory := by
  simp [arrivalPresence, arriving]

theorem arrivalPresence_link : (arrivalPresence n e p s).state.link = s.link := by simp [arrivalPresence, arriving]

theorem admitted_directory : (admitted n e k q p s).directory = (admissionTold n (arrivalPresence n e p s).id e k s).directory := by
  obtain ⟨-, -, -, hd, -⟩ := completeSpur_parts n e k q (arriving p s)
  refine Eq.trans hd ?_
  rw [sendAdmission_fst]
  exact admissionTold_congr arrivalPresence_directory arrivalPresence_link

theorem admitted_link : (admitted n e k q p s).link =
    (enqueueAll (((arrivalIdentity n e s).2.2 ++ (arrivalPresence n e p s).notices).map .admission)
      (sendAdmission n (arrivalPresence n e p s).id e k (arrivalPresence n e p s).state).1).link :=
  (completeSpur_parts n e k q (arriving p s)).2.2.2.2

theorem admitted_merge : (admitted n e k q p s).merge =
    { s.merge with state := .idle, grant := none, pusher := none, timer := .idle } := by
  simp [admitted, mergeIdle, arriving, stopPusher]

theorem admitted_frame : (admitted n e k q p s).phase = s.phase ∧ (admitted n e k q p s).dose = s.dose ∧
    (admitted n e k q p s).programmes = s.programmes ∧ (admitted n e k q p s).profile = s.profile ∧
    (admitted n e k q p s).plant = { p with position0 := true } ∧ (admitted n e k q p s).track.motion = s.track.motion := by
  refine ⟨by simp [admitted, mergeIdle, arriving], by simp [admitted, mergeIdle, arriving],
    by simp [admitted, mergeIdle, arriving], by simp [admitted, mergeIdle, arriving],
    by simp [admitted, mergeIdle, arriving], ?_⟩
  exact (completeSpur_state n e k q (arriving p s)).2

/-- The record at position 0. -/
theorem admitted_position0 : (admitted n e k q p s).track.positions[0] = some
    (builtRecord n (arrivalPresence n e p s).id k q (arrivalPresence n e p s).source
      (sendAdmission n (arrivalPresence n e p s).id e k (arrivalPresence n e p s).state).2) :=
  (congrArg (·[0]) admitted_positions).trans (Vector.getElem_set_self _)

theorem admitted_position {j : Fin 17} (h0 : j ≠ 0) :
    (admitted n e k q p s).track.positions[j] = s.track.positions[j] := by
  refine (congrArg (·[j]) admitted_positions).trans ?_
  exact Vector.getElem_set_ne _ _ fun h => h0 (Fin.ext h.symm)

theorem spurCompletion_ends (hr : s.phase = .running) :
    CompletionEnds (admitted n e k q p s) (spurCompleted n e k q p s) (conclude s (spurCompleted n e k q p s)) := by
  obtain ⟨hphase, -⟩ := admitted_frame (n := n) (e := e) (k := k) (q := q) (p := p) (s := s)
  exact completionEnds (hphase.trans hr) admitted_position0 (spurRead_readSpurHead n _)

end

end Sys2Proof.Machine
end

section
namespace Sys2Proof.Machine
open Sys2Proof

/-! ### What the admission of a rack tells -/

section
variable {n : Quad} {e : RackId} {k : Kind} {q : Snapshot} {p : Plant} {s : State}

theorem arrivalPresence_of_clash (h : Clash n (arrivalIdentity n e s).1 s) : (arrivalPresence n e p s).id = 0 ∧
    (arrivalPresence n e p s).source = .none ∧ (arrivalPresence n e p s).state = arriving p s :=
  presenceCheck_clash (clash_arriving.mpr h)

theorem arrivalPresence_of_not (h : ¬ Clash n (arrivalIdentity n e s).1 s) :
    (arrivalPresence n e p s).id = (arrivalIdentity n e s).1 ∧
      (arrivalPresence n e p s).source = (arrivalIdentity n e s).2.1 :=
  presenceCheck_kept (clash_arriving.not.mpr h)

/-- With nobody else to hold the id the part stands as it was found. -/
theorem arrivalPresence_free (h : (arrivalIdentity n e s).1 = 0 ∨ holderOf n (arrivalIdentity n e s).1 s = none) :
    (arrivalPresence n e p s).state = arriving p s :=
  congrArg Presence.state (presenceCheck_free (h.imp_right fun h => (holderOf_arriving _).trans h))

section
variable {x : Holder} (h0 : (arrivalIdentity n e s).1 ≠ 0) (hx : holderOf n (arrivalIdentity n e s).1 s = some x)
include h0 hx

theorem arrivalPresence_moved (hr : x.resting = true) : arrivalPresence n e p s =
    ⟨(arrivalIdentity n e s).1, (arrivalIdentity n e s).2.1, [.moved n (arrivalIdentity n e s).1 x],
      forgetId n (arrivalIdentity n e s).1 x (arriving p s)⟩ :=
  presenceCheck_moved h0 ((holderOf_arriving _).trans hx) hr

/-- The notice of the presence check (R103). -/
theorem arrivalPresence_notices : (arrivalPresence n e p s).notices = [if x.resting then .moved n (arrivalIdentity n e s).1 x
    else .duplicate n (arrivalIdentity n e s).1 x s.merge.overrun] := by
  cases hr : x.resting
  · exact congrArg Presence.notices (presenceCheck_duplicate h0 ((holderOf_arriving _).trans hx) hr)
  · exact congrArg Presence.notices (arrivalPresence_moved h0 hx hr)

end

theorem arrivalPresence_id {d : Decidable (Clash n (arrivalIdentity n e s).1 s)} : (arrivalPresence n e p s).id =
    if Clash n (arrivalIdentity n e s).1 s then 0 else (arrivalIdentity n e s).1 := by
  split
  · exact (arrivalPresence_of_clash ‹_›).1
  · exact (arrivalPresence_of_not ‹_›).1

theorem arrivalPresence_source {d : Decidable (Clash n (arrivalIdentity n e s).1 s)} : (arrivalPresence n e p s).source =
    if Clash n (arrivalIdentity n e s).1 s then .none else (arrivalIdentity n e s).2.1 := by
  split
  · exact (arrivalPresence_of_clash ‹_›).2.1
  · exact (arrivalPresence_of_not ‹_›).2

/-- The record is TRACKED when the directory answers the request for its final id (R105, R118). -/
def arrivalTracked (n : Quad) (e : RackId) (k : Kind) (p : Plant) (s : State) : Bool :=
  (sendAdmission n (arrivalPresence n e p s).id e k (arrivalPresence n e p s).state).2

theorem arrivalTracked_eq {d : Decidable ((arrivalIdentity n e s).1 = 0 ∨ Clash n (arrivalIdentity n e s).1 s)} :
    arrivalTracked n e k p s = if (arrivalIdentity n e s).1 = 0 ∨ Clash n (arrivalIdentity n e s).1 s then false
      else (admissionRequest (arrivalIdentity n e s).1 k n s).2 := by
  have hflag : arrivalTracked n e k p s = if (arrivalPresence n e p s).id = 0 then false
      else (admissionRequest (arrivalPresence n e p s).id k n s).2 :=
    sendAdmission_snd.trans (ite_congr rfl (fun _ => rfl) fun _ =>
      (admissionRequest_congr arrivalPresence_directory arrivalPresence_link _ k n).1)
  rw [hflag]
  by_cases hc : Clash n (arrivalIdentity n e s).1 s
  · rw [if_pos (arrivalPresence_of_clash hc).1, if_pos (.inr hc)]
  · rw [(arrivalPresence_of_not hc).1]
    by_cases h0 : (arrivalIdentity n e s).1 = 0
    · rw [if_pos h0, if_pos (.inl h0)]
    · rw [if_neg h0, if_neg (not_or.mpr ⟨h0, hc⟩)]

/-- A TRACKED record has its final id pinned in the end (R118). -/
theorem arrivalTracked_pinned (h : arrivalTracked n e k p s = true) : ¬ Clash n (arrivalIdentity n e s).1 s ∧
    (arrivalIdentity n e s).1 ≠ 0 ∧ PinnedEntry (spurCompleted n e k q p s) (arrivalIdentity n e s).1 := by
  rw [arrivalTracked_eq (d := Classical.propDecidable _)] at h
  split at h
  · cases h
  · next hn =>
    obtain ⟨h0, hc⟩ := not_or.mp hn
    have hid : (arrivalPresence n e p s).id = (arrivalIdentity n e s).1 := (arrivalPresence_of_not hc).1
    have hp : PinnedEntry (admitted n e k q p s) (arrivalIdentity n e s).1 :=
      (admissionTold_pinned (e := e) h0 h).congr (by rw [admitted_directory, hid])
    exact ⟨hc, h0, hp.dueEvaluation.readSpurHead n⟩

/-- The messages of the admission, by the id that the tags give (R104). -/
theorem admissionTold_arrival {d : Decidable ((arrivalIdentity n e s).1 = 0 ∨ Clash n (arrivalIdentity n e s).1 s)}
    {d' : Decidable (e ≠ 0 ∧ (Clash n (arrivalIdentity n e s).1 s ∨ e ≠ (arrivalIdentity n e s).1))} :
    admissionTold n (arrivalPresence n e p s).id e k s =
      let asked := if (arrivalIdentity n e s).1 = 0 ∨ Clash n (arrivalIdentity n e s).1 s then s
        else (admissionRequest (arrivalIdentity n e s).1 k n s).1
      if e ≠ 0 ∧ (Clash n (arrivalIdentity n e s).1 s ∨ e ≠ (arrivalIdentity n e s).1) then sendLocation e .loose asked
      else asked := by
  unfold admissionTold
  by_cases hc : Clash n (arrivalIdentity n e s).1 s
  · simp only [(arrivalPresence_of_clash hc).1, hc, or_true, true_or, and_true, and_self, if_true]
  · simp only [(arrivalPresence_of_not hc).1, hc, or_false, false_or]

/-! ### What stands at the stations in the end -/

theorem evaluated_stations : (dueEvaluation (admitted n e k q p s)).stations =
    (removeHead n (arrivalPresence n e p s).state).stations := by
  rw [← admitted_stations (k := k) (q := q)]
  simp

theorem spurCompleted_stack (m : Quad) : ((spurCompleted n e k q p s).stations.get m).stack =
    ((arrivalPresence n e p s).state.stations.get m).stack := by
  rw [← removeHead_stack n m (arrivalPresence n e p s).state, ← evaluated_stations (k := k) (q := q), spurCompleted, readSpurHead_get]
  split
  · next he => rw [he]
  · rfl

theorem spurCompleted_bay (m : Quad) : ((spurCompleted n e k q p s).stations.get m).bay =
    ((arrivalPresence n e p s).state.stations.get m).bay := by
  rw [← removeHead_bay n m (arrivalPresence n e p s).state, ← evaluated_stations (k := k) (q := q), spurCompleted, readSpurHead_get]
  split
  · next he => rw [he]
  · rfl

/-- With the head sensor clear the spurs stand as the admission leaves them (R78). -/
theorem spurCompleted_spur (hclear : p.spurHead.get n = false) (m : Quad) :
    ((spurCompleted n e k q p s).stations.get m).spur = if m = n then
      ((arrivalPresence n e p s).state.stations.get m).spur.tail
      else ((arrivalPresence n e p s).state.stations.get m).spur := by
  have hplant : (dueEvaluation (admitted n e k q p s)).plant = { p with position0 := true } := by
    obtain ⟨-, -, -, -, hplant, -⟩ := admitted_frame (n := n) (e := e) (k := k) (q := q) (p := p) (s := s)
    rw [← hplant]
    simp
  rw [← removeHead_get, ← evaluated_stations (k := k) (q := q), spurCompleted, readSpurHead_of_clear (by rw [hplant]; exact hclear)]

/-! ### The holder that lets go of the id (R103) -/

section
variable {m : Quad} (h0 : (arrivalIdentity n e s).1 ≠ 0)
include h0

theorem spurCompleted_stack_moved (hx : holderOf n (arrivalIdentity n e s).1 s = some (.stack m)) :
    ((spurCompleted n e k q p s).stations.get m).stack =
      (s.stations.get m).stack.map (·.forget (arrivalIdentity n e s).1) := by
  rw [spurCompleted_stack, arrivalPresence_moved h0 hx rfl]
  exact forgetId_stack n m _ _

theorem spurCompleted_bay_moved (hx : holderOf n (arrivalIdentity n e s).1 s = some (.bay m)) :
    ((spurCompleted n e k q p s).stations.get m).bay =
      (s.stations.get m).bay.map (·.forget (arrivalIdentity n e s).1) := by
  rw [spurCompleted_bay, arrivalPresence_moved h0 hx rfl]
  exact forgetId_bay n m _ _

theorem spurCompleted_spur_moved (hx : holderOf n (arrivalIdentity n e s).1 s = some (.spur m))
    (hclear : p.spurHead.get n = false) : ((spurCompleted n e k q p s).stations.get m).spur =
      (if m = n then (s.stations.get m).spur.tail else (s.stations.get m).spur).map
        (·.forget (arrivalIdentity n e s).1) := by
  rw [spurCompleted_spur hclear, arrivalPresence_moved h0 hx rfl]
  dsimp only
  rw [forgetId_spur]
  by_cases he : m = n
  · rw [if_pos he, if_pos he, decide_eq_true he]
    exact forgetSpur_tail ..
  · rw [if_neg he, if_neg he, decide_eq_false he]
    rfl

theorem admitted_surplus_moved (hx : holderOf n (arrivalIdentity n e s).1 s = some .surplus) :
    (admitted n e k q p s).ret.surplus = s.ret.surplus.map (·.forget (arrivalIdentity n e s).1) := by
  rw [admitted_ret, arrivalPresence_moved h0 hx rfl]
  rfl

end

theorem admitted_lane : (admitted n e k q p s).ret.lane = s.ret.lane := by
  rw [admitted_ret]
  unfold arrivalPresence presenceCheck forgetId
  (repeat' split) <;> simp [arriving]

/-! ### The notices of an admission -/

theorem admitted_notices (h : s.link.notices.length ≤ 12) (hmask : s.link.mask.getLsbD 4 = true) :
    (admitted n e k q p s).link.notices.length ≤ 15 ∧
      ∀ x ∈ (arrivalIdentity n e s).2.2 ++ (arrivalPresence n e p s).notices,
        Notice.admission x ∈ (admitted n e k q p s).link.notices := by
  have hasked : Queues 1 s (sendAdmission n (arrivalPresence n e p s).id e k (arrivalPresence n e p s).state).1 :=
    (Queues.of_link arrivalPresence_link 0).trans (queues_sendAdmission ..)
  have hlength := hasked.length (by omega)
  have hcount : (((arrivalIdentity n e s).2.2 ++ (arrivalPresence n e p s).notices).map Notice.admission).length ≤ 2 := by
    have hi : (arrivalIdentity n e s).2.2.length ≤ 1 := resolveIdentity_notices ..
    have hc : (arrivalPresence n e p s).notices.length ≤ 1 := presenceCheck_notices ..
    rw [List.length_map, List.length_append]
    omega
  rw [admitted_link]
  refine ⟨((queues_enqueueAll _ _).length (by omega)).trans (by omega), fun x hx => ?_⟩
  refine mem_enqueueAll (List.mem_map_of_mem hx) ?_ (by omega)
  rw [hasked.mask]
  simp [Notice.enabled, Notice.maskBit, hmask]

/-! ### The directory in the end -/

/-- What stands behind the granted head, once the admission has removed it. -/
theorem arrivalPresence_behind : ((arrivalPresence n e p s).state.stations.get n).spur.tail =
    if (arrivalIdentity n e s).1 ≠ 0 ∧ holderOf n (arrivalIdentity n e s).1 s = some (.spur n) then
      (s.stations.get n).spur.tail.map (·.forget (arrivalIdentity n e s).1) else (s.stations.get n).spur.tail := by
  by_cases hc : Clash n (arrivalIdentity n e s).1 s
  · obtain ⟨h0, x, hx, hr⟩ := hc
    rw [(arrivalPresence_of_clash ⟨h0, x, hx, hr⟩).2.2, if_neg]
    · rfl
    · rintro ⟨-, h⟩
      obtain rfl := Option.some.inj (hx.symm.trans h)
      cases hr
  · by_cases h0 : (arrivalIdentity n e s).1 = 0
    · rw [arrivalPresence_free (.inl h0), if_neg fun h => h.1 h0]
      rfl
    · cases hx : holderOf n (arrivalIdentity n e s).1 s with
      | none =>
        rw [arrivalPresence_free (.inr hx), if_neg (by simp)]
        rfl
      | some x =>
        have hr : x.resting = true := by
          by_contra hr
          exact hc ⟨h0, x, hx, (Bool.not_eq_true _).mp hr⟩
        rw [arrivalPresence_moved h0 hx hr]
        refine (forgetId_behind ..).trans ?_
        by_cases hn : x = .spur n
        · rw [if_pos hn, if_pos ⟨h0, hn ▸ rfl⟩]
          rfl
        · rw [if_neg hn, if_neg fun h => hn (Option.some.inj h.2)]
          rfl

/-- The kind of a new head is told, unless the head has let go of its id (R78, R103). -/
def newHeadTold (n : Quad) (i : RackId) (p : Plant) (s x : State) : State :=
  match (s.stations.get n).spur.tail with
  | h :: _ => if n.val + 1 ≤ s.profile.values.stations ∧ p.spurHead.get n = true ∧ h.profiled = false ∧
      ¬ (h.expected = i ∧ holderOf n i s = some (Holder.spur n)) then sendKind h.expected (p.profile.get n) x else x
  | [] => x

theorem evaluated_plant : (dueEvaluation (admitted n e k q p s)).plant = { p with position0 := true } := by
  obtain ⟨-, -, -, -, hplant, -⟩ := admitted_frame (n := n) (e := e) (k := k) (q := q) (p := p) (s := s)
  rw [← hplant]
  simp

theorem evaluated_profile : (dueEvaluation (admitted n e k q p s)).profile = s.profile := by
  obtain ⟨-, -, -, hprofile, -⟩ := admitted_frame (n := n) (e := e) (k := k) (q := q) (p := p) (s := s)
  rw [← hprofile]
  simp

/-- The entry that becomes the head is the one behind the granted head, or it has let go of the id that it held. -/
theorem head_behind (i : RackId) (held : Prop) [Decidable held] (h : SpurEntry) (rest : List SpurEntry) : ∃ y ys,
    (if i ≠ 0 ∧ held then (h :: rest).map (·.forget i) else h :: rest) = y :: ys ∧
      (y = h ∧ ¬ (h.expected = i ∧ held) ∨ y.expected = 0 ∧ h.expected = i ∧ held) := by
  by_cases hi : h.expected = i ∧ held
  · obtain ⟨he, hheld⟩ := hi
    by_cases h0 : i = 0
    · exact ⟨h, rest, if_neg fun hc => hc.1 h0, .inr ⟨he.trans h0, he, hheld⟩⟩
    · refine ⟨h.forget i, rest.map (·.forget i), if_pos ⟨h0, hheld⟩, .inr ⟨?_, he, hheld⟩⟩
      rw [SpurEntry.forget, if_pos he]
  · by_cases hc : i ≠ 0 ∧ held
    · refine ⟨h.forget i, rest.map (·.forget i), if_pos hc, .inl ⟨?_, hi⟩⟩
      exact if_neg fun he => hi ⟨he, hc.2⟩
    · exact ⟨h, rest, if_neg hc, .inl ⟨rfl, hi⟩⟩

/-- The messages in their order: the admission, the pass of a step that starts, the kind of the new head (R104, R120,
R121). -/
theorem spurCompleted_directory (hm : s.track.motion = .none) {m : Motion}
    (hend : m = (dueEvaluation (admitted n e k q p s)).track.motion) {told : State}
    (ht : admissionTold n (arrivalPresence n e p s).id e k s = told) :
    (spurCompleted n e k q p s).directory = (newHeadTold n (arrivalIdentity n e s).1 p s
      (passTold m s.track.positions[12] told)).directory := by
  subst hend ht
  have hmotion : (admitted n e k q p s).track.motion = .none := by
    obtain ⟨-, -, -, -, -, hmotion⟩ := admitted_frame (n := n) (e := e) (k := k) (q := q) (p := p) (s := s)
    rw [hmotion, hm]
  have h12 : (admitted n e k q p s).track.positions[12] = s.track.positions[12] := admitted_position (j := 12) (by decide)
  have hpass := dueEvaluation_told hmotion
  rw [h12, passTold_directory_congr admitted_directory] at hpass
  generalize passTold _ _ (admissionTold ..) = x at hpass ⊢
  have hbehind : ((dueEvaluation (admitted n e k q p s)).stations.get n).spur = _ :=
    (congrArg (fun f => (f.get n).spur) evaluated_stations).trans
      ((removeHead_get ..).trans ((if_pos rfl).trans arrivalPresence_behind))
  rw [spurCompleted, readSpurHead_directory, hbehind, evaluated_plant, evaluated_profile, hpass, newHeadTold]
  cases (s.stations.get n).spur.tail with
  | nil => simp
  | cons h rest =>
    have htold (i : RackId) : (sendKind i (p.profile.get n) (dueEvaluation (admitted n e k q p s))).directory =
        (sendKind i (p.profile.get n) x).directory := sendKind_directory_congr hpass _ _
    obtain ⟨y, ys, hy, hcase⟩ := head_behind (arrivalIdentity n e s).1
      (holderOf n (arrivalIdentity n e s).1 s = some (Holder.spur n)) h rest
    simp only [hy]
    rcases hcase with ⟨rfl, hkept⟩ | ⟨hnone, hgone⟩
    · by_cases hread : n.val + 1 ≤ s.profile.values.stations ∧ p.spurHead.get n = true ∧ y.profiled = false
      · rw [if_pos hread, if_pos ⟨hread.1, hread.2.1, hread.2.2, hkept⟩, htold]
      · rw [if_neg hread, if_neg fun hr => hread ⟨hr.1, hr.2.1, hr.2.2.1⟩]
    · rw [hnone, sendKind_anonymous, hpass, ite_self, if_neg fun hr => hr.2.2.2 hgone]

end

end Sys2Proof.Machine
end

section
namespace Sys2Proof.Machine
open Sys2Proof

/-! ### The completion of a rewash grant (R95, R105) -/

/-- The part with the lane's head re-entered and the merge idle, before the due evaluation. -/
def rewashed (p : Plant) (s : State) : State := mergeIdle (completeRewash (arriving p s))

section
variable {p : Plant} {s : State}

theorem exec_completed_rewash {g : TrackRecord} (hr : s.phase = .running) (hm : s.merge.state = .transferring)
    (hg : s.merge.grant = some (.rewash g)) :
    exec (.transferCompletion p) s = .next (conclude s (dueEvaluation (rewashed p s))) := by
  rw [exec_transferCompletion hr hm, completeTransfer]
  simp only [show (s.sense { p with position0 := true }).merge.grant = some (.rewash g) from hg]
  rfl

section
variable {r : TrackRecord} {rest : List TrackRecord} (hl : s.ret.lane = r :: rest)
include hl

/-- What the re-entry makes of each part. -/
theorem rewashed_parts :
    (rewashed p s).track = { s.track with positions := s.track.positions.set 0 (some (reentered r)) } ∧
      (rewashed p s).ret = { s.ret with lane := rest } ∧ (rewashed p s).stations = s.stations ∧
      (rewashed p s).merge = { s.merge with state := .idle, grant := none, pusher := none, timer := .idle } ∧
      (rewashed p s).directory = (if r.tracked then sendLocation r.id .track s else s).directory ∧
      (rewashed p s).phase = s.phase ∧ (rewashed p s).dose = s.dose ∧ (rewashed p s).programmes = s.programmes := by
  have hlane : (arriving p s).ret.lane = r :: rest := hl
  have htold : (sendLocation r.id .track (arriving p s)).directory = (sendLocation r.id .track s).directory :=
    sendLocation_directory_congr (by rfl) _ _
  unfold rewashed completeRewash
  rw [hlane]
  dsimp only
  split
  · refine ⟨?_, ?_, ?_, ?_, htold, ?_, ?_, ?_⟩ <;> simp [mergeIdle, arriving, stopPusher, State.setPosition]
  · exact ⟨rfl, rfl, rfl, rfl, rfl, rfl, rfl, rfl⟩

theorem rewash_ends (hr : s.phase = .running) :
    CompletionEnds (rewashed p s) (dueEvaluation (rewashed p s)) (conclude s (dueEvaluation (rewashed p s))) := by
  obtain ⟨htrack, -, -, -, -, hphase, -⟩ := rewashed_parts (p := p) hl
  refine completionEnds (r := reentered r) (hphase.trans hr) ?_ (spurRead_self _)
  rw [htrack]
  exact Vector.getElem_set_self _

end

end

/-! ### A RUN that resolves an interrupted transfer (R98) -/

/-- A track at rest in OFF or STOPPED with nothing pending goes to READY (R3). -/
theorem runMove_ready {u : State} (hm : u.track.motion = .none) (hp : u.track.recoveryPending = false)
    (hs : u.track.state = .off ∨ u.track.state = .stopped) :
    runMove u = withStateNotice { u with track := { u.track with state := .ready, runEnable := true } } := by
  rcases hs with hs | hs
  · simp only [runMove, hs, hm, reduceCtorEq, if_false]
    exact enterState_notified rfl
  · simp only [runMove, hs, hm, hp, reduceCtorEq, if_false, Bool.false_eq_true]
    exact enterState_notified rfl

theorem dropTransfer_track (s : State) : (dropTransfer s).track = s.track := by
  unfold dropTransfer readGranted
  split <;> simp [mergeIdle]

theorem resolveTransfer_track {s : State} (h : s.track.state.evaluates = false) :
    (resolveTransfer s).track = { s.track with positions := (resolveTransfer s).track.positions } := by
  unfold resolveTransfer
  split
  · exact completeTransfer_track h
  · rw [dropTransfer_track]

/-- A RUN from OFF or STOPPED with an interrupted transfer and nothing else pending. -/
theorem exec_run_interrupted {s : State} (p : Plant) (hl : Listening s) (hr : runRefused s = false)
    (hi : s.merge.state = .interrupted) (hm : s.track.motion = .none) (hp : s.track.recoveryPending = false)
    (hs : s.track.state = .off ∨ s.track.state = .stopped) :
    let u := resolveTransfer { s with plant := p, programmes := { s.programmes with lock := true } }
    exec (.run p) s = .next (conclude s (answered 0x08 .ok .empty
      (withStateNotice { u with track := { u.track with state := .ready, runEnable := true } }))) := by
  have hrest : s.track.state.evaluates = false := by rcases hs with h | h <;> rw [h] <;> rfl
  have htrack := resolveTransfer_track
    (s := { s with plant := p, programmes := { s.programmes with lock := true } }) hrest
  have he : executeRequest .run (s.sense p) = (runMove (resolveTransfer
      { s with plant := p, programmes := { s.programmes with lock := true } }), .ok, .empty) := by
    have hr' : ¬ runRefused (s.sense p) = true := ne_true_of_eq_false hr
    simp only [executeRequest, requestRun, if_neg hr']
    rw [resolveInterrupted, if_pos (by exact hi)]
    rfl
  dsimp only
  rw [exec_answered (c := .run p) (r := .run) rfl hl he, runMove_ready]
  · rfl
  · rw [htrack]; exact hm
  · rw [htrack]; exact hp
  · rw [htrack]; exact hs

/-- What the drop of a transfer leaves: the merge idle and the head sensor of its spur read (R78, R98). -/
theorem dropTransfer_eq (s : State) : dropTransfer s = match s.merge.grant with
    | some (.spur n _ _ _) => readSpurHead n
        { s with merge := { s.merge with state := .idle, grant := none, pusher := none, timer := .idle } }
    | _ => { s with merge := { s.merge with state := .idle, grant := none, pusher := none, timer := .idle } } := rfl

/-! ### Settling the obligation -/

/-- Settles O38: the two kinds of grant completed, the timeout, and the RUN that resolves an interrupted transfer. -/
theorem transfersCompleteFailAndResume : Obligations.TransfersCompleteFailAndResume := by
  refine ⟨fun s p hr hm => ⟨fun n e k q hg => ?spur, fun g r rest hg hl => ?rewash⟩, fun s => ⟨fun g x hr ht hm hg => ?timeout,
    fun p hl he hd hq hi hn hp hs => ?run⟩⟩
  case spur =>
    have ends := spurCompletion_ends (n := n) (e := e) (k := k) (q := q) (p := p) hr
    obtain ⟨-, hdose, hprogrammes, -⟩ := admitted_frame (n := n) (e := e) (k := k) (q := q) (p := p) (s := s)
    refine ⟨_, arrivalTracked n e k p s, exec_completed_spur hr hm hg, ?record, fun ht => ?_, arrivalTracked_eq,
      fun x h0 hx => ⟨fun m hh => ?_, fun m hh => ?_, fun m hh hclear => ?_, fun hh => ?_⟩, fun x hmask hroom hx => ?notices,
      fun hfree hclear => ?head, ends.merge.trans admitted_merge,
      fun j h0 h12 h16 => (ends.position j h12 h16).trans (admitted_position h0), fun hm => ?directory,
      (congrArg Return.lane ends.ret).trans admitted_lane, ends.dose.trans hdose, ends.programmes.trans hprogrammes⟩
    case record =>
      exact (ends.position 0 (by decide) (by decide)).trans (admitted_position0.trans
        (congrArg₂ (fun x o => some (builtRecord n x k q o (arrivalTracked n e k p s))) arrivalPresence_id
          arrivalPresence_source))
    · obtain ⟨hc, h0, hpinned⟩ := arrivalTracked_pinned (q := q) ht
      exact ⟨hc, h0, hpinned.congr ends.directory⟩
    · exact (congrArg (fun f => (f.get m).stack) ends.stations).trans (spurCompleted_stack_moved h0 (hh ▸ hx))
    · exact (congrArg (fun f => (f.get m).bay) ends.stations).trans (spurCompleted_bay_moved h0 (hh ▸ hx))
    · exact (congrArg (fun f => (f.get m).spur) ends.stations).trans (spurCompleted_spur_moved h0 (hh ▸ hx) hclear)
    · exact (congrArg Return.surplus ends.ret).trans (admitted_surplus_moved h0 (hh ▸ hx))
    case notices =>
      obtain ⟨hlength, hqueued⟩ := admitted_notices (n := n) (e := e) (k := k) (q := q) (p := p) hroom hmask
      refine ends.notices hlength _ (hqueued x (List.mem_append.mpr (hx.imp_right ?_)))
      rintro ⟨h0, h, hh, rfl⟩
      rw [arrivalPresence_notices h0 hh]
      exact List.mem_singleton_self _
    case head =>
      refine (congrArg (fun f => (f.get n).spur) ends.stations).trans ((spurCompleted_spur hclear n).trans ?_)
      rw [if_pos rfl, arrivalPresence_free hfree]
      rfl
    case directory =>
      exact ends.directory.trans (spurCompleted_directory hm ends.motion (by exact admissionTold_arrival))
  case rewash =>
    obtain ⟨htrack, hret, hstations, hmerge, hdirectory, -, hdose, hprogrammes⟩ := rewashed_parts (p := p) hl
    have ends := rewash_ends (p := p) hl hr
    have hpositions : (rewashed p s).track.positions = s.track.positions.set 0 (some (reentered r)) := by rw [htrack]
    refine ⟨_, exec_completed_rewash hr hm hg, ?record, ends.ret.trans hret, ends.merge.trans hmerge,
      fun j h0 h12 h16 => ?positions, fun hm => ?directory, ends.stations.trans ?_, ends.dose.trans hdose,
      ends.programmes.trans hprogrammes⟩
    case record =>
      exact (ends.position 0 (by decide) (by decide)).trans ((congrArg (·[0]) hpositions).trans (Vector.getElem_set_self _))
    case positions =>
      exact (ends.position j h12 h16).trans ((congrArg (·[j]) hpositions).trans
        (Vector.getElem_set_ne _ _ fun h => h0 (Fin.ext h.symm)))
    case directory =>
      have h12 : (rewashed p s).track.positions[12] = s.track.positions[12] :=
        (congrArg (·[12]) hpositions).trans (Vector.getElem_set_ne _ _ (by decide))
      have hmotion : (rewashed p s).track.motion = .none := by rw [htrack]; exact hm
      refine ends.directory.trans ((dueEvaluation_told hmotion).trans ?_)
      rw [← ends.motion, h12]
      exact passTold_directory_congr hdirectory _ _
    · rw [← hstations]
      simp
  case timeout =>
    have hjam : transferExpiry s = _ := if_pos hm
    refine congrArg _ ((event_timer_running hr ht).trans (congrArg _ (hjam.trans ?_)))
    simp only [jamTransfer, hg]
    rfl
  case run =>
    have hrefused : runRefused s = false := by
      rw [← Bool.not_eq_true, runRefused_iff]
      rcases hs with h | h <;> simp [he, hd, hq, h]
    refine (exec_run_interrupted p hl hrefused hi hn hp hs).trans (congrArg (fun u : State => Host.Outcome.next (conclude s
      (answered 0x08 .ok .empty (withStateNotice { u with track := { u.track with state := .ready, runEnable := true } }))))
      (ite_congr rfl (fun _ => rfl) fun _ => ?_))
    rw [dropTransfer_eq]
    dsimp only
    cases s.merge.grant with
    | none => rfl
    | some g =>
      cases g with
      | spur n e k q => exact readSpurHead_eq n _
      | rewash r => rfl

end Sys2Proof.Machine
end

section
namespace Sys2Proof.Machine
open Sys2Proof

/-! ## Identity and the tag reader line -/

/-! ### The tag result (R102) -/

theorem mem_goodIds {tags : List TagRead} {i : RackId} : i ∈ goodIds tags ↔ ∃ r ∈ tags, r.good = true ∧ r.id = i := by
  simp [goodIds, and_assoc]

theorem tagResult_none {tags : List TagRead} (h : ∀ y, y ∉ goodIds tags) : tagResult tags = .none := by
  rw [tagResult, List.eq_nil_iff_forall_not_mem.mpr h]

theorem tagResult_one {tags : List TagRead} {x : RackId} (hx : x ∈ goodIds tags) (h : ∀ y ∈ goodIds tags, y = x) :
    tagResult tags = .one x := by
  unfold tagResult
  split
  · next hn => simp [hn] at hx
  · next z zs hz =>
    rw [hz] at h
    obtain rfl := h z List.mem_cons_self
    exact if_pos (List.all_eq_true.mpr fun y hy => beq_iff_eq.mpr (h y (List.mem_cons_of_mem _ hy)))

theorem tagResult_conflict {tags : List TagRead} {x y : RackId} (hx : x ∈ goodIds tags) (hy : y ∈ goodIds tags)
    (hne : x ≠ y) : tagResult tags = .conflict := by
  unfold tagResult
  split
  · next hn => simp [hn] at hx
  · next z zs hz =>
    refine if_neg fun hall => hne ?_
    have same : ∀ i ∈ goodIds tags, i = z := by
      rw [hz]
      simpa using hall
    exact (same x hx).trans (same y hy).symm

/-- Settles O37: the three tag results of R102, each with the rows of Table 25. -/
theorem identityFollowsTheTags : Obligations.IdentityFollowsTheTags := by
  intro n e tags overrun
  simp only [← mem_goodIds]
  refine ⟨fun x hx h he => ?_, fun x hx h hne h0 => ?_, fun h h0 => ?_, fun h h0 => ?_, fun x y hx hy hne h0 hm => ?_,
    fun x y hx hy hne he => ?_⟩ <;> unfold resolveIdentity
  · simp only [tagResult_one hx h, or_comm.mp he, if_true]
  · simp only [tagResult_one hx h, h0, hne, or_self, if_false]
  · simp only [tagResult_none h, h0, if_false]
  · simp only [tagResult_none h, h0, if_true]
  · simp only [tagResult_conflict hx hy hne, if_pos (And.intro h0 hm)]
  · have hnot : ¬ (e ≠ 0 ∧ e ∈ goodIds tags) := fun ⟨h0, hm⟩ => he.elim h0 fun hn => hn hm
    simp only [tagResult_conflict hx hy hne, if_neg hnot]

end Sys2Proof.Machine
end
section
namespace Sys2Proof.Machine
open Sys2Proof

/-! ### The tag reader line (R100, R101) -/

/-- Nothing is left to follow of a change to the merge that leaves its state. -/
theorem Settled.withMerge {s : State} (h : Settled s) {m : Merge} (hm : m.state = s.merge.state) :
    Settled { s with merge := m } := by
  have hin : transferInFlight { s with merge := m } = transferInFlight s := by simp only [transferInFlight, hm]
  have hholds : holdsNow { s with merge := m } = holdsNow s := by
    unfold holdsNow
    rw [hin]
    rfl
  have hopen : grantOpen { s with merge := m } = grantOpen s := by
    unfold grantOpen
    rw [hm]
    rfl
  have hidle : idleInReady { s with merge := m } = idleInReady s := by
    unfold idleInReady partIdle
    rw [hin]
  obtain ⟨⟨hready, hhold, hpurge⟩, hclosed, htimer⟩ := h
  refine ⟨⟨hready, ?_, hpurge⟩, hopen.trans hclosed, hidle ▸ htimer⟩
  rw [hholds]
  exact hhold

/-- An event on the tag reader line changes the merge's reader, and that is all. -/
theorem event_reader {s : State} {f : State → State} {m : Merge} (hr : s.phase = .running) (hs : Settled s) (hl : LinkSound s)
    (hf : f s = { s with merge := m }) (hm : m.state = s.merge.state) : event f s = { s with merge := m } := by
  have hidle : idleInReady { s with merge := m } = idleInReady s := by
    unfold idleInReady partIdle transferInFlight
    rw [hm]
  have hlink : LinkSound { s with merge := m } := hl
  rw [event, whenRunning, if_pos hr, hf, conclude_settled (hs.withMerge hm) (by rw [hidle]; exact id), hlink.chooseMessage_eq]

theorem tagByte_discarded {s : State} (h : s.merge.receiver = .hunting) {b : Byte} (hb : b ≠ 0xC3) : tagByte b s = s := by
  unfold tagByte
  rw [h]
  exact if_neg hb

theorem tagByte_lead {s : State} (h : s.merge.receiver = .hunting) : tagByte 0xC3 s =
    { s with merge := { s.merge with receiver := .assembling [], tagGap := .running 2 } } := by
  unfold tagByte
  rw [h]
  exact if_pos rfl

/-- A byte of the id (R100). -/
theorem tagByte_id {s : State} {bytes : List Byte} (h : s.merge.receiver = .assembling bytes) (hb : bytes.length < 2) (b : Byte) :
    tagByte b s = { s with merge := { s.merge with receiver := .assembling (bytes ++ [b]), tagGap := .running 2 } } := by
  unfold tagByte
  rw [h]
  match bytes, hb with
  | [], _ | [_], _ => rfl

/-- The check byte ends the report, and its read enters the queue (R100, R101). -/
theorem tagByte_check {s : State} {x y : Byte} (h : s.merge.receiver = .assembling [x, y]) (b : Byte) :
    tagByte b s = queueTag (tagReport x y b) { s with merge := { s.merge with receiver := .hunting, tagGap := .idle } } := by
  unfold tagByte
  rw [h]

/-- Settles O39: what a byte does, by the state of the receiver. -/
theorem tagReportsAreQueued : Obligations.TagReportsAreQueued := by
  intro s b hr hs hl read
  have ends {f : State → State} {m : Merge} (hf : f s = { s with merge := m }) (hm : m.state = s.merge.state := by rfl) :
      (.next (event f s) : Answer) = .next { s with merge := m } := congrArg _ (event_reader hr hs hl hf hm)
  refine ⟨fun h hb => ?other, fun h => ?lead, fun bytes h hb => ?id, fun x y h hroom => ?queued, fun x y h hfull => ?newest,
    fun g h => ?gap⟩
  case other => exact ends (m := s.merge) (tagByte_discarded h hb)
  case lead => exact ends (tagByte_lead h)
  case id => exact ends (tagByte_id h hb b)
  case queued => exact ends ((tagByte_check h b).trans (if_pos hroom))
  case newest => exact ends ((tagByte_check h b).trans (if_neg (Nat.not_lt.mpr hfull.ge)))
  case gap => exact ends (f := ifTimerRuns s.merge.tagGap tagAbandon) (by rw [h]; rfl)

end Sys2Proof.Machine
end

section
namespace Sys2Proof.Machine
open Sys2Proof

/-! ## The directory and the racks in their pass -/

/-! ### The directory way by way -/

/-- The entry of a way of a set, if it is valid. -/
def entryAt (s : State) (i : Fin 64) (w : Quad) : Option DirEntry := (s.directory[i]).ways.get w

theorem directorySound_iff {s : State} : DirectorySound s ↔
    (∀ i w e, entryAt s i w = some e → e.id ≠ 0 ∧ setOf e.id = i) ∧
      ∀ i v w e f, entryAt s i v = some e → entryAt s i w = some f → e.id = f.id → v = w :=
  ⟨fun h => ⟨fun i => (h i).1, fun i => (h i).2⟩, fun h i => ⟨h.1 i, h.2 i⟩⟩

theorem DirectorySound.congr {s t : State} (hs : DirectorySound s) (h : t.directory = s.directory) : DirectorySound t := by
  rw [DirectorySound, h]
  exact hs

theorem entryAt_of_lookup {s : State} {id : RackId} {w : Quad} {e : DirEntry} (h : lookup s id = some (w, e)) :
    entryAt s (setOf id) w = some e := (lookup_eq_some.mp h).2.2

/-- An id that misses has no entry in its set (R110). -/
theorem lookup_eq_none {s : State} {id : RackId} (h0 : id ≠ 0) (h : lookup s id = none) {w : Quad} {e : DirEntry}
    (he : entryAt s (setOf id) w = some e) : e.id ≠ id := by
  intro hid
  obtain ⟨v, hv⟩ : ∃ v, (s.directory[setOf id]).find id = some v :=
    Option.isSome_iff_exists.mp (List.find?_isSome.mpr ⟨w, mem_quads w, DirSet.holds_iff.mpr ⟨e, he, hid⟩⟩)
  obtain ⟨f, hf, -⟩ := DirSet.holds_iff.mp (List.find?_some hv)
  rw [lookup_eq_some.mpr ⟨h0, hv, hf⟩] at h
  cases h

/-- In a sound directory every pinned entry is the one that its id finds. -/
theorem pinnedEntry_iff {s : State} {id : RackId} (h : DirectorySound s) :
    PinnedEntry s id ↔ ∃ i w e, entryAt s i w = some e ∧ e.id = id ∧ e.pinned = true := by
  constructor
  · rintro ⟨w, e, hl, hp⟩
    exact ⟨setOf id, w, e, entryAt_of_lookup hl, lookup_id hl, hp⟩
  · rintro ⟨i, w, e, he, rfl, hp⟩
    obtain ⟨h0, rfl⟩ := (directorySound_iff.mp h).1 i w e he
    cases hl : lookup s e.id with
    | none => exact absurd rfl (lookup_eq_none h0 hl he)
    | some q =>
      obtain ⟨v, f⟩ := q
      have hf := entryAt_of_lookup hl
      obtain rfl := (directorySound_iff.mp h).2 _ v w f e hf he (lookup_id hl)
      obtain rfl := Option.some.inj (hf.symm.trans he)
      exact ⟨v, f, hl, hp⟩

/-- From `s` to `t` one way of the directory has been written. -/
def WayWritten (i : Fin 64) (w : Quad) (o : Option DirEntry) (s t : State) : Prop :=
  ∀ j v, entryAt t j v = if j = i ∧ v = w then o else entryAt s j v

theorem wayWritten_of_set {s t : State} {i : Fin 64} {w : Quad} {o : Option DirEntry} {d : DirSet}
    (ht : t.directory = s.directory.set i d) (hd : d.ways = (s.directory[i]).ways.set w o) : WayWritten i w o s t := by
  intro j v
  unfold entryAt
  rw [ht]
  by_cases hj : j = i
  · subst hj
    have hself : (s.directory.set j d)[j] = d := Vector.getElem_set_self _
    rw [hself, hd, Four.get_set]
    simp
  · have hother : (s.directory.set i d)[j] = s.directory[j] := Vector.getElem_set_ne _ _ fun h => hj (Fin.ext h.symm)
    rw [hother, if_neg fun h => hj h.1]

section
variable {i : Fin 64} {w : Quad} {o : Option DirEntry} {s t : State}

/-- The directory stays sound when the entry written is of its set and no other way holds its id. -/
theorem DirectorySound.written (h : DirectorySound s) (hw : WayWritten i w o s t)
    (fits : ∀ e, o = some e → e.id ≠ 0 ∧ setOf e.id = i ∧ ∀ v f, v ≠ w → entryAt s i v = some f → f.id ≠ e.id) :
    DirectorySound t := by
  obtain ⟨hset, hone⟩ := directorySound_iff.mp h
  refine directorySound_iff.mpr ⟨fun j v e he => ?_, fun j u v e f he hf hid => ?_⟩
  · rw [hw] at he
    split at he
    · next hj =>
      obtain ⟨h0, hs, -⟩ := fits e he
      exact ⟨h0, hs.trans hj.1.symm⟩
    · exact hset j v e he
  · rw [hw] at he hf
    split at he <;> split at hf
    · next hu hv => exact hu.2.trans hv.2.symm
    · next hu hv =>
      obtain ⟨rfl, rfl⟩ := hu
      exact absurd hid.symm ((fits e he).2.2 v f (fun hvu => hv ⟨rfl, hvu⟩) hf)
    · next hu hv =>
      obtain ⟨rfl, rfl⟩ := hv
      exact absurd hid ((fits f hf).2.2 u e (fun huv => hu ⟨rfl, huv⟩) he)
    · exact hone j u v e f he hf hid

/-- A pinned entry stays where a pinned one of its id takes its place. -/
theorem PinnedEntry.written {id : RackId} (h : PinnedEntry s id) (hs : DirectorySound s) (ht : DirectorySound t)
    (hw : WayWritten i w o s t)
    (keeps : ∀ e, entryAt s i w = some e → e.pinned = true → ∃ f, o = some f ∧ f.id = e.id ∧ f.pinned = true) :
    PinnedEntry t id := by
  obtain ⟨j, v, e, he, hid, hp⟩ := (pinnedEntry_iff hs).mp h
  by_cases hj : j = i ∧ v = w
  · obtain ⟨rfl, rfl⟩ := hj
    obtain ⟨f, rfl, hf, hfp⟩ := keeps e he hp
    exact (pinnedEntry_iff ht).mpr ⟨j, v, f, (hw j v).trans (if_pos ⟨rfl, rfl⟩), hf.trans hid, hfp⟩
  · exact (pinnedEntry_iff ht).mpr ⟨j, v, e, (hw j v).trans ((if_neg hj).trans he), hid, hp⟩

/-- Another entry of the same id leaves the directory sound. -/
theorem DirectorySound.replaced {e f : DirEntry} (h : DirectorySound s) (hw : WayWritten i w (some f) s t)
    (he : entryAt s i w = some e) (hid : f.id = e.id) : DirectorySound t := by
  obtain ⟨hset, hone⟩ := directorySound_iff.mp h
  refine h.written hw fun x hx => ?_
  obtain rfl := Option.some.inj hx
  rw [hid]
  obtain ⟨h0, hs⟩ := hset i w e he
  exact ⟨h0, hs, fun v y hv hy hye => hv (hone i v w y e hy he hye)⟩

end

/-! ### What keeps every pin -/

/-- From `s` to `t` the directory stays sound and no entry is unpinned, replaced or dropped while it is pinned. -/
structure PinsKept (s t : State) : Prop where
  sound : DirectorySound t
  pinned : ∀ id, PinnedEntry s id → PinnedEntry t id

section
variable {s t : State} (h : DirectorySound s)
include h

theorem pinsKept_of_directory (hd : t.directory = s.directory) : PinsKept s t := ⟨h.congr hd, fun _ hp => hp.congr hd⟩

theorem pinsKept_replaced {i : Fin 64} {w : Quad} {e f : DirEntry} (hw : WayWritten i w (some f) s t)
    (he : entryAt s i w = some e) (hid : f.id = e.id) (hp : e.pinned = true → f.pinned = true) : PinsKept s t where
  sound := h.replaced hw he hid
  pinned _ hx := hx.written h (h.replaced hw he hid) hw fun y hy hyp => by
    obtain rfl := Option.some.inj (hy.symm.trans he)
    exact ⟨f, rfl, hid, hp hyp⟩

/-- A way without a pinned entry is given away (R114, R115). -/
theorem pinsKept_given {i : Fin 64} {w : Quad} {o : Option DirEntry} (hw : WayWritten i w o s t)
    (hfree : ∀ e, entryAt s i w = some e → e.pinned = false)
    (fits : ∀ e, o = some e → e.id ≠ 0 ∧ setOf e.id = i ∧ ∀ v f, v ≠ w → entryAt s i v = some f → f.id ≠ e.id) :
    PinsKept s t where
  sound := h.written hw fits
  pinned _ hx := hx.written h (h.written hw fits) hw fun e he hp => absurd hp (by simp [hfree e he])

end

theorem PinsKept.trans {s t u : State} (h : PinsKept s t) (h' : PinsKept t u) : PinsKept s u :=
  ⟨h'.sound, fun id hp => h'.pinned id (h.pinned id hp)⟩

/-! ### Messages (R112, R113) -/

section
variable {s : State} (h : DirectorySound s)
include h

theorem DirectorySound.updateEntry (id : RackId) {f : DirEntry → DirEntry} (hf : ∀ e, (f e).id = e.id) :
    DirectorySound (updateEntry id f s) := by
  unfold Machine.updateEntry
  split
  · next w e hl =>
    exact h.replaced (wayWritten_of_set rfl (DirSet.put_ways _ w (f e))) (entryAt_of_lookup hl) (hf e)
  · exact h

theorem pinsKept_updateEntry (id : RackId) {f : DirEntry → DirEntry} (hf : ∀ e, (f e).id = e.id)
    (hp : ∀ e, e.pinned = true → (f e).pinned = true) : PinsKept s (updateEntry id f s) :=
  ⟨h.updateEntry id hf, fun _ hx => hx.updateEntry hf fun _ => hp⟩

theorem pinsKept_sendLocation (id : RackId) (l : Location) : PinsKept s (sendLocation id l s) :=
  pinsKept_updateEntry h id (fun _ => rfl) fun _ hp => hp

theorem pinsKept_sendPass (id : RackId) (v : Verdict) (d : Nat) : PinsKept s (sendPass id v d s) :=
  pinsKept_updateEntry h id (fun _ => rfl) fun _ hp => hp

theorem pinsKept_sendKind (id : RackId) (k : Kind) : PinsKept s (sendKind id k s) := by
  refine pinsKept_updateEntry h id (fun e => ?_) fun e hp => ?_
  · split <;> rfl
  · split <;> exact hp

theorem pinsKept_locations (l : Location) (ids : List RackId) :
    PinsKept s (ids.foldl (fun s id => sendLocation id l s) s) := by
  induction ids generalizing s with
  | nil => exact pinsKept_of_directory h rfl
  | cons i ids ih => exact (pinsKept_sendLocation h i l).trans (ih (pinsKept_sendLocation h i l).sound)

end

/-! ### Allocation (R114 to R118) -/

theorem DirSet.unpinned_iff {d : DirSet} {w : Quad} :
    d.unpinned w = true ↔ ∀ e, d.ways.get w = some e → e.pinned = false := by
  unfold DirSet.unpinned
  cases d.ways.get w <;> simp

/-- The walk ends at a way that is not pinned (R115). -/
theorem DirSet.walk_unpinned {d : DirSet} {w : Quad} (h : d.walk = some w) : d.unpinned w = true := by
  have pair {a b c : Quad} (hp : ¬ (!(d.unpinned a || d.unpinned b)) = true)
      (hc : (if d.unpinned a then some a else some b) = some c) : d.unpinned c = true := by
    split at hc <;> obtain rfl := Option.some.inj hc
    · assumption
    · simp_all
  have swapped {a b c : Quad} (hp : ¬ (!(d.unpinned a || d.unpinned b)) = true)
      (hc : (if d.unpinned b then some b else some a) = some c) : d.unpinned c = true :=
    pair (by rwa [Bool.or_comm]) hc
  unfold DirSet.walk at h
  dsimp only at h
  generalize (if d.b0 then d.unpinned 2 || d.unpinned 3 else !(d.unpinned 0 || d.unpinned 1)) = second at h
  split at h <;> split at h
  · cases h
  · next hp =>
    split at h
    · exact swapped hp h
    · exact pair hp h
  · cases h
  · next hp =>
    split at h
    · exact swapped hp h
    · exact pair hp h

/-- The way taken held no pinned entry. -/
theorem allocate_unpinned {id : RackId} {x : DirEntry} {s t : State} {w : Quad} {v : Option EntryBlock}
    (h : allocate id x s = .taken w t v) {e : DirEntry} (he : entryAt s (setOf id) w = some e) : e.pinned = false := by
  have hu : (s.directory[setOf id]).unpinned w = true := by
    unfold allocate at h
    dsimp only at h
    split at h
    · next u hu =>
      have hn : ((s.directory[setOf id]).ways.get u).isNone = true :=
        List.find?_some (p := fun w => ((s.directory[setOf id]).ways.get w).isNone) hu
      cases h
      refine DirSet.unpinned_iff.mpr fun f hf => ?_
      rw [hf] at hn
      cases hn
    · split at h
      · cases h
      · next u hu =>
        have hwalk := DirSet.walk_unpinned hu
        split at h
        · cases h
          exact hwalk
        · (repeat' split at h) <;> cases h <;> exact hwalk
  exact DirSet.unpinned_iff.mp hu e he

theorem flushedEntry_id (e : DirEntry) : (flushedEntry e).id = e.id := by
  unfold flushedEntry
  split <;> rfl

theorem flushedEntry_pinned (e : DirEntry) : (flushedEntry e).pinned = e.pinned := by
  unfold flushedEntry
  split <;> rfl

section
variable {s : State} (h : DirectorySound s)
include h

/-- An id that has missed is given a way (R114). -/
theorem pinsKept_allocate {id : RackId} (h0 : id ≠ 0) (hl : lookup s id = none) {x : DirEntry} (hx : x.id = id) {w : Quad}
    {t : State} {v : Option EntryBlock} (ha : allocate id x s = .taken w t v) : PinsKept s t := by
  refine pinsKept_given h (wayWritten_of_set (allocate_directory ha) (DirSet.put_ways _ w x))
    (fun e he => allocate_unpinned ha he) fun e he => ?_
  obtain rfl := Option.some.inj he
  subst hx
  exact ⟨h0, rfl, fun v f _ hf => lookup_eq_none h0 hl hf⟩

theorem pinsKept_admissionRequest {id : RackId} (h0 : id ≠ 0) (k : Kind) (n : Quad) :
    PinsKept s (admissionRequest id k n s).1 := by
  unfold admissionRequest
  split
  · exact pinsKept_updateEntry h id (fun _ => rfl) fun _ _ => rfl
  · next hl =>
    split
    · next ha => exact pinsKept_allocate h h0 hl (x := admittedEntry id k) rfl ha
    · exact pinsKept_of_directory h (by simp)
    · exact pinsKept_of_directory h (by simp)

theorem pinsKept_sendAdmission (n : Quad) (x e : RackId) (k : Kind) : PinsKept s (sendAdmission n x e k s).1 := by
  have hasked : PinsKept s (if x = 0 then s else (admissionRequest x k n s).1) := by
    split
    · exact pinsKept_of_directory h rfl
    · next h0 => exact pinsKept_admissionRequest h h0 k n
  rw [sendAdmission_fst, admissionTold]
  split
  · exact hasked.trans (pinsKept_sendLocation hasked.sound e .loose)
  · exact hasked

/-! ### Host requests (R124 to R128) -/

theorem pinsKept_getRecord (id : RackId) : PinsKept s (requestGetRecord id s).1 := by
  unfold requestGetRecord
  split
  · exact pinsKept_of_directory h rfl
  · split
    · exact pinsKept_of_directory h rfl
    · exact pinsKept_updateEntry h id (fun _ => rfl) fun _ hp => hp

/-- PUT_RECORD replaces an entry by one of the same id and pin, or allocates (R125, R126). -/
theorem pinsKept_putRecord (id : RackId) (k : Byte) (c : Half) (x : Byte) (l : Half) :
    PinsKept s (requestPutRecord id k c x l s).1 := by
  have hit {w : Quad} {e : DirEntry} (hl : lookup s id = some (w, e)) {f : DirEntry} (hid : f.id = e.id)
      (hp : e.pinned = true → f.pinned = true) : PinsKept s (updateEntry id (fun _ => f) s) := by
    unfold updateEntry
    rw [hl]
    exact pinsKept_replaced h (wayWritten_of_set rfl (DirSet.put_ways _ w f)) (entryAt_of_lookup hl) hid hp
  have same : PinsKept s s := pinsKept_of_directory h rfl
  unfold requestPutRecord
  dsimp only
  split
  · exact same
  · next h0 =>
    split
    · exact same
    · split
      · next hl =>
        split
        · exact hit hl rfl fun hp => hp
        · split
          · exact hit hl rfl fun hp => hp
          · exact same
      · next hl =>
        split
        · next ha => exact pinsKept_allocate h h0 hl (by exact rfl) ha
        · exact same

/-- DROP_RECORD makes no pinned entry invalid (R127). -/
theorem pinsKept_dropRecord (id : RackId) : PinsKept s (requestDropRecord id s).1 := by
  have same : PinsKept s s := pinsKept_of_directory h rfl
  unfold requestDropRecord
  split
  · exact same
  · split
    · exact same
    · next w e hl =>
      split
      · exact same
      · next hp =>
        refine pinsKept_given h (wayWritten_of_set (i := setOf id) (w := w) rfl rfl) (fun f hf => ?_) nofun
        obtain rfl := Option.some.inj (hf.symm.trans (entryAt_of_lookup hl))
        exact Bool.eq_false_iff.mpr hp

theorem pinsKept_flushFrom (q : List (Fin 64 × Quad)) : PinsKept s (flushFrom q s).1 := by
  induction q generalizing s with
  | nil => exact pinsKept_of_directory h rfl
  | cons p q ih =>
    obtain ⟨i, w⟩ := p
    unfold flushFrom
    split
    · exact ih h
    · next e he =>
      dsimp only
      split
      · exact ih h
      · split
        · generalize hx : (Notice.spill ⟨e, i.val, w⟩ .flushed) = x
          have hflushed : PinsKept s ((enqueue x s).setDirSet i
              { s.directory[i] with ways := (s.directory[i]).ways.set w (some (flushedEntry e)) }) := by
            refine pinsKept_replaced h (wayWritten_of_set (d := { s.directory[i] with
              ways := (s.directory[i]).ways.set w (some (flushedEntry e)) }) (by simp) rfl) he (flushedEntry_id e) ?_
            rw [flushedEntry_pinned]
            exact id
          exact hflushed.trans (ih hflushed.sound)
        · exact pinsKept_of_directory h rfl

end

end Sys2Proof.Machine
end

section
namespace Sys2Proof.Machine
open Sys2Proof

/-! ### The racks in their pass (R119) -/

/-- The record is TRACKED under this id. -/
def TracksId (i : RackId) (r : TrackRecord) : Prop := r.tracked = true ∧ r.id = i

/-- A position of the track holds a TRACKED record of this id. -/
def OnTrack (i : RackId) (v : Vector (Option TrackRecord) 17) : Prop := ∃ r, some r ∈ v.toList ∧ TracksId i r

/-- A TRACKED record of this id is on the track, in the rewash lane or at the clean end. -/
def InPass (i : RackId) (s : State) : Prop :=
  OnTrack i s.track.positions ∨ (∃ r ∈ s.ret.lane, TracksId i r) ∨ ∃ e ∈ s.ret.cleanEnd, TracksId i e.record

/-- How often an id stands on the track, in the rewash lane and at the clean end. -/
def keptCount (i : RackId) (s : State) : Nat :=
  trackCount i s.track.positions + (s.ret.lane.map (·.id)).count i + (s.ret.cleanEnd.map (·.record.id)).count i

theorem inPass_iff {i : RackId} {s : State} : InPass i s ↔ ∃ r ∈ keptRecords s, TracksId i r := by
  simp only [InPass, OnTrack, keptRecords, List.mem_append, List.mem_filterMap, List.mem_map, id, exists_eq_right, or_and_right,
    exists_or, or_assoc]
  refine or_congr Iff.rfl (or_congr Iff.rfl ⟨?_, ?_⟩)
  · rintro ⟨e, he, ht⟩
    exact ⟨_, ⟨e, he, rfl⟩, ht⟩
  · rintro ⟨_, ⟨e, he, rfl⟩, ht⟩
    exact ⟨e, he, ht⟩

theorem keptCount_le_heldCount (i : RackId) (s : State) : keptCount i s ≤ heldCount i s := by
  unfold keptCount heldCount retCount
  omega

/-- The directory is sound, no id but 0 stands twice among the records whose entries stay pinned, and every TRACKED one of
them has its pinned entry. -/
structure PassSound (s : State) : Prop where
  sound : DirectorySound s
  once : ∀ i, i ≠ 0 → keptCount i s ≤ 1
  pinned : ∀ i, InPass i s → PinnedEntry s i

theorem PinnedEntry.ne_zero {s : State} {i : RackId} (h : PinnedEntry s i) : i ≠ 0 := by
  obtain ⟨w, e, hl, -⟩ := h
  exact (lookup_eq_some.mp hl).1

theorem tracked_iff {s : State} : Tracked s ↔ DistinctWith [] s ∧ PassSound s := by
  rw [Tracked, idsDistinct_iff_with]
  refine and_congr_right fun hd => ⟨fun ⟨hs, hp⟩ => ⟨hs, fun i h0 => ?_, fun i hi => ?_⟩, fun h => ⟨h.sound, fun r hr ht => ?_⟩⟩
  · exact (keptCount_le_heldCount i s).trans (hd.once i h0)
  · obtain ⟨r, hr, ht, rfl⟩ := inPass_iff.mp hi
    exact (hp r hr ht).2
  · have hp := h.pinned r.id (inPass_iff.mpr ⟨r, hr, ht, rfl⟩)
    exact ⟨hp.ne_zero, hp⟩

/-! ### Records that stay, move on or leave -/

/-- The track `w` holds no rack in its pass that `v` does not hold. -/
structure RecordsPass (v w : Vector (Option TrackRecord) 17) : Prop where
  count : ∀ i, i ≠ 0 → trackCount i w ≤ trackCount i v
  tracked : ∀ i, OnTrack i w → OnTrack i v

theorem RecordsPass.trans {u v w : Vector (Option TrackRecord) 17} (h : RecordsPass u v) (h' : RecordsPass v w) :
    RecordsPass u w := ⟨fun i h0 => (h'.count i h0).trans (h.count i h0), fun i hi => h.tracked i (h'.tracked i hi)⟩

/-- What is put at a position is nothing, an anonymous record that is not TRACKED, or what stood there with other marks. -/
theorem recordsPass_set {v : Vector (Option TrackRecord) 17} {j : Nat} {h : j < 17} {o : Option TrackRecord}
    (ho : ∀ r, o = some r → (r.id = 0 ∧ r.tracked = false) ∨ ∃ q, v[j] = some q ∧ q.id = r.id ∧ q.tracked = r.tracked) :
    RecordsPass v (v.set j o) where
  count i h0 := by
    have hset := trackCount_set i v j h o
    have hle : recordHas i o ≤ recordHas i v[j] := by
      cases o with
      | none => exact Nat.zero_le _
      | some r =>
        rcases ho r rfl with ⟨hid, -⟩ | ⟨q, hq, hid, -⟩
        · rw [recordHas_some, hid, count_anonymous h0]
          exact Nat.zero_le _
        · rw [hq, recordHas_some, recordHas_some, hid]
    omega
  tracked i := by
    rintro ⟨r, hr, ht, hid⟩
    rw [Vector.toList_set] at hr
    rcases List.mem_or_eq_of_mem_set hr with hr | rfl
    · exact ⟨r, hr, ht, hid⟩
    · rcases ho r rfl with ⟨-, hn⟩ | ⟨q, hq, hqid, hqt⟩
      · rw [ht] at hn
        cases hn
      · exact ⟨q, by rw [← hq]; simp, hqt.trans ht, hqid.trans hid⟩

theorem recordsPass_marked {v : Vector (Option TrackRecord) 17} {j : Nat} {h : j < 17} {o : Option TrackRecord}
    {f : TrackRecord → TrackRecord} (ho : o = v[j].map f) (hid : ∀ r, (f r).id = r.id) (ht : ∀ r, (f r).tracked = r.tracked) :
    RecordsPass v (v.set j o) := by
  refine recordsPass_set fun r hr => .inr ?_
  obtain ⟨q, hq, rfl⟩ := Option.map_eq_some_iff.mp (ho.symm.trans hr)
  exact ⟨q, hq, (hid q).symm, (ht q).symm⟩

/-- A started step sets marks only (R14). -/
theorem recordsPass_startedRecords (s : State) : RecordsPass s.track.positions (startedRecords s) := by
  refine (recordsPass_marked (j := 16) (f := fun r => { r with destination := exitRoute s r }) rfl (fun _ => rfl) fun _ => rfl).trans
    (recordsPass_marked (f := judged) ?_ (fun _ => rfl) fun _ => rfl)
  rw [Vector.getElem_set_ne _ _ (by decide)]

/-- A sample adds to doses only (R40). -/
theorem recordsPass_creditedRecords (c : Nat) (v : Vector (Option TrackRecord) 17) : RecordsPass v (creditedRecords c v) := by
  have ht (r : TrackRecord) : (creditRecord c r).tracked = r.tracked := by
    unfold creditRecord
    split <;> rfl
  refine (recordsPass_marked (j := 11) rfl (creditRecord_id c) ht).trans
    (recordsPass_marked (f := creditRecord c) ?_ (creditRecord_id c) ht)
  rw [Vector.getElem_set_ne _ _ (by decide)]

/-- From `s` to `t` no rack in its pass comes in. -/
structure RacksKept (s t : State) : Prop where
  count : ∀ i, i ≠ 0 → keptCount i t ≤ keptCount i s
  tracked : ∀ i, InPass i t → InPass i s

theorem RacksKept.of_track {s t : State} (h : RecordsPass s.track.positions t.track.positions)
    (ret : t.ret = s.ret := by simp) : RacksKept s t where
  count i h0 := by
    have := h.count i h0
    simp only [keptCount, ret]
    omega
  tracked i hi := by
    rw [InPass, ret] at hi
    exact hi.imp_left (h.tracked i)

section
variable {s t : State} (h : PassSound s)
include h

theorem PassSound.kept (hp : PinsKept s t) (hr : RacksKept s t) : PassSound t where
  sound := hp.sound
  once i h0 := (hr.count i h0).trans (h.once i h0)
  pinned i hi := hp.pinned i (h.pinned i (hr.tracked i hi))

omit h in
/-- The parts of the state that the invariant looks at. -/
def passView (s : State) : Vector DirSet 64 × Vector (Option TrackRecord) 17 × List TrackRecord × List CleanEntry :=
  (s.directory, s.track.positions, s.ret.lane, s.ret.cleanEnd)

theorem PassSound.congr (hv : passView t = passView s := by simp [passView]) : PassSound t := by
  simp only [passView, Prod.mk.injEq] at hv
  obtain ⟨directory, positions, lane, clean⟩ := hv
  refine h.kept (pinsKept_of_directory h.sound directory) ⟨fun i _ => ?_, fun i hi => ?_⟩
  · simp only [keptCount, positions, lane, clean, le_refl]
  · simpa only [InPass, positions, lane, clean] using hi

/-- Messages alone have reached the directory, and none of them unpins an entry. -/
theorem PassSound.told (hp : PinsKept s t) (track : t.track = s.track := by simp) (ret : t.ret = s.ret := by simp) :
    PassSound t := by
  refine h.kept hp (.of_track ?_ ret)
  rw [track]
  exact ⟨fun _ _ => le_rfl, fun _ hi => hi⟩

theorem PassSound.sendLocation (id : RackId) (l : Location) : PassSound (sendLocation id l s) :=
  h.told (pinsKept_sendLocation h.sound id l)

theorem PassSound.enqueue (n : Notice) : PassSound (enqueue n s) := h.congr

omit h in
theorem InPass.counted {i : RackId} (hi : InPass i s) (h0 : i ≠ 0) : keptCount i s ≠ 0 := by
  unfold keptCount
  rcases hi with ⟨r, hr, -, rfl⟩ | ⟨r, hr, -, rfl⟩ | ⟨e, he, -, rfl⟩
  · have : 0 < trackCount r.id s.track.positions := List.countP_pos_iff.mpr ⟨some r, hr, by simp⟩
    omega
  · have := List.count_pos_iff.mpr (List.mem_map_of_mem (f := fun r : TrackRecord => r.id) hr)
    omega
  · have := List.count_pos_iff.mpr (List.mem_map_of_mem (f := fun e : CleanEntry => e.record.id) he)
    omega

/-- An entry is unpinned once its rack is no longer in its pass (R119). -/
theorem PassSound.sendUnpin {x : RackId} (hx : x ≠ 0 → keptCount x s = 0) (l : Location) : PassSound (sendUnpin x l s) := by
  have hracks : RacksKept s (Machine.sendUnpin x l s) := ⟨fun i _ => by simp [keptCount], fun i hi => by simpa [InPass] using hi⟩
  refine ⟨h.sound.updateEntry x fun _ => rfl, fun i h0 => (hracks.count i h0).trans (h.once i h0), fun i hi => ?_⟩
  have hp := h.pinned i (hracks.tracked i hi)
  refine hp.sendUnpin ?_ l
  rintro rfl
  exact (hracks.tracked x hi).counted hp.ne_zero (hx hp.ne_zero)

end

/-! ### Steps of the track -/

theorem PinsKept.of_directory {s t u : State} (h : PinsKept s t) (hd : u.directory = t.directory) : PinsKept s u :=
  h.trans (pinsKept_of_directory h.sound hd)

/-- A started step tells the directory the pass of a TRACKED record at F2 (R14, R120). -/
theorem pinsKept_stepStart {s : State} (h : DirectorySound s) : PinsKept s (stepStart s) := by
  have hd := stepStart_directory (s := s) (t := s) rfl
  cases hr : s.track.positions[12] with
  | none => exact pinsKept_of_directory h (by rw [hd, hr])
  | some r =>
    rw [hr] at hd
    dsimp only at hd
    split at hd
    · exact (pinsKept_sendPass h r.id (verdictOf r) r.dose).of_directory hd
    · exact pinsKept_of_directory h hd

/-- The directory is told of a TRACKED record that leaves X (R16). -/
theorem pinsKept_handedTo {s : State} (h : DirectorySound s) (x : Option TrackRecord) : PinsKept s (handedTo x s) := by
  have same : PinsKept s s := pinsKept_of_directory h rfl
  unfold handedTo
  split
  · split
    · split
      · exact pinsKept_sendLocation h _ _
      · exact same
    · exact same
  · exact same

theorem afterShift_ret (s : State) : (afterShift s).ret = handedRet s := by
  simp [afterShift, handOver_ret, handedRet, endMotion]

/-- What the lane takes over is the record at X, but for its destination (R16). -/
theorem tracksId_of_handedLane {i : RackId} {x : Option TrackRecord} {r : TrackRecord} (hr : r ∈ handedLane x)
    (ht : TracksId i r) : ∃ q, x = some q ∧ TracksId i q := by
  unfold handedLane at hr
  split at hr
  · split at hr
    · obtain rfl := List.mem_singleton.mp hr
      exact ⟨_, rfl, ht⟩
    · cases hr
  · cases hr

/-- What the clean end takes over is the record at X, but for its destination (R16). -/
theorem tracksId_of_handedClean {i : RackId} {x : Option TrackRecord} {e : CleanEntry} (he : e ∈ handedClean x)
    (ht : TracksId i e.record) : ∃ q, x = some q ∧ TracksId i q := by
  unfold handedClean at he
  split at he
  · split at he
    · obtain rfl := List.mem_singleton.mp he
      exact ⟨_, rfl, ht⟩
    · split at he
      · obtain rfl := List.mem_singleton.mp he
        exact ⟨_, rfl, ht⟩
      · cases he
  · cases he

theorem onTrack_shiftRecords {i : RackId} {v : Vector (Option TrackRecord) 17} (h : OnTrack i (shiftRecords v)) : OnTrack i v := by
  obtain ⟨r, hr, ht⟩ := h
  have hr : some r ∈ none :: v.toList.dropLast := hr
  exact ⟨r, List.mem_of_mem_dropLast ((List.mem_cons.mp hr).resolve_left nofun), ht⟩

/-- The record that comes to D1 loses its leaving mark (R15). -/
theorem recordsPass_clearedAtD1 (v : Vector (Option TrackRecord) 17) :
    RecordsPass (shiftRecords v) ((shiftRecords v).set 13 (v[12].map fun r => { r with leaving := false })) :=
  recordsPass_marked (f := fun r => { r with leaving := false }) (by rw [shiftRecords_getElem]; rfl) (fun _ => rfl) fun _ => rfl

/-- The X record moves to the queue of its destination, the others move one position on (R15, R16). -/
theorem racksKept_afterShift (s : State) : RacksKept s (afterShift s) where
  count i h0 := by
    have hshift := trackCount_shiftRecords i s.track.positions
    have hd1 := (recordsPass_clearedAtD1 s.track.positions).count i h0
    have hret := retCount_handedRet i s
    rw [handedRet_eq] at hret
    simp only [keptCount, afterShift_track, afterShift_ret, handedRet_eq]
    simp only [retCount] at hret
    omega
  tracked i hi := by
    have hx (h : ∃ q, s.track.positions[16] = some q ∧ TracksId i q) : InPass i s := by
      obtain ⟨q, hq, ht⟩ := h
      exact .inl ⟨q, by rw [← hq]; simp, ht⟩
    rw [InPass, afterShift_track, afterShift_ret, handedRet_eq] at hi
    rcases hi with hi | ⟨r, hr, ht⟩ | ⟨e, he, ht⟩
    · exact .inl (onTrack_shiftRecords ((recordsPass_clearedAtD1 _).tracked i hi))
    · rcases List.mem_append.mp hr with hr | hr
      · exact .inr (.inl ⟨r, hr, ht⟩)
      · exact hx (tracksId_of_handedLane hr ht)
    · rcases List.mem_append.mp he with he | he
      · exact .inr (.inr ⟨e, he, ht⟩)
      · exact hx (tracksId_of_handedClean he ht)

section
variable {s : State} (h : PassSound s)
include h

theorem PassSound.stepStart : PassSound (stepStart s) := by
  refine h.kept (pinsKept_stepStart h.sound) (.of_track ?_)
  rw [stepStart_track]
  exact recordsPass_startedRecords s

theorem PassSound.dueEvaluation : PassSound (dueEvaluation s) := by
  rcases dueEvaluation_waits_or_starts s with ⟨w, hw, -, he⟩ | ⟨-, e, he⟩ <;> rw [he]
  · exact h.congr (by simp [passView, hw])
  · exact PassSound.stepStart (h.congr rfl)

/-- A rack missing at X leaves its pass, and one found there without a record is anonymous (R18, R19). -/
theorem PassSound.exitEyeCheck : PassSound (exitEyeCheck s) := by
  unfold Machine.exitEyeCheck Track.x
  split
  · next r hr _ =>
    have hgone : PassSound (s.setPosition 16 none) := by
      refine h.kept (pinsKept_of_directory h.sound rfl) (.of_track ?_)
      exact recordsPass_set (h := by decide) nofun
    refine PassSound.enqueue ?_ _
    split
    · refine hgone.sendUnpin (fun h0 => ?_) _
      have hset := trackCount_set r.id s.track.positions 16 (by decide) none
      have hone := h.once r.id h0
      rw [hr, recordHas_some, List.count_singleton_self] at hset
      have hnone : recordHas r.id none = 0 := rfl
      simp only [keptCount, State.setPosition_ret, State.setPosition_track] at hone ⊢
      change trackCount r.id (s.track.positions.set 16 none) + _ + _ = 0
      omega
    · exact hgone
  · refine h.kept (pinsKept_of_directory h.sound rfl) (.of_track ?_)
    refine recordsPass_set (h := by decide) fun q hq => .inl ?_
    obtain rfl := Option.some.inj hq
    exact ⟨rfl, rfl⟩
  · exact h

theorem PassSound.completeMotion : PassSound (completeMotion s) := by
  have hp : PinsKept s (afterShift s) := (pinsKept_handedTo h.sound _).of_directory (afterShift_directory rfl)
  rw [completeMotion_eq]
  exact PassSound.exitEyeCheck ((h.kept hp (racksKept_afterShift s)).congr rfl)

theorem PassSound.resumeMotion : PassSound (resumeMotion s) := by
  unfold Machine.resumeMotion
  split
  · exact h.completeMotion.congr
  · exact h.congr (by simp [passView, runDrive])

theorem PassSound.wake : PassSound (wake s) := by
  unfold Machine.wake
  dsimp only
  split
  · exact h.congr (by simp [passView, enterRecovery])
  · exact h.congr

theorem PassSound.runMove : PassSound (runMove s) := by
  have hr : PassSound { s with track := { s.track with runEnable := true } } := h.congr rfl
  have ready : PassSound (enterState .ready { s with track := { s.track with runEnable := true } }) := hr.congr
  unfold Machine.runMove
  dsimp only
  split
  · split
    · exact hr.resumeMotion
    · exact ready
  · split
    · exact hr.resumeMotion
    · split
      · exact hr.congr (by simp [passView, enterRecovery])
      · exact ready
  · exact hr.wake
  · exact hr

/-! ### Samples -/

theorem PassSound.formed (x : Code) (y : Option Code) : PassSound (formed x y s) := by
  refine h.kept (pinsKept_of_directory h.sound (by simp)) (.of_track ?_)
  rw [formed_track]
  exact recordsPass_creditedRecords _ _

theorem PassSound.completeRecovery : PassSound (completeRecovery s) :=
  PassSound.dueEvaluation (h.congr (by simp [passView, stopRecoveryTimers]))

theorem PassSound.formSample (x : Code) (y : Option Code) : PassSound (formSample x y s) := by
  have hf := (h.formed x y).dueEvaluation
  unfold Machine.formSample
  dsimp only
  split
  · exact hf.completeRecovery
  · exact hf

theorem PassSound.conversionA (c : Code) : PassSound (conversionA c s) := by
  unfold Machine.conversionA
  split
  · split
    · exact h.formSample _ _
    · exact h.congr rfl
  · exact h

theorem PassSound.conversionB (c : Code) : PassSound (conversionB c s) := by
  unfold Machine.conversionB
  split
  · exact h.formSample _ _
  · exact h

end

end Sys2Proof.Machine
end

section
namespace Sys2Proof.Machine
open Sys2Proof

/-! ### Stations and grants -/

section
variable {s : State} (h : PassSound s)
include h

theorem PassSound.setStation (n : Quad) (u : StationUnit) : PassSound (s.setStation n u) := h.congr rfl

theorem PassSound.setHead (n : Quad) (e : SpurEntry) : PassSound (setHead n e s) := h.congr rfl

theorem PassSound.removeHead (n : Quad) : PassSound (removeHead n s) := h.congr rfl

theorem PassSound.sendKind (id : RackId) (k : Kind) : PassSound (sendKind id k s) :=
  h.told (pinsKept_sendKind h.sound id k)

theorem PassSound.grantOpportunity : PassSound (grantOpportunity s) := by
  obtain ⟨q, hq⟩ := grantOpportunity_track_holds s
  exact h.congr (by simp [passView, hq])

theorem PassSound.profileHead (n : Quad) : PassSound (profileHead n s) := by
  unfold Machine.profileHead
  dsimp only
  split
  · split
    · exact h
    · exact PassSound.sendKind (h.setHead n _) _ _
  · exact h.congr rfl

theorem PassSound.readSpurHead (n : Quad) : PassSound (readSpurHead n s) := by
  unfold Machine.readSpurHead
  split
  · exact h.profileHead n
  · exact h

theorem PassSound.withdrawHead (n : Quad) : PassSound (withdrawHead n s) := by
  unfold Machine.withdrawHead
  split
  · split
    · exact PassSound.sendLocation (h.removeHead n) _ _
    · exact h
  · exact h

theorem PassSound.popStack (n : Quad) : PassSound (popStack n s) := by
  have hloose : PassSound (bayDiscarded n s) := by
    unfold bayDiscarded
    split
    · exact h.sendLocation _ _
    · exact h
  cases hs : (s.stations.get n).stack with
  | nil => rw [popStack_nil hs]; exact hloose.setStation n _
  | cons e rest => rw [popStack_cons hs]; exact PassSound.sendLocation (hloose.setStation n _) _ _

theorem PassSound.pressSend (n : Quad) : PassSound (pressSend n s) := by
  unfold Machine.pressSend takeSend
  dsimp only
  split
  · split
    · generalize ((s.stations.get n).bay.map (·.id)).getD 0 = id
      have hsent : PassSound (Machine.sendLocation id (.spur n) (s.setStation n { s.stations.get n with
          spur := (s.stations.get n).spur ++ [sentEntry id], bay := none })) := PassSound.sendLocation (h.setStation n _) _ _
      split
      · exact hsent.wake
      · exact hsent
    · exact h.congr rfl
  · exact h

theorem PassSound.deliveryExpiry (n : Quad) (i : Nat) : PassSound (deliveryExpiry n i s) := by
  unfold Machine.deliveryExpiry completeDelivery
  split
  · next d hd =>
    split
    · simp only [hd]
      exact PassSound.sendLocation (h.setStation n _) _ _
    · exact h
  · exact h

theorem PassSound.requestClearStack (n : Byte) : PassSound (requestClearStack n s).1 := by
  unfold Machine.requestClearStack
  split
  · next m _ =>
    have hclear : PassSound (s.setStation m { s.stations.get m with stack := [] }) := h.congr rfl
    exact hclear.told (pinsKept_locations hclear.sound _ _)
  · exact h

theorem PassSound.requestLoadStack (n c : Byte) (es : List LoadEntry) : PassSound (requestLoadStack n c es s).1 := by
  unfold Machine.requestLoadStack
  split
  · next m q _ _ =>
    have hload : PassSound (s.setStation m { s.stations.get m with stack := q.reverse ++ (s.stations.get m).stack }) :=
      h.congr rfl
    dsimp only
    (repeat' split)
    · exact h
    · exact h
    · exact h
    · exact hload.told (pinsKept_locations hload.sound _ _)
  · exact h

end

/-! ### Transfers (R95, R98, R99) -/

/-- The head of the lane moves to position 0 (R105). -/
theorem racksKept_completeRewash (s : State) : RacksKept s (completeRewash s) := by
  unfold completeRewash
  split
  · next r rest hl =>
    have hmoved : RacksKept s { s.setPosition 0 (some (reentered r)) with ret := { s.ret with lane := rest } } := by
      refine ⟨fun i h0 => ?_, fun i hi => ?_⟩
      · have hset := trackCount_set i s.track.positions 0 (by decide) (some (reentered r))
        rw [recordHas_some] at hset
        simp only [keptCount, hl, List.map_cons, List.count_cons]
        change trackCount i (s.track.positions.set 0 (some (reentered r))) + _ + _ ≤ _
        have hid : [(reentered r).id].count i = if r.id == i then 1 else 0 := by simp [reentered, List.count_singleton]
        omega
      · rcases hi with ⟨x, hx, ht⟩ | ⟨x, hx, ht⟩ | hi
        · have hx : some x ∈ (s.track.positions.set 0 (some (reentered r))).toList := hx
          rw [Vector.toList_set] at hx
          rcases List.mem_or_eq_of_mem_set hx with hx | hx
          · exact .inl ⟨x, hx, ht⟩
          · obtain rfl := Option.some.inj hx
            exact .inr (.inl ⟨r, by simp [hl], ht⟩)
        · exact .inr (.inl ⟨x, by rw [hl]; exact List.mem_cons_of_mem _ hx, ht⟩)
        · exact .inr (.inr hi)
    dsimp only
    split
    · refine ⟨fun i h0 => le_trans (le_of_eq ?_) (hmoved.count i h0), fun i hi => hmoved.tracked i ?_⟩
      · simp [keptCount]
      · simpa [InPass] using hi
    · exact hmoved
  · exact ⟨fun _ _ => le_rfl, fun _ hi => hi⟩

theorem pinsKept_completeRewash {s : State} (h : DirectorySound s) : PinsKept s (completeRewash s) := by
  unfold completeRewash
  split
  · next r _ _ =>
    dsimp only
    split
    · exact (pinsKept_sendLocation h r.id .track).of_directory rfl
    · exact pinsKept_of_directory h rfl
  · exact pinsKept_of_directory h rfl

theorem PassSound.completeRewash {s : State} (h : PassSound s) : PassSound (completeRewash s) :=
  h.kept (pinsKept_completeRewash h.sound) (racksKept_completeRewash s)

/-- The record of a spur transfer is TRACKED when the directory has answered its admission with an entry, which is pinned
(R104, R105, R118). -/
theorem sendAdmission_tracked {n : Quad} {x e : RackId} {k : Kind} {s : State} (h : (sendAdmission n x e k s).2 = true) :
    PinnedEntry (sendAdmission n x e k s).1 x := by
  rw [sendAdmission_snd] at h
  rw [sendAdmission_fst]
  split at h
  · cases h
  · next h0 => exact admissionTold_pinned h0 h

theorem presenceCheck_ret (n : Quad) (i : RackId) (o : IdSource) (v : Bool) (s : State) :
    (presenceCheck n i o v s).state.ret.lane = s.ret.lane ∧ (presenceCheck n i o v s).state.ret.cleanEnd = s.ret.cleanEnd := by
  unfold presenceCheck forgetId
  (repeat' split) <;> exact ⟨rfl, rfl⟩

/-- The admitted rack takes position 0 under an id that nothing else in its pass has (R95, R103). -/
theorem PassSound.completeSpur {s : State} (h : PassSound s) (hd : ∀ j, j ≠ 0 → heldCount j s ≤ 1) (n : Quad) (e : RackId) (k : Kind)
    (p : Snapshot) : PassSound (completeSpur n e k p s) := by
  have once (i : RackId) (h0 : i ≠ 0) : keptCount i (Machine.completeSpur n e k p s) ≤ 1 :=
    (keptCount_le_heldCount i _).trans (completeSpur_once hd n e k p h0)
  revert once
  unfold Machine.completeSpur
  dsimp only
  generalize resolveIdentity n e s.merge.tags s.merge.overrun = q
  obtain ⟨hlane, hclean⟩ := presenceCheck_ret n q.1 q.2.1 s.merge.overrun s
  have hframe := presenceCheck_frame n q.1 q.2.1 s.merge.overrun s
  generalize presenceCheck n q.1 q.2.1 s.merge.overrun s = c at hlane hclean hframe
  have htrack : c.state.track = s.track := by simp [hframe]
  have hasked : PinsKept s (sendAdmission n c.id e k c.state).1 := by
    have hc : PinsKept s c.state := pinsKept_of_directory h.sound (by simp [hframe])
    exact hc.trans (pinsKept_sendAdmission hc.sound n c.id e k)
  intro once
  have hkept := hasked.of_directory (u := enqueueAll ((q.2.2 ++ c.notices).map .admission) (Machine.removeHead n
    ((sendAdmission n c.id e k c.state).1.setPosition 0
      (some (builtRecord n c.id k p c.source (sendAdmission n c.id e k c.state).2))))) (by simp)
  refine ⟨hkept.sound, once, fun i hi => ?_⟩
  simp only [InPass, enqueueAll_frame, removeHead_ret, removeHead_track, State.setPosition_ret, State.setPosition_track,
    sendAdmission_frame, hlane, hclean, htrack] at hi
  rcases hi with ⟨r, hr, ht⟩ | hi
  · have hr : some r ∈ (s.track.positions.set 0 (some (builtRecord n c.id k p c.source
        (sendAdmission n c.id e k c.state).2))).toList := hr
    rw [Vector.toList_set] at hr
    rcases List.mem_or_eq_of_mem_set hr with hr | hr
    · exact hkept.pinned i (h.pinned i (.inl ⟨r, hr, ht⟩))
    · obtain rfl := Option.some.inj hr
      obtain ⟨htracked, rfl⟩ := ht
      refine PinnedEntry.congr (s := (sendAdmission n c.id e k c.state).1) (sendAdmission_tracked htracked) ?_
      simp
  · exact hkept.pinned i (h.pinned i (.inr hi))

section
variable {s : State} (h : PassSound s)
include h

theorem PassSound.emptyTags : PassSound (emptyTags s) := h.congr rfl

theorem PassSound.mergeIdle : PassSound (mergeIdle s) := h.congr rfl

theorem PassSound.stopPusher : PassSound (stopPusher s) := h.congr rfl

theorem PassSound.completeTransfer (hd : DistinctWith [] s) : PassSound (completeTransfer s) := by
  unfold Machine.completeTransfer
  dsimp only
  split
  · next n e k p _ =>
    exact (h.stopPusher.completeSpur (by exact hd.once) n e k p).mergeIdle.dueEvaluation.readSpurHead n
  · exact h.stopPusher.completeRewash.mergeIdle.dueEvaluation
  · exact h.stopPusher.mergeIdle

theorem PassSound.dropTransfer : PassSound (dropTransfer s) := by
  have hd := h.stopPusher.mergeIdle
  unfold Machine.dropTransfer readGranted
  split
  · exact hd.readSpurHead _
  · exact hd

theorem PassSound.resolveTransfer (hd : DistinctWith [] s) : PassSound (resolveTransfer s) := by
  unfold Machine.resolveTransfer
  split
  · exact h.completeTransfer hd
  · exact h.dropTransfer

theorem PassSound.resolveInterrupted (hd : DistinctWith [] s) : PassSound (resolveInterrupted s) := by
  unfold Machine.resolveInterrupted
  split
  · exact h.resolveTransfer hd
  · exact h

omit h in
/-- The id of a granted head is that of no rack in its pass (R103). -/
theorem keptCount_granted {n : Quad} {e : RackId} {k : Kind} {p : Snapshot} (hd : DistinctWith [] s)
    (hg : s.merge.grant = some (.spur n e k p)) (h0 : e ≠ 0) : keptCount e s = 0 := by
  have hstands := hd.grant
  simp only [GrantStands, hg] at hstands
  obtain ⟨x, hx, rfl, -, -⟩ := hstands
  obtain ⟨rest, hrest⟩ := head_eq_some hx
  have hhead := heldCount_removeHead x.expected n s
  have hone := hd.once x.expected h0
  have hkept := keptCount_le_heldCount x.expected (removeHead n s)
  have hsame : keptCount x.expected (removeHead n s) = keptCount x.expected s := rfl
  simp only [hrest, List.take_succ_cons, List.take_zero, List.map_cons, List.map_nil, List.count_singleton_self] at hhead
  simp only [List.count_nil] at hone
  omega

/-- A transfer that is lost unpins the id of a rack that was never in its pass (R99, R119). -/
theorem PassSound.settleJam (hd : DistinctWith [] s) : PassSound (settleJam s).1 := by
  have he := h.emptyTags
  unfold Machine.settleJam
  dsimp only
  split
  · exact he.mergeIdle
  · next g hg =>
    split
    · exact he.completeTransfer (hd.congr rfl rfl rfl rfl)
    · split
      · exact he.dropTransfer
      · next n e k p =>
        split
        · exact he.dropTransfer
        · refine PassSound.readSpurHead (PassSound.mergeIdle ?_) n
          refine (he.removeHead n).sendUnpin (fun h0 => ?_) _
          have hnone : keptCount e s = 0 := keptCount_granted hd hg h0
          exact hnone

end

end Sys2Proof.Machine
end
section
namespace Sys2Proof.Machine
open Sys2Proof

/-! ### The return -/

section
variable {s : State} (h : PassSound s)
include h

/-- Another return with the same lane and clean end. -/
theorem PassSound.sameRet {r : Return} (lane : r.lane = s.ret.lane := by rfl) (clean : r.cleanEnd = s.ret.cleanEnd := by rfl) :
    PassSound { s with ret := r } := h.congr (by simp [passView, lane, clean])

/-- Another return with no rack in its pass that was not there. -/
theorem PassSound.withRet {r : Return} (hr : RacksKept s { s with ret := r }) : PassSound { s with ret := r } :=
  h.kept (pinsKept_of_directory h.sound rfl) hr

/-- The rack of a confirm leaves its pass and is unpinned (R119, R133). -/
theorem PassSound.completeConfirm : PassSound (completeConfirm s) := by
  unfold Machine.completeConfirm
  split
  · exact h
  · next e rest hc =>
    dsimp only
    generalize s.ret.transit ++ [⟨e.record, .preset (seconds s.profile.values.travelTime)⟩] = transit
    have hcount (i : RackId) : keptCount i { s with ret := { s.ret with cleanEnd := rest, transit := transit, confirm := false } } +
        [e.record.id].count i = keptCount i s := by
      simp only [keptCount, hc, List.map_cons, List.count_cons, List.count_nil]
      omega
    have hleft : PassSound { s with ret := { s.ret with cleanEnd := rest, transit := transit, confirm := false } } := by
      refine h.withRet ⟨fun i _ => ?_, fun i hi => ?_⟩
      · exact (Nat.le_add_right ..).trans (hcount i).le
      · refine hi.imp_right (.imp_right ?_)
        rintro ⟨x, hx, ht⟩
        exact ⟨x, by rw [hc]; exact List.mem_cons_of_mem _ hx, ht⟩
    refine PassSound.dueEvaluation (hleft.sendUnpin (fun h0 => ?_) _)
    have := hcount e.record.id
    have := h.once e.record.id h0
    rw [List.count_singleton_self] at *
    omega

theorem PassSound.confirmOldest : PassSound (confirmOldest s) := by
  unfold Machine.confirmOldest
  split
  · exact h.completeConfirm
  · exact h.congr rfl

theorem PassSound.pressUnload : PassSound (pressUnload s) := by
  unfold Machine.pressUnload
  split
  · exact h
  · split
    · exact h
    · exact h.confirmOldest

/-- The release changes the quarantine mark of the oldest entry or moves its rack to the lane (R134, R135). -/
theorem PassSound.releaseReturn {e : CleanEntry} {rest : List CleanEntry} (hc : s.ret.cleanEnd = e :: rest) :
    PassSound (releaseReturn e rest s).1 := by
  refine PassSound.confirmOldest (h.withRet ⟨fun i _ => ?_, fun i hi => ?_⟩)
  · simp only [keptCount, hc, List.map_cons, le_refl]
  · simpa only [InPass, hc, List.exists_mem_cons_iff] using hi

theorem PassSound.releaseRewash {e : CleanEntry} {rest : List CleanEntry} (hc : s.ret.cleanEnd = e :: rest) :
    PassSound (releaseRewash e rest s).1 := by
  unfold Machine.releaseRewash
  split
  · exact h
  · split
    · exact h
    · refine PassSound.dueEvaluation (PassSound.sendLocation (h.withRet ⟨fun i _ => ?_, fun i hi => ?_⟩) _ _)
      · simp only [keptCount, hc, List.map_append, List.map_cons, List.map_nil, List.count_append, List.count_cons,
          List.count_nil]
        omega
      · simp only [InPass, hc, List.exists_mem_cons_iff, List.mem_append, List.mem_singleton, or_and_right, exists_or,
          exists_eq_left, or_assoc] at hi ⊢
        exact hi

theorem PassSound.requestReleaseQuarantine (x : Byte) : PassSound (requestReleaseQuarantine x s).1 := by
  unfold Machine.requestReleaseQuarantine
  split
  · exact h
  · split
    · exact h
    · next hc =>
      split
      · exact h
      · split
        · exact h.releaseReturn hc
        · exact h.releaseRewash hc

theorem PassSound.startDelivery (n : Quad) (i : RackId) (k : Kind) (o : Origin) : PassSound (startDelivery n i k o s) :=
  PassSound.sendLocation (h.setStation n _) _ _

theorem PassSound.offerFeed : PassSound (offerFeed s).1 := by
  unfold Machine.offerFeed
  split
  · exact PassSound.startDelivery h.sameRet _ _ _ _
  · exact h

theorem PassSound.leaveTransit : PassSound (leaveTransit s) := h.sameRet

theorem PassSound.completePending : PassSound (completePending s) := by
  unfold Machine.completePending
  split
  · exact h.completeConfirm
  · exact h

theorem PassSound.placeRack (r : TrackRecord) (route : Route) : PassSound (placeRack r route s) := by
  cases route with
  | station n => exact PassSound.startDelivery h.sameRet n _ _ _
  | surplus => exact PassSound.sendLocation h.sameRet _ _

theorem PassSound.routeHead (r : TrackRecord) (route : Route) : PassSound (routeHead r route s) :=
  (h.leaveTransit.placeRack r route).completePending

theorem PassSound.routeHeld (r : TrackRecord) (route : Route) : PassSound (routeHeld r route s) :=
  h.leaveTransit.completePending.placeRack r route

theorem PassSound.inspectHead (r : TrackRecord) (e : DirEntry) (q : RetireTest) : PassSound (inspectHead r e q s) :=
  PassSound.completePending (PassSound.enqueue (PassSound.sendLocation h.leaveTransit.sameRet _ _) _)

theorem PassSound.routerLookup (i : RackId) : PassSound (routerLookup i s).1 := by
  unfold Machine.routerLookup
  split
  · exact h.told (pinsKept_updateEntry h.sound i (fun _ => rfl) fun _ hp => hp)
  · exact h

theorem PassSound.arrive (r : TrackRecord) : PassSound (arrive r s) := by
  have hl := h.routerLookup r.id
  unfold Machine.arrive
  dsimp only
  split
  · exact hl.inspectHead _ _ _
  · split
    · exact (hl.routeHead _ _).offerFeed
    · exact hl.routeHead _ _
    · exact PassSound.enqueue hl.sameRet _

theorem PassSound.tryArrival : PassSound (tryArrival s) := by
  unfold Machine.tryArrival
  split
  · split
    · exact h.arrive _
    · exact h
  · exact h

theorem PassSound.retryHeld : PassSound (retryHeld s) := by
  unfold Machine.retryHeld
  split
  · split
    · exact h.routeHeld _ _
    · exact h
  · exact h

theorem PassSound.prompt : PassSound (prompt s) := by
  unfold Machine.prompt
  dsimp only
  split
  · exact h
  · split
    · exact h.retryHeld.offerFeed.retryHeld
    · exact h.retryHeld.offerFeed

theorem PassSound.returnClearance : PassSound (returnClearance s) :=
  PassSound.tryArrival (PassSound.prompt h.sameRet)

theorem PassSound.arrivalSensor (before made : Bool) : PassSound (arrivalSensor before made s) := by
  unfold Machine.arrivalSensor arrivalMade
  split
  · split
    · exact h.enqueue _
    · exact h.tryArrival
  · exact h

theorem PassSound.travelEnds (i : Nat) : PassSound (travelEnds i s) := by
  unfold Machine.travelEnds
  split
  · split
    · exact PassSound.tryArrival h.sameRet
    · exact h
  · exact h

theorem PassSound.spacingEnds : PassSound (spacingEnds s) := PassSound.tryArrival h.sameRet

theorem PassSound.liftStack (n : Quad) : PassSound (liftStack n s) := (h.popStack n).prompt

end

end Sys2Proof.Machine
end

section
namespace Sys2Proof.Machine
open Sys2Proof

/-! ### Interlocks and timers -/

section
variable {s : State} (h : PassSound s)
include h

theorem PassSound.enterState (st : TrackState) : PassSound (enterState st s) := h.congr

theorem PassSound.stateAfterCompletion : PassSound (stateAfterCompletion s) :=
  h.congr (by simp [passView, stateAfterCompletion_track])

theorem PassSound.trackOpening : PassSound (trackOpening s) := h.congr (by simp [passView, trackOpening_track])

theorem PassSound.enterJam (c : FaultCause) (n : FaultNotice) : PassSound (enterJam c n s) :=
  h.congr (by simp [passView, Machine.enterJam])

theorem PassSound.mergeOpening : PassSound (mergeOpening s) := h.congr

theorem PassSound.returnOpening : PassSound (returnOpening s) := h.sameRet

theorem PassSound.reportChange : PassSound (reportChange s) := h.congr

theorem PassSound.setLive (m : Members) : PassSound (setLive m s) := h.congr rfl

theorem PassSound.transferExpiry : PassSound (transferExpiry s) := by
  unfold Machine.transferExpiry jamTransfer
  dsimp only
  split
  · split
    · refine PassSound.enterJam ?_ _ _
      exact h.congr rfl
    · exact h.congr rfl
  · exact h

theorem PassSound.changeEstop (o : Bool) : PassSound (changeEstop o s) := by
  unfold Machine.changeEstop
  dsimp only
  split
  · exact h
  · refine PassSound.reportChange ?_
    split
    · exact (h.setLive _).trackOpening.mergeOpening.returnOpening
    · exact (h.setLive _).returnClearance

theorem PassSound.changeDoor (o : Bool) : PassSound (changeDoor o s) := by
  unfold Machine.changeDoor
  dsimp only
  split
  · exact h
  · refine PassSound.reportChange ?_
    split
    · exact (h.setLive _).trackOpening.mergeOpening
    · exact h.setLive _

theorem PassSound.changeRinse (o : Bool) : PassSound (changeRinse o s) := by
  unfold Machine.changeRinse
  split
  · exact h
  · exact (h.setLive _).reportChange

theorem PassSound.changeTank (o : Bool) : PassSound (changeTank o s) := by
  unfold Machine.changeTank
  split
  · exact h
  · exact (h.setLive _).dueEvaluation.reportChange

theorem PassSound.idleExpiry : PassSound (idleExpiry s) := by
  unfold Machine.idleExpiry
  dsimp only
  split
  · refine PassSound.enterState ?_ _
    exact h.congr rfl
  · exact h.congr rfl

theorem PassSound.recoveryExpiry : PassSound (recoveryExpiry s) := by
  unfold Machine.recoveryExpiry
  dsimp only
  split
  · refine PassSound.completeRecovery ?_
    exact h.congr rfl
  · exact h.congr rfl

theorem PassSound.limitExpiry : PassSound (limitExpiry s) := by
  unfold Machine.limitExpiry failRecovery
  dsimp only
  split
  · refine PassSound.enqueue ?_ _
    exact h.congr rfl
  · exact h.congr rfl

theorem PassSound.indexMade : PassSound (indexMade s) := by
  unfold Machine.indexMade
  split
  · exact h.completeMotion.stateAfterCompletion
  · exact h

theorem PassSound.motionExpiry : PassSound (motionExpiry s) := by
  unfold Machine.motionExpiry jamMotion
  split
  · refine PassSound.enterJam ?_ _ _
    exact h.congr rfl
  · exact h

/-! ### Requests -/

theorem PassSound.requestHalt : PassSound (requestHalt s).1 := by
  unfold Machine.requestHalt
  split
  case h_1 => exact h
  case h_2 | h_3 => exact h.congr rfl
  case h_9 =>
    split
    · exact h.congr (by simp [passView, endPurge])
    · exact h.congr rfl
  all_goals
    refine PassSound.enterState ?_ _
    exact h.congr rfl

theorem PassSound.requestStandby : PassSound (requestStandby s).1 := by
  unfold Machine.requestStandby
  split
  · refine PassSound.enterState ?_ _
    exact h.congr rfl
  · exact h

theorem PassSound.requestPurge : PassSound (requestPurge s).1 := by
  unfold Machine.requestPurge
  split
  · refine PassSound.enterState ?_ _
    exact h.congr rfl
  · exact h

theorem PassSound.requestRun (hd : DistinctWith [] s) : PassSound (requestRun s).1 := by
  unfold Machine.requestRun
  split
  · exact h
  · refine PassSound.runMove (PassSound.resolveInterrupted ?_ ?_)
    · exact h.congr rfl
    · exact hd.congr rfl rfl rfl rfl

theorem PassSound.leaveFault : PassSound (leaveFault s) := h.congr (by simp [passView, Machine.leaveFault])

theorem PassSound.requestClearFault (hd : DistinctWith [] s) : PassSound (requestClearFault s).1 := by
  have hf : PassSound { s with track := { s.track with fault := none } } := h.congr rfl
  unfold Machine.requestClearFault
  dsimp only
  split
  · split
    · exact h
    · split
      · exact hf.completeMotion.leaveFault
      · exact hf.leaveFault
  · split
    · exact h
    · exact (hf.settleJam (hd.congr rfl rfl rfl rfl)).leaveFault
  · exact hf.enterState _
  · exact h

theorem PassSound.requestSetStationPrompted (n m k : Byte) : PassSound (requestSetStationPrompted n m k s).1 := by
  have hset : PassSound (requestSetStation n m k s).1 := by
    unfold requestSetStation
    split
    · dsimp only
      split
      · exact h.setStation _ _
      · exact h
    · exact h
  unfold Machine.requestSetStationPrompted
  dsimp only
  split
  · exact hset.prompt
  · exact hset

theorem PassSound.requestGetRecord (i : RackId) : PassSound (requestGetRecord i s).1 := h.told (pinsKept_getRecord h.sound i)

theorem PassSound.requestPutRecord (i : RackId) (k : Byte) (c : Half) (x : Byte) (l : Half) :
    PassSound (requestPutRecord i k c x l s).1 := h.told (pinsKept_putRecord h.sound i k c x l)

theorem PassSound.requestDropRecord (i : RackId) : PassSound (requestDropRecord i s).1 :=
  h.told (pinsKept_dropRecord h.sound i)

theorem PassSound.requestFlushDirectory : PassSound (requestFlushDirectory s).1 := by
  unfold Machine.requestFlushDirectory
  exact h.told (pinsKept_flushFrom h.sound _)

theorem PassSound.executeRequest (hd : DistinctWith [] s) (r : Request) : PassSound (executeRequest r s).1 := by
  cases r with
  | run => exact h.requestRun hd
  | halt => exact h.requestHalt
  | standby => exact h.requestStandby
  | clearFault => exact h.requestClearFault hd
  | purge => exact h.requestPurge
  | setStation n m k => exact h.requestSetStationPrompted n m k
  | loadStack n c es => exact h.requestLoadStack n c es
  | clearStack n => exact h.requestClearStack n
  | releaseQuarantine a => exact h.requestReleaseQuarantine a
  | getRecord i => exact h.requestGetRecord i
  | putRecord i k c x l => exact h.requestPutRecord i k c x l
  | dropRecord i => exact h.requestDropRecord i
  | flushDirectory => exact h.requestFlushDirectory
  | _ => exact h.congr (by simp [passView, Machine.executeRequest])

end

/-- The request that resolves a transfer needs both parts of the invariant, so the link is shown to keep them together. -/
theorem keptByRequests_tracked : KeptByRequests Tracked where
  link {s} h l := by
    obtain ⟨hd, hp⟩ := tracked_iff.mp h
    exact tracked_iff.mpr ⟨hd.congr rfl rfl rfl rfl, hp.congr rfl⟩
  request {s} h r := by
    obtain ⟨hd, hp⟩ := tracked_iff.mp h
    exact tracked_iff.mpr ⟨hd.executeRequest r, hp.executeRequest hd r⟩

end Sys2Proof.Machine
end
section
namespace Sys2Proof.Machine
open Sys2Proof

/-! ### Resets keep the directory or empty it -/

theorem freshState_passSound (k : ResetKind) (c : ResetCause) (s : State) : PassSound (freshState k c s) :=
  (tracked_iff.mp tracked_reset).2.congr rfl

section
variable {s : State} (h : PassSound s)
include h

theorem PassSound.beginStartUp : PassSound (beginStartUp s) := by
  unfold Machine.beginStartUp
  split <;> exact h.congr rfl

theorem PassSound.holdOrBegin : PassSound (holdOrBegin s) := by
  unfold Machine.holdOrBegin
  split
  · exact h.congr rfl
  · exact h.beginStartUp

theorem PassSound.warmState : PassSound (warmState s) := h.congr rfl

end

theorem coldReset_passSound (k : ResetKind) (c : ResetCause) (s : State) : PassSound (coldReset k c s) :=
  (freshState_passSound k c s).holdOrBegin

theorem loseSupply_passSound (s : State) : PassSound (loseSupply s) :=
  (freshState_passSound .powerOn .supply s).congr rfl

section
variable {s : State} (h : PassSound s)
include h

theorem PassSound.warmReset (c : ResetCause) : PassSound (warmReset c s) := by
  unfold Machine.warmReset
  dsimp only
  split
  · exact (coldReset_passSound s.resetKind s.resetCause s).congr rfl
  · refine PassSound.holdOrBegin ?_
    exact h.warmState.congr rfl

theorem PassSound.requestedReset (k : ResetKind) : PassSound (requestedReset k s) := by
  unfold Machine.requestedReset
  split
  · exact h.warmReset _
  · exact coldReset_passSound _ _ _

theorem PassSound.assertCold : PassSound (assertCold s) := by
  unfold Machine.assertCold
  dsimp only
  split
  · exact h.congr rfl
  · exact coldReset_passSound _ _ _

theorem PassSound.assertWarm : PassSound (assertWarm s) := by
  have hl : PassSound { s with warmLine := true } := h.congr rfl
  unfold Machine.assertWarm
  dsimp only
  split
  · exact hl
  · exact hl.warmReset _

theorem PassSound.releaseLine (l : RestartLine) : PassSound (releaseLine l s) := by
  have released {u : State} (hu : PassSound u) :
      PassSound (if s.phase = .held && !lineAsserted u then Machine.beginStartUp u else u) := by
    split
    · exact hu.beginStartUp
    · exact hu
  cases l <;> (refine released ?_; exact h.congr rfl)

theorem PassSound.loadProfile (img : List Byte) : PassSound (loadProfile img s) := by
  unfold Machine.loadProfile
  dsimp only
  split <;> exact h.congr rfl

theorem PassSound.completeProfileRead (img : List Byte) : PassSound (completeProfileRead img s) := by
  unfold Machine.completeProfileRead
  split
  · have hl := h.loadProfile img
    generalize Machine.loadProfile img s = u at hl ⊢
    exact hl.congr rfl
  · exact h

/-! ### The end of a start-up -/

theorem PassSound.latchAtStart : PassSound (latchAtStart s) := h.congr (by simp [passView, Machine.latchAtStart])

theorem PassSound.motionResolved : PassSound (motionResolved s) := by
  have hext : PassSound (restartExtension (fixPeriod s)) := by
    unfold restartExtension
    split <;> exact h.congr rfl
  unfold Machine.motionResolved resolveMotion
  split
  · exact hext
  · split
    · exact hext.completeMotion
    · exact hext.congr rfl

theorem PassSound.resolveCarried (hd : DistinctWith [] s) : PassSound (resolveCarried s).1 := by
  unfold Machine.resolveCarried
  split
  · exact h
  · exact h.resolveTransfer hd
  · exact h.resolveTransfer hd
  · exact h.settleJam hd

theorem PassSound.restartTrack (hd : DistinctWith [] s) : PassSound (restartTrack s) := by
  have hr : PassSound (Machine.resolveCarried (Machine.motionResolved s)).1 :=
    h.motionResolved.resolveCarried hd.motionResolved
  unfold Machine.restartTrack
  dsimp only
  split
  · exact hr.enqueue _
  · exact hr

theorem PassSound.timersRestarted : PassSound (timersRestarted s) :=
  foldl_stations_keeps (fun n _ h => h.setStation n _) _ h.sameRet

theorem PassSound.restartReturn : PassSound (restartReturn s) := by
  rw [restartReturn_eq]
  split
  · exact h.timersRestarted.prompt.enqueue _
  · exact h.timersRestarted.prompt

theorem PassSound.trackRestarted (hd : DistinctWith [] s) : PassSound (trackRestarted s) := by
  have hn : PassSound (Machine.latchAtStart (Machine.enqueue (.startUp s.resetKind s.resetCause s.profile.status)
      { s with phase := .running, settle := .idle })) := by
    refine (PassSound.enqueue ?_ _).latchAtStart
    exact h.congr rfl
  have hdn : DistinctWith [] (Machine.latchAtStart (Machine.enqueue (.startUp s.resetKind s.resetCause s.profile.status)
      { s with phase := .running, settle := .idle })) := by
    refine (DistinctWith.enqueue ?_ _).latchAtStart
    exact hd.congr rfl rfl rfl rfl
  unfold Machine.trackRestarted
  dsimp only
  split
  · exact hn.restartTrack hdn
  · exact hn

theorem PassSound.headsRead (hd : DistinctWith [] s) : PassSound (headsRead s) := by
  have hr : PassSound (quads.foldl (fun s n => Machine.readSpurHead n s) (Machine.trackRestarted s)) :=
    foldl_stations_keeps (fun n _ h => h.readSpurHead n) _ (h.trackRestarted hd)
  exact hr.sameRet

theorem PassSound.endStartUp (hd : DistinctWith [] s) : PassSound (endStartUp s) := by
  have hh := h.headsRead hd
  have hr : PassSound (returnRestarted s) := by
    unfold returnRestarted strayAtStart
    split
    · exact hh.restartReturn
    · split
      · exact hh.enqueue _
      · exact hh
  rw [endStartUp_eq]
  exact hr.congr rfl

/-! ### Commands -/

theorem PassSound.sense (p : Plant) : PassSound (s.sense p) := h.congr rfl

theorem PassSound.withInputs (i : Inputs) : PassSound { s with inputs := i } := h.congr rfl

theorem PassSound.ifNoTransfer (n : Quad) {f : State → State} (hf : PassSound (f s)) : PassSound (ifNoTransfer n f s) := by
  unfold Machine.ifNoTransfer
  split
  · exact h
  · exact hf

theorem PassSound.tagByte (b : Byte) : PassSound (tagByte b s) := h.congr

end

end Sys2Proof.Machine
end

section
namespace Sys2Proof.Machine
open Sys2Proof

/-! ### Every command keeps the pinned entries -/

/-- What every command does at its end looks at no directory entry: a due step is evaluated, a grant may be made and a message
chosen (R8, R92, R185). -/
theorem PassSound.conclude {s : State} (h : PassSound s) (b : State) : PassSound (conclude b s) := by
  have hd := h.dueEvaluation.grantOpportunity
  have hc {u : State} (hu : PassSound u) : PassSound (chooseMessage u) := hu.congr
  unfold Machine.conclude
  refine hc ?_
  split
  · exact hd.congr
  · exact h

section
variable {s : State} (h : PassSound s)
include h

theorem PassSound.guarded (c : Prop) [Decidable c] {f : State → State} (hf : PassSound (f s)) :
    PassSound (if c then f s else s) := by
  split
  · exact hf
  · exact h

theorem PassSound.ifNot (c : Prop) [Decidable c] {f : State → State} (hf : PassSound (f s)) :
    PassSound (if c then s else f s) := by
  split
  · exact h
  · exact hf

theorem PassSound.event {b : State} {f : State → State} (hf : PassSound (f s)) :
    PassSound (Machine.conclude b (whenRunning f s)) := PassSound.conclude (h.guarded _ hf) b

theorem PassSound.linked {b : State} {f : State → State} (hf : PassSound (f s)) :
    PassSound (Machine.conclude b (whenLinked f s)) := PassSound.conclude (h.guarded _ hf) b

theorem PassSound.endTransmission (hd : DistinctWith [] s) : PassSound (endTransmission s) := by
  rcases keptByRequests_tracked.endTransmission (tracked_iff.mpr ⟨hd, h⟩) with ht | ⟨k, l, he⟩
  · exact (tracked_iff.mp ht).2
  · rw [he]
    refine PassSound.requestedReset ?_ k
    exact h.congr rfl

end

/-- Every command keeps a pinned entry for every TRACKED record. -/
theorem exec_passSound {c : Instr} {s t : State} (hd : DistinctWith [] s) (h : PassSound s) (he : exec c s = .next t) :
    PassSound t := by
  have ofTracked {u : State} (hu : Tracked u) : PassSound u := (tracked_iff.mp hu).2
  have hdSense (p : Plant) : DistinctWith [] (s.sense p) := hd.congr rfl rfl rfl rfl
  have ht (p : Plant) : Tracked (s.sense p) := tracked_iff.mpr ⟨hdSense p, h.sense p⟩
  have l := keptByRequests_tracked
  cases hq : requestOf c with
  | some r =>
    rw [exec_request hq] at he
    obtain rfl := Host.Outcome.next.inj he
    have hw : PassSound (withReadings c s) := by cases c <;> exact h.congr rfl
    have hdw : DistinctWith [] (withReadings c s) := by cases c <;> exact hd.congr rfl rfl rfl rfl
    exact hw.linked (ofTracked (l.submit r (tracked_iff.mpr ⟨hdw, hw⟩)))
  | none =>
    cases c <;> try (cases hq; done)
    all_goals clear hq; obtain rfl := Host.Outcome.next.inj he; clear he
    case supervisoryByteReceived b high p => exact (h.sense p).linked (ofTracked (l.receiveByte b high (ht p)))
    case receiveGapExpiry =>
      exact h.linked (h.guarded _ (ofTracked (l.receiveGap (tracked_iff.mpr ⟨hd, h⟩))))
    case transmitComplete p => exact (h.sense p).linked ((h.sense p).endTransmission (hdSense p))
    case powerOnReset => exact coldReset_passSound _ _ _
    case supplyBelowOperatingLevel => exact loseSupply_passSound s
    case coldRestartLine => exact h.assertCold
    case warmRestartLine => exact h.assertWarm
    case restartLineReleased x => exact h.releaseLine x
    case profileReadComplete image => exact h.completeProfileRead image
    case endOfStartUp p =>
      split
      · exact ((h.sense p).endStartUp (hdSense p)).conclude s
      · exact h.sense p
    case tagByteReceived b => exact h.event (h.tagByte b)
    case tagGapExpiry => exact h.event (h.guarded _ (f := tagAbandon) (h.congr rfl))
    case stepTimerExpiry => exact h.event (h.guarded _ (f := stepFallsDue) (h.congr rfl))
    case stepCompletion p => exact (h.sense _).event (h.sense _).indexMade
    case motionTimeout => exact h.event (h.guarded _ h.motionExpiry)
    case extensionExpiry => exact h.event (h.guarded _ (f := extensionEnds) (h.congr rfl))
    case idleTimerExpiry => exact h.event (h.guarded _ h.idleExpiry)
    case recoveryTimerExpiry => exact h.event (h.guarded _ h.recoveryExpiry)
    case recoveryLimitExpiry => exact h.event (h.guarded _ h.limitExpiry)
    case estopChainChange o => exact (h.withInputs _).event ((h.withInputs _).changeEstop o)
    case doorChainChange o => exact (h.withInputs _).event ((h.withInputs _).changeDoor o)
    case rinseFlowChange o => exact (h.withInputs _).event ((h.withInputs _).changeRinse _)
    case tankLevelChange o => exact (h.withInputs _).event ((h.withInputs _).changeTank o)
    case sampleCycleExpiry => exact h.event (h.guarded _ (f := startSample) (h.congr rfl))
    case conversionAComplete a => exact h.event (h.conversionA a)
    case conversionBComplete a => exact h.event (h.conversionB a)
    case stackLift n => exact h.event (h.guarded _ (h.liftStack n))
    case sendButton n p => exact (h.sense p).event ((h.sense p).guarded _ ((h.sense p).pressSend n))
    case spurFullTimerExpiry n => exact h.event (h.guarded _ (f := spurFullOut n) (h.congr rfl))
    case spurHeadMade n p =>
      exact (h.sense _).event ((h.sense _).guarded _ ((h.sense _).ifNoTransfer n ((h.sense _).profileHead n)))
    case spurHeadClear n =>
      exact (h.sense _).event ((h.sense _).guarded _ ((h.sense _).ifNoTransfer n ((h.sense _).withdrawHead n)))
    case deliveryCompletion n i => exact h.event (h.deliveryExpiry n i)
    case transferCompletion p =>
      have hs : PassSound (s.sense { p with position0 := true }) := h.sense _
      exact hs.event (hs.guarded _ (hs.completeTransfer (hdSense _)))
    case transferTimeout => exact h.event (h.guarded _ h.transferExpiry)
    case unloadButton => exact h.event h.pressUnload
    case travelTimerExpiry i => exact h.event (h.ifNot _ (h.travelEnds i))
    case spacingTimerExpiry => exact h.event (h.ifNot _ (h.guarded _ h.spacingEnds))
    case routerArrivalSensor o => exact (h.withInputs _).event ((h.withInputs _).arrivalSensor _ o)

/-- 10 ms leave every rack and every entry where it is. -/
theorem PassSound.tick {s : State} (h : PassSound s) : PassSound (tick s) := by
  unfold Machine.tick
  split
  case h_1 =>
    obtain ⟨hlane, hclean, -⟩ := Return.tick_queues (returnPaused s) s.ret
    exact h.congr (congrArg₂ (fun l c => (s.directory, s.track.positions, l, c)) hlane hclean)
  all_goals exact h.congr rfl

theorem step_passSound {s t : State} (hd : DistinctWith [] s) (h : PassSound s) (hs : step s = .next t) : PassSound t := by
  rcases step_cases hs with ⟨c, q, n, he⟩ | rfl
  · have hw : PassSound { s with pending := q, choices := n } := h.congr rfl
    exact exec_passSound (s := { s with pending := q, choices := n }) (hd.congr rfl rfl rfl rfl) hw he
  · exact h.tick

/-- Settles O59, command by command: an entry is pinned before its rack takes its place at position 0, a message in between
keeps the pin, an allocation takes no pinned way, and an entry is unpinned only once no record of its id is left. -/
theorem trackedRecordsStayPinned : Obligations.TrackedRecordsStayPinned := by
  intro s t ht hs
  obtain ⟨hd, hp⟩ := tracked_iff.mp ht
  exact tracked_iff.mpr ⟨step_distinct hd hs, step_passSound hd hp hs⟩

end Sys2Proof.Machine
end

section
namespace Sys2Proof.Machine
open Sys2Proof

/-! ## FLUSH_DIRECTORY -/

/-! ### What a flush takes and what it leaves (R128) -/

/-- The block of a place that holds a dirty entry. -/
def dirtyBlock (s : State) (p : Fin 64 × Quad) : Option EntryBlock :=
  match entryAt s p.1 p.2 with
  | some e => if e.dirty then some ⟨e, p.1.val, p.2⟩ else none
  | none => none

/-- The dirty entries among the places, as many as the notice queue has free places. -/
def spilled (q : List (Fin 64 × Quad)) (s : State) : List EntryBlock :=
  (q.filterMap (dirtyBlock s)).take (16 - s.link.notices.length)

/-- The entry of a place once the blocks taken have been carried out. -/
def carriedOut (taken : List EntryBlock) (i : Fin 64) (w : Quad) (e : DirEntry) : DirEntry :=
  if EntryBlock.mk e i.val w ∈ taken then flushedEntry e else e

/-- The directory with the blocks taken clean and everything else as it was. -/
structure Flushed (taken : List EntryBlock) (s : State) (d : Vector DirSet 64) : Prop where
  bits : ∀ i : Fin 64, (d[i]).b0 = (s.directory[i]).b0 ∧ (d[i]).b1 = (s.directory[i]).b1 ∧
    (d[i]).b2 = (s.directory[i]).b2
  ways : ∀ (i : Fin 64) (w : Quad), (d[i]).ways.get w = (entryAt s i w).map (carriedOut taken i w)

/-! ### A request that changes the directory alone -/

theorem setDirSet_self (s : State) (i : Fin 64) (d : DirSet) : (s.setDirSet i d).directory[i] = d :=
  Vector.getElem_set_self _

/-- A request that leaves the track, the return, the merge, the interlocks, the stations and the profile as they are leaves
nothing to follow. -/
theorem exec_directory {s t : State} {q : Instr} {r : Request} {res : Result} {body : ReplyBody} (hl : Listening s)
    (hs : Settled s) (hq : requestOf q = some r)
    (he : executeRequest r (withReadings q s) = (t, res, body)) (track : t.track = s.track := by simp)
    (ret : t.ret = s.ret := by simp) (merge : t.merge = s.merge := by simp)
    (interlock : t.interlock = s.interlock := by simp) (stations : t.stations = s.stations := by simp)
    (profile : t.profile = s.profile := by simp) : exec q s = .next (onlyAnswered r.kindByte res body t) := by
  rw [exec_answered hq hl he]
  exact congrArg Host.Outcome.next
    (conclude_answered_of_spurs hs (fun _ => by rw [stations]) track ret merge interlock profile _ _ _)

/-! ### The places of the directory -/

theorem directoryPlaces_eq : directoryPlaces = (List.finRange 64).flatMap fun i => [(i, 0), (i, 1), (i, 2), (i, 3)] := by
  rw [directoryPlaces, ← List.map_coe_finRange_eq_range, List.flatMap_map]
  refine List.flatMap_congr fun i _ => ?_
  rw [show Fin.ofNat 64 i.val = i from Fin.ext (Nat.mod_eq_of_lt i.isLt)]
  rfl

theorem nodup_directoryPlaces : directoryPlaces.Nodup := by
  rw [directoryPlaces_eq, List.nodup_flatMap]
  refine ⟨fun i _ => by simp, (List.nodup_finRange 64).imp fun hne => ?_⟩
  simp [Function.onFun, List.disjoint_left, hne]

/-! ### The entries that are dirty -/

theorem flushed_nil (s : State) : Flushed [] s s.directory where
  bits _ := ⟨rfl, rfl, rfl⟩
  ways i w := by
    rw [show carriedOut [] i w = id from funext fun e => if_neg (by simp), Option.map_id]
    rfl

theorem flushedEntry_eq (e : DirEntry) : flushedEntry e = { e with
    dirty := false, washes := if e.partialHistory then 0 else e.washes,
    short := if e.partialHistory then 0 else e.short } := by
  unfold flushedEntry
  split <;> rfl

theorem flushedEntry_dirty (e : DirEntry) : (flushedEntry e).dirty = false := by rw [flushedEntry_eq]

theorem dirtyBlock_none {s : State} {i : Fin 64} {w : Quad} (h : entryAt s i w = none) : dirtyBlock s (i, w) = none := by
  simp only [dirtyBlock, h]

theorem dirtyBlock_some {s : State} {i : Fin 64} {w : Quad} {e : DirEntry} (h : entryAt s i w = some e) :
    dirtyBlock s (i, w) = if e.dirty then some ⟨e, i.val, w⟩ else none := by
  simp only [dirtyBlock, h]

theorem dirtyBlock_eq_none {s : State} {i : Fin 64} {w : Quad} (h : dirtyBlock s (i, w) = none) (e : DirEntry)
    (he : entryAt s i w = some e) : e.dirty = false := by
  rw [dirtyBlock_some he] at h
  simpa using h

theorem dirtyBlock_eq_some {s : State} {i : Fin 64} {w : Quad} {b : EntryBlock} (h : dirtyBlock s (i, w) = some b) :
    ∃ e, entryAt s i w = some e ∧ e.dirty = true := by
  cases he : entryAt s i w with
  | none => cases (dirtyBlock_none he).symm.trans h
  | some e => exact ⟨e, rfl, by_contra fun hd => by simp [dirtyBlock_some he, hd] at h⟩

/-- A block taken is the dirty entry of one of the places. -/
theorem mem_of_dirty {s : State} {q : List (Fin 64 × Quad)} {e : DirEntry} {i : Fin 64} {w : Quad}
    (h : EntryBlock.mk e i.val w ∈ q.filterMap (dirtyBlock s)) : (i, w) ∈ q := by
  obtain ⟨⟨j, v⟩, hmem, hb⟩ := List.mem_filterMap.mp h
  cases hj : entryAt s j v with
  | none => cases (dirtyBlock_none hj).symm.trans hb
  | some f =>
    rw [dirtyBlock_some hj] at hb
    split at hb
    · injection hb with hb
      injection hb with _ hi hw
      rwa [← Fin.ext hi, ← hw]
    · cases hb

theorem not_mem_spilled {s : State} {q : List (Fin 64 × Quad)} {i : Fin 64} {w : Quad} (h : (i, w) ∉ q) (e : DirEntry) :
    EntryBlock.mk e i.val w ∉ spilled q s := fun hm => h (mem_of_dirty (List.mem_of_mem_take hm))

/-- A directory written in between changes nothing of what is queued. -/
theorem enqueue_directory (n : Notice) (s : State) (d : Vector DirSet 64) :
    enqueue n { s with directory := d } = { enqueue n s with directory := d } := by
  unfold enqueue
  dsimp only
  (repeat' split) <;> rfl

theorem enqueueAll_cons (n : Notice) (ns : List Notice) (s : State) : enqueueAll (n :: ns) s = enqueueAll ns (enqueue n s) :=
  List.foldl_cons ..

/-! ### One place after another -/

/-- The dirty entry of a place is carried out: its SPILL notice is queued and it becomes clean. -/
def carry (i : Fin 64) (w : Quad) (e : DirEntry) (s : State) : State :=
  (enqueue (.spill ⟨e, i.val, w⟩ .flushed) s).setDirSet i
    { s.directory[i] with ways := (s.directory[i]).ways.set w (some (flushedEntry e)) }

theorem flushFrom_clean {i : Fin 64} {w : Quad} {q : List (Fin 64 × Quad)} {s : State} (h : dirtyBlock s (i, w) = none) :
    flushFrom ((i, w) :: q) s = flushFrom q s := by
  rw [flushFrom]
  split
  · rfl
  · next e he =>
    rw [dirtyBlock_eq_none h e he]
    rfl

theorem flushFrom_dirty {i : Fin 64} {w : Quad} {e : DirEntry} {q : List (Fin 64 × Quad)} {s : State}
    (he : entryAt s i w = some e) (hd : e.dirty = true) : flushFrom ((i, w) :: q) s =
      if s.link.notices.length < 16 then ((flushFrom q (carry i w e s)).1, (flushFrom q (carry i w e s)).2 + 1)
      else (s, 0) := by
  rw [flushFrom, show (s.directory[i]).ways.get w = some e from he]
  simp only [hd, noticePlaceFree, Bool.not_true, Bool.false_eq_true, if_false, decide_eq_true_eq]
  rfl

section
variable {s : State} {i : Fin 64} {w : Quad} {e : DirEntry}

theorem carry_wayWritten : WayWritten i w (some (flushedEntry e)) s (carry i w e s) :=
  wayWritten_of_set (d := { s.directory[i] with ways := (s.directory[i]).ways.set w (some (flushedEntry e)) })
    (by simp [carry]) rfl

theorem carry_bits (j : Fin 64) : ((carry i w e s).directory[j]).b0 = (s.directory[j]).b0 ∧
    ((carry i w e s).directory[j]).b1 = (s.directory[j]).b1 ∧ ((carry i w e s).directory[j]).b2 = (s.directory[j]).b2 := by
  by_cases hj : j = i
  · subst hj
    rw [carry, setDirSet_self]
    exact ⟨rfl, rfl, rfl⟩
  · have hother : (carry i w e s).directory[j] = s.directory[j] := by
      simp only [carry, State.setDirSet_directory, enqueue_frame]
      exact Vector.getElem_set_ne _ _ fun h => hj (Fin.ext h.symm)
    rw [hother]
    exact ⟨rfl, rfl, rfl⟩

/-- A SPILL notice is never masked (R188). -/
theorem carry_notices (h : s.link.notices.length < 16) : (carry i w e s).link.notices.length = s.link.notices.length + 1 := by
  rw [carry, State.setDirSet_link, enqueue_of_room rfl h]
  exact length_placeNotice _ _

theorem carry_dirty {q : List (Fin 64 × Quad)} (hq : (i, w) ∉ q) :
    q.filterMap (dirtyBlock (carry i w e s)) = q.filterMap (dirtyBlock s) := by
  refine List.filterMap_congr fun p hp => ?_
  have hne : ¬ (p.1 = i ∧ p.2 = w) := fun h => hq (by rwa [← h.1, ← h.2])
  rw [dirtyBlock, carry_wayWritten, if_neg hne]
  rfl

theorem spilled_carried {q : List (Fin 64 × Quad)} (he : entryAt s i w = some e) (hd : e.dirty = true) (hq : (i, w) ∉ q)
    (hroom : s.link.notices.length < 16) :
    spilled ((i, w) :: q) s = ⟨e, i.val, w⟩ :: spilled q (carry i w e s) := by
  have hk : 16 - s.link.notices.length = (16 - (carry i w e s).link.notices.length) + 1 := by
    rw [carry_notices hroom]
    omega
  have hb : dirtyBlock s (i, w) = some ⟨e, i.val, w⟩ := (dirtyBlock_some he).trans (if_pos hd)
  rw [spilled, List.filterMap_cons, hb, hk, spilled, carry_dirty hq]
  rfl

/-- What is clean after the rest of a flush is clean after the whole. -/
theorem Flushed.carried {q : List (Fin 64 × Quad)} {d : Vector DirSet 64} (he : entryAt s i w = some e) (hq : (i, w) ∉ q)
    (h : Flushed (spilled q (carry i w e s)) (carry i w e s) d) :
    Flushed (⟨e, i.val, w⟩ :: spilled q (carry i w e s)) s d where
  bits j := by
    obtain ⟨h0, h1, h2⟩ := h.bits j
    obtain ⟨c0, c1, c2⟩ := carry_bits (i := i) (w := w) (e := e) (s := s) j
    exact ⟨h0.trans c0, h1.trans c1, h2.trans c2⟩
  ways j v := by
    rw [h.ways, carry_wayWritten]
    split
    · next hj =>
      obtain ⟨rfl, rfl⟩ := hj
      rw [he, Option.map_some, Option.map_some, carriedOut, if_neg (not_mem_spilled hq _), carriedOut,
        if_pos List.mem_cons_self]
    · next hj =>
      refine congrArg (fun f => (entryAt s j v).map f) (funext fun f => ?_)
      have hne : EntryBlock.mk f j.val v ≠ ⟨e, i.val, w⟩ := fun hb => by
        injection hb with _ hi hw
        exact hj ⟨Fin.ext hi, hw⟩
      simp only [carriedOut, List.mem_cons, hne, false_or]

end

/-- The dirty places in a directory. -/
def dirtyPlaces (q : List (Fin 64 × Quad)) (d : Vector DirSet 64) : Nat :=
  q.countP fun p => match (d[p.1]).ways.get p.2 with
    | some e => e.dirty
    | none => false

theorem dirtyCount_eq (s : State) : dirtyCount s = dirtyPlaces directoryPlaces s.directory := rfl

theorem dirtyPlaces_clean {q : List (Fin 64 × Quad)} {d : Vector DirSet 64} {i : Fin 64} {w : Quad}
    (h : ∀ e, (d[i]).ways.get w = some e → e.dirty = false) : dirtyPlaces ((i, w) :: q) d = dirtyPlaces q d := by
  refine List.countP_cons_of_neg ?_
  cases he : (d[i]).ways.get w with
  | none => simp
  | some e => simpa using h e he

theorem dirtyPlaces_eq (q : List (Fin 64 × Quad)) (s : State) :
    dirtyPlaces q s.directory = (q.filterMap (dirtyBlock s)).length := by
  rw [List.length_filterMap_eq_countP]
  refine List.countP_congr fun p _ => ?_
  simp only [dirtyBlock, entryAt]
  cases (s.directory[p.1]).ways.get p.2 with
  | none => simp
  | some e => cases e.dirty <;> simp

theorem carriedOut_clean {e : DirEntry} (h : e.dirty = false) (taken : List EntryBlock) (i : Fin 64) (w : Quad) :
    (carriedOut taken i w e).dirty = false := by
  unfold carriedOut
  split
  · exact flushedEntry_dirty e
  · exact h

theorem Flushed.clean {taken : List EntryBlock} {s : State} {d : Vector DirSet 64} {i : Fin 64} {w : Quad}
    (h : Flushed taken s d) (hs : ∀ e, entryAt s i w = some e → e.dirty = false) (e : DirEntry)
    (he : (d[i]).ways.get w = some e) : e.dirty = false := by
  rw [h.ways] at he
  obtain ⟨f, hf, rfl⟩ := Option.map_eq_some_iff.mp he
  exact carriedOut_clean (hs f hf) taken i w

/-- A flush from some place on: what is taken, in its order, and how much is left. -/
theorem flushFrom_eq {q : List (Fin 64 × Quad)} (hq : q.Nodup) {s : State} (hl : s.link.notices.length ≤ 16) :
    ∃ d, Flushed (spilled q s) s d ∧
      dirtyPlaces q d = (q.filterMap (dirtyBlock s)).length - (spilled q s).length ∧
      flushFrom q s = (enqueueAll ((spilled q s).map fun b => .spill b .flushed) { s with directory := d },
        (spilled q s).length) := by
  induction q generalizing s with
  | nil =>
    have hnone : spilled [] s = [] := List.take_nil
    rw [hnone]
    exact ⟨s.directory, flushed_nil s, rfl, rfl⟩
  | cons p q ih =>
    obtain ⟨i, w⟩ := p
    obtain ⟨hn, hq⟩ := List.nodup_cons.mp hq
    cases hb : dirtyBlock s (i, w) with
    | none =>
      obtain ⟨d, hd, hcount, hflush⟩ := ih hq hl
      have hsame : ((i, w) :: q).filterMap (dirtyBlock s) = q.filterMap (dirtyBlock s) := List.filterMap_cons_none hb
      have hspilled : spilled ((i, w) :: q) s = spilled q s := by rw [spilled, hsame, spilled]
      rw [hspilled, hsame, flushFrom_clean hb]
      exact ⟨d, hd, (dirtyPlaces_clean (hd.clean (dirtyBlock_eq_none hb))).trans hcount, hflush⟩
    | some b =>
      obtain ⟨e, he, hdirty⟩ := dirtyBlock_eq_some hb
      rw [flushFrom_dirty he hdirty]
      by_cases hroom : s.link.notices.length < 16
      · obtain ⟨d, hd, hcount, hflush⟩ := ih hq (s := carry i w e s) (by rw [carry_notices hroom]; omega)
        rw [if_pos hroom, hflush, spilled_carried he hdirty hn hroom]
        refine ⟨d, hd.carried he hn, ?_, ?_⟩
        · rw [dirtyPlaces_clean (hd.clean fun f hf => ?_), hcount, carry_dirty hn, List.filterMap_cons_some hb]
          · simp only [List.length_cons, Nat.add_sub_add_right]
          · rw [carry_wayWritten, if_pos ⟨rfl, rfl⟩] at hf
            obtain rfl := Option.some.inj hf
            exact flushedEntry_dirty e
        · rw [List.map_cons, enqueueAll_cons, enqueue_directory]
          rfl
      · have hnone : spilled ((i, w) :: q) s = [] := by
          rw [spilled, Nat.sub_eq_zero_of_le (Nat.not_lt.mp hroom), List.take_zero]
        rw [if_neg hroom, hnone]
        exact ⟨s.directory, flushed_nil s, dirtyPlaces_eq _ s, rfl⟩

/-- Settles O41, by induction on the places that are visited. -/
theorem flushesCarryDirtyEntriesOut : Obligations.FlushesCarryDirtyEntriesOut := by
  intro s hl hs hroom places dirty taken
  obtain ⟨d, hd, hcount, hflush⟩ := flushFrom_eq nodup_directoryPlaces hroom
  have htaken : spilled directoryPlaces s = taken := by
    rw [spilled, directoryPlaces_eq]
    rfl
  have hdirty : directoryPlaces.filterMap (dirtyBlock s) = dirty := by
    rw [directoryPlaces_eq]
    rfl
  rw [htaken] at hd hcount hflush
  rw [hdirty] at hcount
  refine ⟨d, hd.bits, fun i w => ?_, ?_⟩
  · rw [hd.ways, entryAt]
    cases (s.directory[i]).ways.get w with
    | none => rfl
    | some e =>
      rw [Option.map_some, carriedOut, apply_ite some, flushedEntry_eq]
  · have he : requestFlushDirectory s = (enqueueAll (taken.map fun b => .spill b .flushed) { s with directory := d }, .ok,
        .flushed taken.length (dirty.length - taken.length)) := by
      simp only [requestFlushDirectory, hflush, ← hcount, dirtyCount_eq, enqueueAll_frame]
    exact exec_directory hl hs (q := .flushDirectory) (r := .flushDirectory) rfl he

end Sys2Proof.Machine
end

section
namespace Sys2Proof.Machine
open Sys2Proof

/-! ## The directory: the walk, allocation and messages -/

/-! ### The tree walk (R115) -/

/-- A pair of ways holds one that is not pinned; the second pair for `true`. -/
def DirSet.pairFree (d : DirSet) (second : Bool) : Bool :=
  if second then d.unpinned 2 || d.unpinned 3 else d.unpinned 0 || d.unpinned 1

/-- The way of a pair that the pair's bit points at. -/
def DirSet.pointed (d : DirSet) (second : Bool) : Quad :=
  if second then (if d.b2 then 3 else 2) else (if d.b1 then 1 else 0)

/-- The way of a pair that the pair's bit points away from. -/
def DirSet.unpointed (d : DirSet) (second : Bool) : Quad :=
  if second then (if d.b2 then 2 else 3) else (if d.b1 then 0 else 1)

/-- The way the walk takes within a pair. -/
def DirSet.wayOf (d : DirSet) (second : Bool) : Quad :=
  if d.unpinned (d.pointed second) then d.pointed second else d.unpointed second

/-- The walk takes the pair that b0 points at, or else the other, or else nothing. -/
theorem DirSet.walk_eq (d : DirSet) : d.walk =
    if d.pairFree d.b0 then some (d.wayOf d.b0) else if d.pairFree (!d.b0) then some (d.wayOf (!d.b0)) else none := by
  have first : (if d.b1 then (if d.unpinned 1 then some 1 else some 0) else if d.unpinned 0 then some 0 else some 1) =
      some (d.wayOf false) := by
    cases h : d.b1 <;> simp only [DirSet.wayOf, DirSet.pointed, DirSet.unpointed, h] <;> exact (apply_ite ..).symm
  have second : (if d.b2 then (if d.unpinned 3 then some 3 else some 2) else if d.unpinned 2 then some 2 else some 3) =
      some (d.wayOf true) := by
    cases h : d.b2 <;> simp only [DirSet.wayOf, DirSet.pointed, DirSet.unpointed, h] <;> exact (apply_ite ..).symm
  unfold DirSet.walk
  dsimp only
  rw [first, second]
  have pair0 : (d.unpinned 0 || d.unpinned 1) = d.pairFree false := rfl
  have pair1 : (d.unpinned 2 || d.unpinned 3) = d.pairFree true := rfl
  rw [pair0, pair1]
  cases d.b0
  · rw [Bool.not_false]
    cases d.pairFree false <;> cases d.pairFree true <;> rfl
  · rw [Bool.not_true]
    cases d.pairFree false <;> cases d.pairFree true <;> rfl

theorem DirSet.unpinned_eq (d : DirSet) (w : Quad) : d.unpinned w = !(((d.ways.get w).map (·.pinned)).getD false) := by
  unfold DirSet.unpinned
  cases d.ways.get w <;> rfl

theorem DirSet.unpinned_of_pinned {d : DirSet} {w : Quad} {e : DirEntry} (h : d.ways.get w = some e) (hp : e.pinned = true) :
    d.unpinned w = false := by
  simp [DirSet.unpinned, h, hp]

/-- The walk rests on the bits and the pinned fields alone. -/
theorem DirSet.walk_congr {d d' : DirSet} (b0 : d.b0 = d'.b0) (b1 : d.b1 = d'.b1) (b2 : d.b2 = d'.b2)
    (pinned : ∀ w, (d.ways.get w).map (·.pinned) = (d'.ways.get w).map (·.pinned)) : d.walk = d'.walk := by
  have hu : d.unpinned = d'.unpinned := funext fun w => by rw [DirSet.unpinned_eq, DirSet.unpinned_eq, pinned]
  simp only [DirSet.walk, hu, b0, b1, b2]

theorem DirSet.walk_none {d : DirSet} (h : ∀ w, d.unpinned w = false) : d.walk = none := by
  simp [DirSet.walk_eq, DirSet.pairFree, h]

/-- The walk takes its way within the pair it has come to. -/
theorem DirSet.walk_pair {d : DirSet} {p : Bool}
    (h : p = d.b0 ∧ d.pairFree p = true ∨ p = !d.b0 ∧ ¬ d.pairFree d.b0 = true ∧ d.pairFree p = true) :
    d.walk = some (d.wayOf p) := by
  rw [DirSet.walk_eq]
  rcases h with ⟨rfl, hp⟩ | ⟨rfl, hn, hp⟩
  · rw [if_pos hp]
  · rw [if_neg hn, if_pos hp]

/-! ### Allocation (R114 to R117) -/

theorem DirSet.invalidWay_lowest {d : DirSet} {w : Quad} (h : d.ways.get w = none)
    (hl : ∀ v, v < w → d.ways.get v ≠ none) : d.invalidWay = some w := by
  unfold DirSet.invalidWay quads
  match w with
  | 0 => simp [h]
  | 1 => simp [h, hl 0 (by decide)]
  | 2 => simp [h, hl 0 (by decide), hl 1 (by decide)]
  | 3 => simp [h, hl 0 (by decide), hl 1 (by decide), hl 2 (by decide)]

theorem DirSet.invalidWay_none {d : DirSet} (h : ∀ w, d.ways.get w ≠ none) : d.invalidWay = none :=
  List.find?_eq_none.mpr fun w _ => by simpa using h w

section
variable {id : RackId} {e : DirEntry} {s : State} {w : Quad}

theorem allocate_invalid (h : (s.directory[setOf id]).invalidWay = some w) :
    allocate id e s = .taken w (s.setDirSet (setOf id) ((s.directory[setOf id]).put w e)) none := by
  simp only [allocate, h]

theorem allocate_setFull (hv : (s.directory[setOf id]).invalidWay = none) (hw : (s.directory[setOf id]).walk = none) :
    allocate id e s = .setFull (s.directory[setOf id]).ids := by
  simp only [allocate, hv, hw]

/-- With every way valid the allocation turns on the victim of the walk. -/
theorem allocate_victim {v : DirEntry} (hv : (s.directory[setOf id]).invalidWay = none)
    (hw : (s.directory[setOf id]).walk = some w) (he : (s.directory[setOf id]).ways.get w = some v) :
    allocate id e s = if !v.dirty then .taken w (s.setDirSet (setOf id) ((s.directory[setOf id]).put w e)) none
      else if noticePlaceFree s then .taken w ((enqueue (.spill ⟨v, (setOf id).val, w⟩ .replaced) s).setDirSet (setOf id)
        ((s.directory[setOf id]).put w e)) (some ⟨v, (setOf id).val, w⟩)
      else .spillBlocked v.id := by
  simp only [allocate, hv, hw, he]

end

/-- Settles O42. -/
theorem theWalkFindsTheVictim : Obligations.TheWalkFindsTheVictim := by
  refine ⟨fun d valid => ?_, fun id e s => ?_, fun d d' => DirSet.walk_congr⟩
  · intro free pair pointed other
    have hfree (w : Quad) : free w ↔ d.unpinned w = true := by
      obtain ⟨e, he⟩ := Option.isSome_iff_exists.mp (valid w)
      simp [free, DirSet.unpinned, he]
    have hpair (p : Bool) : pair p ↔ d.pairFree p = true := by
      cases p <;> simp [pair, hfree, DirSet.pairFree]
    refine ⟨fun p hp => ?_, fun hn => DirSet.walk_none fun w => by simpa [hfree] using hn w⟩
    simp only [hpair] at hp
    rw [DirSet.walk_pair hp, hfree, DirSet.wayOf]
    exact ⟨fun h => congrArg some (if_pos h), fun h => congrArg some (if_neg h)⟩
  · intro d pinned
    refine allocate_setFull (DirSet.invalidWay_none fun w => ?_) (DirSet.walk_none fun w => ?_)
    all_goals obtain ⟨v, hv, hp⟩ := pinned w
    · rw [hv]
      nofun
    · exact DirSet.unpinned_of_pinned hv hp

/-! ### Accesses and messages (R112, R113, R118 to R121) -/

theorem updateEntry_hit {id : RackId} {s : State} {w : Quad} {e : DirEntry} (h : lookup s id = some (w, e))
    (f : DirEntry → DirEntry) : updateEntry id f s = s.setDirSet (setOf id) ((s.directory[setOf id]).put w (f e)) := by
  simp only [updateEntry, h]

theorem updateEntry_miss {id : RackId} {s : State} (h : lookup s id = none) (f : DirEntry → DirEntry) :
    updateEntry id f s = s := by
  simp only [updateEntry, h]

/-- The bits after an access point away from the way, and the other pair's bit stays (Table 30). -/
theorem DirSet.put_bits (d : DirSet) (w : Quad) (e : DirEntry) :
    (d.put w e).b0 = (if w = 0 ∨ w = 1 then true else false) ∧
    (d.put w e).b1 = (if w = 0 then true else if w = 1 then false else d.b1) ∧
    (d.put w e).b2 = (if w = 2 then true else if w = 3 then false else d.b2) := by
  match w with
  | 0 | 1 | 2 | 3 => exact ⟨rfl, rfl, rfl⟩

theorem admissionRequest_hit {id : RackId} {s : State} {w : Quad} {e : DirEntry} (h : lookup s id = some (w, e)) (k : Kind)
    (n : Quad) : admissionRequest id k n s = (s.setDirSet (setOf id) ((s.directory[setOf id]).put w
      { e with pinned := true, location := .track, kind := k, dirty := true }), true) := by
  simp only [admissionRequest, h, updateEntry_hit h]

section
variable {id : RackId} {s : State} {k : Kind} (h : lookup s id = none) (n : Quad)
include h

theorem admissionRequest_taken {w : Quad} {t : State} {v : Option EntryBlock}
    (ha : allocate id (admittedEntry id k) s = .taken w t v) : admissionRequest id k n s = (t, true) := by
  simp only [admissionRequest, h, ha]

theorem admissionRequest_setFull {held : List RackId} (ha : allocate id (admittedEntry id k) s = .setFull held) :
    admissionRequest id k n s = (enqueue (.admission (.setFull id (setOf id).val n held)) s, false) := by
  simp only [admissionRequest, h, ha]

theorem admissionRequest_spillBlocked {v : RackId} (ha : allocate id (admittedEntry id k) s = .spillBlocked v) :
    admissionRequest id k n s = (enqueue (.admission (.spillBlocked id (setOf id).val n v)) s, false) := by
  simp only [admissionRequest, h, ha]

end

/-- Settles O43: the allocation by the way it comes to, then each message by hit and miss. -/
theorem allocationsTakeAWay : Obligations.AllocationsTakeAWay := by
  refine ⟨fun id e s => ?_, fun d w e => ⟨DirSet.put_ways d w e, DirSet.put_bits d w e⟩,
    fun id k n s w e h => admissionRequest_hit h k n, fun id k n s _ h => ?_, fun id l k v d s => ?_⟩
  · intro i d given
    refine ⟨fun w hw hl => allocate_invalid (DirSet.invalidWay_lowest hw hl), fun w v valid hw hv => ?_⟩
    have hvictim := allocate_victim (e := e) (DirSet.invalidWay_none valid) hw hv
    refine ⟨fun hd => ?_, fun hd hroom => ?_, fun hd hfull => ?_⟩
    · rw [hvictim, hd]
      rfl
    · rw [hvictim, hd, if_neg (by simp), if_pos (by simpa [noticePlaceFree] using hroom)]
      simp [given, State.setDirSet, i, d]
    · rw [hvictim, hd, if_neg (by simp), if_neg (by simpa [noticePlaceFree] using hfull)]
  · exact ⟨fun w t v ha => admissionRequest_taken h n ha, fun held ha => admissionRequest_setFull h n ha,
      fun v ha => admissionRequest_spillBlocked h n ha⟩
  · exact ⟨fun h => ⟨updateEntry_miss h _, updateEntry_miss h _, updateEntry_miss h _, updateEntry_miss h _⟩,
      fun w e h => ⟨updateEntry_hit h _, updateEntry_hit h _, updateEntry_hit h _, updateEntry_hit h _⟩⟩

end Sys2Proof.Machine
end

section
namespace Sys2Proof.Machine
open Sys2Proof

/-! ## GET_RECORD, PUT_RECORD and DROP_RECORD -/

/-! ### The effect of each request, case by case (R124 to R127) -/

theorem kindOfCode_kindCode {k : Kind} {b : Byte} (h : kindCode k = b.toNat) : kindOfCode b = some k := by
  unfold kindOfCode
  rw [← h]
  cases k <;> rfl

/-- An entry written back over itself is an access (R112). -/
theorem DirSet.put_held {d : DirSet} {w : Quad} {e : DirEntry} (h : d.ways.get w = some e) : d.put w e = d.access w := by
  have hw : d.ways.set w (some e) = d.ways := by
    match w with
    | 0 | 1 | 2 | 3 => rw [← h]; rfl
  rw [DirSet.put, hw]

theorem addHistory_eq (washes short last : Nat) (e : DirEntry) : addHistory washes short last e = { e with
    washes := min 65535 (e.washes + washes), short := min 255 (e.short + short),
    last := if e.washes = 0 then last else e.last, partialHistory := false, dirty := true } := by
  simp only [addHistory, satAdd, ite_not, ne_eq]

section
variable {s : State} {id : RackId} {w : Quad} {e : DirEntry}

/-- A lookup that answers the entry as it stands accesses it (R112). -/
theorem updateEntry_id (h : lookup s id = some (w, e)) :
    updateEntry id (fun e => e) s = s.setDirSet (setOf id) ((s.directory[setOf id]).access w) := by
  rw [updateEntry_hit h, DirSet.put_held (entryAt_of_lookup h)]

theorem requestGetRecord_hit (h : lookup s id = some (w, e)) :
    let d := (s.directory[setOf id]).access w
    requestGetRecord id s = (s.setDirSet (setOf id) d, .ok, .entry ⟨e, (setOf id).val, w⟩ d.b0 d.b1 d.b2) := by
  obtain ⟨h0, -, -⟩ := lookup_eq_some.mp h
  simp only [requestGetRecord, if_neg h0, h, updateEntry_id h, setDirSet_self]

theorem requestGetRecord_miss (h0 : id ≠ 0) (h : lookup s id = none) :
    requestGetRecord id s = (s, .notFound, .empty) := by
  simp only [requestGetRecord, if_neg h0, h]

theorem requestDropRecord_miss (h0 : id ≠ 0) (h : lookup s id = none) :
    requestDropRecord id s = (s, .notFound, .empty) := by
  simp only [requestDropRecord, if_neg h0, h]

theorem requestDropRecord_hit (h : lookup s id = some (w, e)) :
    requestDropRecord id s = if e.pinned then (s, .state, .empty)
      else (s.setDirSet (setOf id) { s.directory[setOf id] with ways := (s.directory[setOf id]).ways.set w none },
        .ok, .entryDropped ⟨e, (setOf id).val, w⟩) := by
  obtain ⟨h0, -, -⟩ := lookup_eq_some.mp h
  simp only [requestDropRecord, if_neg h0, h]

variable {k sh : Byte} {c l : Half} {kind : Kind}

theorem requestPutRecord_range (hk : kindOfCode k = none) : requestPutRecord id k c sh l s = (s, .range, .empty) := by
  simp only [requestPutRecord, hk, ite_self]

section
variable (h0 : id ≠ 0) (hk : kindOfCode k = some kind) (h : lookup s id = none)
include h0 hk h

theorem requestPutRecord_taken {t : State} {v : Option EntryBlock}
    (ha : allocate id (loadedEntry id kind c.toNat sh.toNat l.toNat) s = .taken w t v) : requestPutRecord id k c sh l s =
      (t, .ok, .entryPut none ⟨loadedEntry id kind c.toNat sh.toNat l.toNat, (setOf id).val, w⟩ v) := by
  simp only [requestPutRecord, if_neg h0, hk, h, ha]

theorem requestPutRecord_full (hn : ∀ w t v, allocate id (loadedEntry id kind c.toNat sh.toNat l.toNat) s ≠ .taken w t v) :
    requestPutRecord id k c sh l s = (s, .full, .empty) := by
  cases ha : allocate id (loadedEntry id kind c.toNat sh.toNat l.toNat) s with
  | taken w t v => exact absurd ha (hn w t v)
  | setFull ids | spillBlocked v => simp only [requestPutRecord, if_neg h0, hk, h, ha]

end

theorem requestPutRecord_hit (hk : kindOfCode k = some kind) (h : lookup s id = some (w, e)) :
    let fresh := replaceHistory kind c.toNat sh.toNat l.toNat e
    let added := addHistory c.toNat sh.toNat l.toNat e
    let stored := fun x : DirEntry => (s.setDirSet (setOf id) ((s.directory[setOf id]).put w x), Result.ok,
      ReplyBody.entryPut (some ⟨e, (setOf id).val, w⟩) ⟨x, (setOf id).val, w⟩ none)
    requestPutRecord id k c sh l s =
      if !e.pinned then stored fresh else if e.partialHistory then stored added else (s, .state, .empty) := by
  obtain ⟨h0, -, -⟩ := lookup_eq_some.mp h
  simp only [requestPutRecord, if_neg h0, hk, h, updateEntry_hit h]

end

/-! ### The command around the request -/

section
variable {s t : State} {res : Result} {body : ReplyBody} (hl : Listening s) (hs : Settled s)
include hl hs

theorem exec_getRecord {id : RackId} (he : requestGetRecord id s = (t, res, body)) :
    exec (.getRecord id) s = .next (onlyAnswered 0x28 res body t) := by
  obtain rfl : (requestGetRecord id s).1 = t := congrArg Prod.fst he
  exact exec_directory (r := .getRecord id) hl hs rfl he

theorem exec_dropRecord {id : RackId} (he : requestDropRecord id s = (t, res, body)) :
    exec (.dropRecord id) s = .next (onlyAnswered 0x2A res body t) := by
  obtain rfl : (requestDropRecord id s).1 = t := congrArg Prod.fst he
  exact exec_directory (r := .dropRecord id) hl hs rfl he

theorem exec_putRecord {id : RackId} {k sh : Byte} {c l : Half} (he : requestPutRecord id k c sh l s = (t, res, body)) :
    exec (.putRecord id k c sh l) s = .next (onlyAnswered 0x29 res body t) := by
  obtain rfl : (requestPutRecord id k c sh l s).1 = t := congrArg Prod.fst he
  exact exec_directory (r := .putRecord id k c sh l) hl hs rfl he

end

/-- Settles O40: the refusals, the misses, then the hits. -/
theorem recordsAreReadAndWritten : Obligations.RecordsAreReadAndWritten := by
  intro s id hl hs
  refine ⟨?_, fun k c sh l hk => ?_, fun h0 hmiss => ?_, fun w e hit => ?_⟩
  · rintro rfl
    exact ⟨exec_getRecord hl hs rfl, exec_dropRecord hl hs rfl, fun k c sh l => exec_putRecord hl hs rfl⟩
  · exact exec_putRecord hl hs (requestPutRecord_range (kindOfCode_of_large hk))
  · exact ⟨exec_getRecord hl hs (requestGetRecord_miss h0 hmiss), exec_dropRecord hl hs (requestDropRecord_miss h0 hmiss),
      fun kind k c sh l hk =>
        ⟨fun w t v ha => exec_putRecord hl hs (requestPutRecord_taken h0 (kindOfCode_kindCode hk) hmiss ha),
          fun ha => exec_putRecord hl hs (requestPutRecord_full h0 (kindOfCode_kindCode hk) hmiss ha)⟩⟩
  · refine ⟨exec_getRecord hl hs (requestGetRecord_hit hit), fun hp => exec_dropRecord hl hs ?_,
      fun hp => exec_dropRecord hl hs ?_, fun kind k c sh l hk => ?_⟩
    · exact (requestDropRecord_hit hit).trans (if_pos hp)
    · exact (requestDropRecord_hit hit).trans (if_neg (by simp [hp]))
    · have hput := requestPutRecord_hit (c := c) (sh := sh) (l := l) (kindOfCode_kindCode hk) hit
      refine ⟨fun hp => exec_putRecord hl hs (hput.trans ?_), fun hp hh => exec_putRecord hl hs (hput.trans ?_),
        fun hp hh => exec_putRecord hl hs (hput.trans ?_)⟩
      · exact if_pos (by simp [hp])
      · rw [hp, hh, addHistory_eq, hp]
        rfl
      · rw [hp, hh]
        rfl

end Sys2Proof.Machine
end

section
namespace Sys2Proof.Machine
open Sys2Proof

/-! ## The router -/

/-! ### The router lookup (R122) -/

theorem DirSet.put_access (d : DirSet) (w : Quad) (e : DirEntry) : (d.access w).put w e = d.put w e := by
  match w with
  | 0 | 1 | 2 | 3 => rfl

theorem routerLookup_hit {id : RackId} {s : State} {w : Quad} {e : DirEntry} (h : lookup s id = some (w, e)) :
    routerLookup id s = (s.setDirSet (setOf id) ((s.directory[setOf id]).access w),
      (retireTest s.profile.values e).map fun t => (e, t)) := by
  simp only [routerLookup, h, updateEntry_id h]

theorem routerLookup_miss {id : RackId} {s : State} (h : lookup s id = none) : routerLookup id s = (s, none) := by
  simp only [routerLookup, h]

/-- The access of the router lookup is one that the location message makes again. -/
theorem sendLocation_accessed {id : RackId} {s t : State} (ht : t.directory = s.directory) (l : Location) :
    sendLocation id l { t with directory := (routerLookup id s).1.directory } = sendLocation id l t := by
  cases h : lookup s id with
  | none => rw [routerLookup_miss h, ← ht]
  | some q =>
    obtain ⟨w, e⟩ := q
    have hlookup : lookup (s.setDirSet (setOf id) ((s.directory[setOf id]).access w)) id = some (w, e) := by
      have hsame := lookup_updateEntry (x := id) (f := fun e => e) (fun _ => rfl) h
      rwa [updateEntry_id h, ite_self] at hsame
    have haccessed : lookup { t with directory := (routerLookup id s).1.directory } id = some (w, e) := by
      rw [routerLookup_hit h]
      exact hlookup
    rw [sendLocation, sendLocation, updateEntry_hit haccessed, updateEntry_hit ((lookup_congr ht id).trans h)]
    simp only [routerLookup_hit h, State.setDirSet, ht]
    have hself : (s.directory.set (setOf id) ((s.directory[setOf id]).access w))[setOf id] =
        (s.directory[setOf id]).access w := Vector.getElem_set_self _
    rw [hself, DirSet.put_access, Vector.set_set]

theorem routerLookup_eq (id : RackId) (s : State) :
    (routerLookup id s).1 = { s with directory := (routerLookup id s).1.directory } := by
  cases h : lookup s id with
  | none => rw [routerLookup_miss h]
  | some q => rw [routerLookup_hit h]; rfl

/-- The test on the counts by the limits of the profile (R122). -/
theorem retireTest_eq (v : ProfileValues) (e : DirEntry) : retireTest v e =
    if v.retireLimit ≠ 0 ∧ v.retireLimit ≤ e.washes then
      (if v.inspectLimit ≠ 0 ∧ v.inspectLimit ≤ e.short then some .both else some .retire)
    else if v.inspectLimit ≠ 0 ∧ v.inspectLimit ≤ e.short then some .inspect else none := by
  simp only [retireTest, Bool.and_eq_true, bne_iff_ne, decide_eq_true_eq]
  split <;> split <;> simp_all

/-! ### The station with the fewest racks (R141, R146) -/

/-- A station comes before another: fewer committed racks, or as many and a lower number. -/
def Before (s : State) (n m : Quad) : Prop :=
  (s.stations.get n).committed < (s.stations.get m).committed ∨
    (s.stations.get n).committed = (s.stations.get m).committed ∧ n ≤ m

theorem Before.antisymm {s : State} {n m : Quad} (h : Before s n m) (h' : Before s m n) : n = m := by
  unfold Before at h h'
  rw [Fin.le_def] at h h'
  exact Fin.ext (by omega)

theorem Before.refl (s : State) (n : Quad) : Before s n n := .inr ⟨rfl, Fin.le_refl n⟩

theorem lowestCommitted_none {s : State} {q : List Quad} (h : lowestCommitted s q = none) : q = [] := by
  cases q with
  | nil => rfl
  | cons a q =>
    rw [lowestCommitted] at h
    (repeat' split at h) <;> cases h

/-- The station chosen comes before every other of a list in rising order. -/
theorem lowestCommitted_before {s : State} {q : List Quad} (hq : q.Pairwise (· < ·)) {n : Quad}
    (h : lowestCommitted s q = some n) : ∀ m ∈ q, Before s n m := by
  induction q generalizing n with
  | nil => nofun
  | cons a q ih =>
    obtain ⟨ha, hq⟩ := List.pairwise_cons.mp hq
    rw [lowestCommitted] at h
    split at h
    · next hnone =>
      cases h
      rw [lowestCommitted_none hnone]
      intro m hm
      rw [List.mem_singleton.mp hm]
      exact .refl s a
    · next k hk =>
      have hfirst := ih hq hk
      split at h <;> cases h <;> refine List.forall_mem_cons.mpr ⟨?_, fun m hm => ?_⟩
      · exact .refl s a
      · have hkm := hfirst m hm
        have ham := ha m hm
        unfold Before at hkm ⊢
        rw [Fin.le_def] at hkm ⊢
        rw [Fin.lt_def] at ham
        omega
      · exact .inl (by omega)
      · exact hfirst m hm

theorem lowestCommitted_eq {s : State} {p : Quad → Bool} {n : Quad} (hn : p n = true)
    (h : ∀ m, p m = true → Before s n m) : lowestCommitted s (quads.filter p) = some n := by
  have hsorted : (quads.filter p).Pairwise (· < ·) := List.Pairwise.filter p (by decide)
  have hmem : n ∈ quads.filter p := List.mem_filter.mpr ⟨mem_quads n, hn⟩
  cases hk : lowestCommitted s (quads.filter p) with
  | none => rw [lowestCommitted_none hk] at hmem; cases hmem
  | some k =>
    have hkn := lowestCommitted_before hsorted hk n hmem
    rw [hkn.antisymm (h k (List.mem_filter.mp (lowestCommitted_mem hk)).2)]

theorem lowestCommitted_empty {s : State} {p : Quad → Bool} (h : ∀ n, p n = false) :
    lowestCommitted s (quads.filter p) = none := by
  rw [List.filter_eq_nil_iff.mpr fun n _ => by simp [h]]
  rfl

theorem stationOpen_iff {s : State} {n : Quad} : stationOpen s n = true ↔ n.val + 1 ≤ s.profile.values.stations ∧
    (s.stations.get n).mode = .openMode ∧ (s.stations.get n).committed < 6 := by
  simp only [stationOpen, fitted, Bool.and_eq_true, beq_iff_eq, decide_eq_true_eq, Config.stackPlaces, and_assoc]

theorem canTake_iff {s : State} {k : Kind} {n : Quad} : canTake s k n = true ↔
    stationOpen s n = true ∧ (s.stations.get n).mask.accepts k = true := by
  simp only [canTake, Bool.and_eq_true]

section
variable {s t : State}

theorem lowestCommitted_congr (h : t.stations = s.stations) (q : List Quad) : lowestCommitted t q = lowestCommitted s q := by
  induction q with
  | nil => rfl
  | cons a q ih => simp only [lowestCommitted, ih, h]

theorem stationOpen_congr (h : t.stations = s.stations) (hp : t.profile = s.profile) : stationOpen t = stationOpen s := by
  funext n
  simp only [stationOpen, fitted, h, hp]

theorem routeOf_congr (h : t.stations = s.stations) (hp : t.profile = s.profile) (hr : t.ret = s.ret) (k : Kind) :
    routeOf t k = routeOf s k := by
  have hc : canTake t k = canTake s k := by
    funext n
    simp only [canTake, stationOpen_congr h hp, h]
  simp only [routeOf, lowestCommitted_congr h, hc, hr]

end

/-! ### The route (R140 to R143) -/

section
variable {s : State} {k : Kind} {n : Quad}

theorem routeOf_station (hn : canTake s k n = true) (h : ∀ m, canTake s k m = true → Before s n m) :
    routeOf s k = some (.station n) := by
  simp only [routeOf, lowestCommitted_eq hn h]

theorem routeOf_surplus (hn : ∀ n, canTake s k n = false) (h : s.ret.surplus.length < 8) : routeOf s k = some .surplus := by
  simp only [routeOf, lowestCommitted_empty hn, h, if_true]

theorem routeOf_none (hn : ∀ n, canTake s k n = false) (h : 8 ≤ s.ret.surplus.length) : routeOf s k = none := by
  simp only [routeOf, lowestCommitted_empty hn, Nat.not_lt.mpr h, if_false]

/-- With no station open a feed that is offered is not started (R146). -/
theorem offerFeed_closed (h : ∀ n, stationOpen s n = false) : (offerFeed s).1 = s := by
  unfold offerFeed
  rw [lowestCommitted_empty h]
  split
  · next hx => cases hx
  · rfl

theorem startDelivery_surplus (n : Quad) (i : RackId) (k : Kind) (s : State) : startDelivery n i k .surplus s =
    sendLocation i (.delivery n) { s with stations := s.stations.set n { s.stations.get n with deliveries :=
      (s.stations.get n).deliveries ++ [⟨i, k, .surplus, .running (100 * s.profile.values.feedTime)⟩] } } := by
  rw [← preset_seconds]
  rfl

/-- A feed starts the head of surplus to the first of the open stations (R146). -/
theorem offerFeed_open {t : State} {e : RackEntry} {rest : List RackEntry} (stations : t.stations = s.stations)
    (profile : t.profile = s.profile) (hs : t.ret.surplus = e :: rest) (hn : stationOpen s n = true)
    (h : ∀ m, stationOpen s m = true → Before s n m) : (offerFeed t).1 = sendLocation e.id (.delivery n) { t with
      ret := { t.ret with surplus := rest }
      stations := s.stations.set n { s.stations.get n with deliveries := (s.stations.get n).deliveries ++
        [⟨e.id, e.kind, .surplus, .running (100 * s.profile.values.feedTime)⟩] } } := by
  simp only [offerFeed, hs, stationOpen_congr stations profile, lowestCommitted_congr stations, lowestCommitted_eq hn h,
    startDelivery_surplus, stations, profile]

end

/-! ### The arrival (R138, R140) -/

/-- The head leaves for inspection (R140). -/
def leftForInspection (s : State) : State :=
  { s with ret := { s.ret with
      transit := s.ret.transit.tail, spacing := .running 300, held := false, diverter := .inspect,
      inspections := min 65535 (s.ret.inspections + 1) } }

/-- The head leaves for a station, as a delivery (R141, R144). -/
def leftForStation (r : TrackRecord) (n : Quad) (s : State) : State :=
  { s with
    ret := { s.ret with
      transit := s.ret.transit.tail, spacing := .running 300, held := false, diverter := .station n }
    stations := s.stations.set n { s.stations.get n with deliveries := (s.stations.get n).deliveries ++
      [⟨r.id, r.kind, .router, .running (100 * s.profile.values.deliveryTime.get n)⟩] } }

/-- The head leaves for surplus (R143). -/
def leftForSurplus (r : TrackRecord) (s : State) : State :=
  { s with ret := { s.ret with
      transit := s.ret.transit.tail, spacing := .running 300, held := false, diverter := .surplus,
      surplus := s.ret.surplus ++ [⟨r.id, r.kind⟩] } }

theorem inspectHead_eq (r : TrackRecord) (e : DirEntry) (t : RetireTest) (s : State) : inspectHead r e t s =
    completePending (enqueue (.rackRetired r.id r.kind e.washes e.short t)
      (sendLocation r.id .inspect (leftForInspection s))) := rfl

theorem routeHead_station (r : TrackRecord) (n : Quad) (s : State) : routeHead r (.station n) s =
    completePending (sendLocation r.id (.delivery n) (leftForStation r n s)) := by
  rw [leftForStation, ← preset_seconds]
  rfl

theorem routeHead_surplus (r : TrackRecord) (s : State) : routeHead r .surplus s =
    completePending (sendLocation r.id .surplus (leftForSurplus r s)) := rfl

theorem inspectHead_accessed (r : TrackRecord) (e : DirEntry) (t : RetireTest) (s : State) :
    inspectHead r e t (routerLookup r.id s).1 = inspectHead r e t s := by
  rw [routerLookup_eq, inspectHead_eq, inspectHead_eq]
  exact congrArg (fun u => completePending (enqueue _ u))
    (sendLocation_accessed (s := s) (t := leftForInspection s) rfl .inspect)

theorem routeHead_accessed (r : TrackRecord) (route : Route) (s : State) :
    routeHead r route (routerLookup r.id s).1 = routeHead r route s := by
  rw [routerLookup_eq]
  cases route with
  | station n =>
    rw [routeHead_station, routeHead_station]
    exact congrArg completePending (sendLocation_accessed (s := s) (t := leftForStation r n s) rfl (.delivery n))
  | surplus =>
    rw [routeHead_surplus, routeHead_surplus]
    exact congrArg completePending (sendLocation_accessed (s := s) (t := leftForSurplus r s) rfl .surplus)

section
variable {s : State} {r : TrackRecord}

theorem arrive_inspected {e : DirEntry} {t : RetireTest} (h : (routerLookup r.id s).2 = some (e, t)) :
    arrive r s = inspectHead r e t s := by
  simp only [arrive, h, inspectHead_accessed]

theorem routeOf_accessed (i : RackId) (k : Kind) (s : State) : routeOf (routerLookup i s).1 k = routeOf s k :=
  routeOf_congr (by simp) (by simp) (by simp) k

theorem arrive_station {n : Quad} (h : (routerLookup r.id s).2 = none) (hr : routeOf s r.kind = some (.station n)) :
    arrive r s = routeHead r (.station n) s := by
  simp only [arrive, h, routeOf_accessed, hr, routeHead_accessed]

theorem arrive_surplus (h : (routerLookup r.id s).2 = none) (hr : routeOf s r.kind = some .surplus) :
    arrive r s = (offerFeed (routeHead r .surplus s)).1 := by
  simp only [arrive, h, routeOf_accessed, hr, routeHead_accessed]

theorem arrive_held (h : (routerLookup r.id s).2 = none) (hr : routeOf s r.kind = none) :
    arrive r s = holdHead r (routerLookup r.id s).1 := by
  simp only [arrive, h, routeOf_accessed, hr]

end

/-! ### What a routing leads to -/

/-- A confirm that is pending in `s` is completed in `t`, where a place has been freed (R133, R140). -/
def confirmPending (s t : State) : State :=
  match s.ret.confirm, s.ret.cleanEnd with
  | true, c :: more => dueEvaluation (sendUnpin c.record.id .onReturn { t with ret := { t.ret with
      cleanEnd := more, confirm := false,
      transit := t.ret.transit ++ [⟨c.record, .running (100 * s.profile.values.travelTime)⟩] } })
  | _, _ => t

theorem completePending_idle {s : State} (h : s.ret.confirm = false) : completePending s = s := by
  simp [completePending, h]

theorem completePending_eq {s t : State} (confirm : t.ret.confirm = s.ret.confirm) (clean : t.ret.cleanEnd = s.ret.cleanEnd)
    (profile : t.profile = s.profile) (room : s.ret.confirm = true → t.ret.transit.length < 12) :
    completePending t = confirmPending s t := by
  unfold confirmPending
  cases h : s.ret.confirm with
  | false => rw [completePending_idle (confirm.trans h)]
  | true =>
    rw [completePending, confirm, h, Bool.true_and, if_pos (by simpa using room h)]
    cases hc : s.ret.cleanEnd with
    | nil => simp only [completeConfirm, clean.trans hc]
    | cons c more => rw [completeConfirm_cons (clean.trans hc), movedToTransit, profile]

theorem completePending_surplus (s : State) : (completePending s).ret.surplus = s.ret.surplus := by
  unfold completePending
  split
  · cases hc : s.ret.cleanEnd with
    | nil => simp only [completeConfirm, hc]
    | cons c more => simp [completeConfirm_cons hc, movedToTransit]
  · rfl

section
variable {s : State} {r : TrackRecord}

section
variable (room : s.ret.confirm = true → s.ret.transit.tail.length < 12)
include room

theorem inspectHead_confirm (e : DirEntry) (t : RetireTest) : inspectHead r e t s = confirmPending s
    (enqueue (.rackRetired r.id r.kind e.washes e.short t) (sendLocation r.id .inspect (leftForInspection s))) := by
  rw [inspectHead_eq]
  exact completePending_eq (by simp [leftForInspection]) (by simp [leftForInspection]) (by simp [leftForInspection])
    (by simpa [leftForInspection] using room)

theorem routeHead_station_confirm (n : Quad) : routeHead r (.station n) s =
    confirmPending s (sendLocation r.id (.delivery n) (leftForStation r n s)) := by
  rw [routeHead_station]
  exact completePending_eq (by simp [leftForStation]) (by simp [leftForStation]) (by simp [leftForStation])
    (by simpa [leftForStation] using room)

theorem routeHead_surplus_confirm : routeHead r .surplus s =
    confirmPending s (sendLocation r.id .surplus (leftForSurplus r s)) := by
  rw [routeHead_surplus]
  exact completePending_eq (by simp [leftForSurplus]) (by simp [leftForSurplus]) (by simp [leftForSurplus])
    (by simpa [leftForSurplus] using room)

end

theorem routeHead_surplus_stations : (routeHead r .surplus s).stations = s.stations := by
  simp [routeHead_surplus, leftForSurplus]

theorem routeHead_surplus_queue : (routeHead r .surplus s).ret.surplus = s.ret.surplus ++ [⟨r.id, r.kind⟩] := by
  rw [routeHead_surplus, completePending_surplus]
  simp [leftForSurplus]

theorem holdHead_eq {x : Timer} {rest : List Transit} (h : s.ret.transit = ⟨r, x⟩ :: rest) : holdHead r s =
    enqueue (.returnHold r.id r.kind s.ret.surplus.length rest.length) { s with ret := { s.ret with held := true } } := by
  rw [holdHead, holdNotice, h]
  rfl

theorem holdHead_accessed : { holdHead r (routerLookup r.id s).1 with directory := s.directory } = holdHead r s := by
  rw [routerLookup_eq]
  exact (enqueue_directory (holdNotice r s) _ s.directory).symm

theorem holdHead_directory : (holdHead r s).directory = s.directory := by
  simp [holdHead]

/-- Without a confirm to complete an arrival leaves the track alone. -/
theorem arrive_track (h : s.ret.confirm = false) : (arrive r s).track = s.track := by
  have routed (route : Route) : (routeHead r route (routerLookup r.id s).1).track = s.track := by
    rw [routeHead_accessed]
    cases route with
    | station n => rw [routeHead_station, completePending_idle] <;> simp [leftForStation, h]
    | surplus => rw [routeHead_surplus, completePending_idle] <;> simp [leftForSurplus, h]
  unfold arrive
  dsimp only
  split
  · rw [inspectHead_accessed, inspectHead_eq, completePending_idle] <;> simp [leftForInspection, h]
  · split
    · simp [routed]
    · exact routed _
    · simp [holdHead]

theorem tryArrival_eq {x : Timer} {rest : List Transit} (h : s.ret.transit = ⟨r, x⟩ :: rest) : tryArrival s =
    if x = .expired ∧ s.ret.spacing = .expired ∧ s.inputs.arrival = true ∧ s.interlock.live.estop = false ∧
      s.ret.held = false then arrive r s else s := by
  simp only [tryArrival, h, Bool.not_eq_true']

theorem routerLookup_due {w : Quad} {e : DirEntry} {t : RetireTest} (h : lookup s r.id = some (w, e))
    (ht : retireTest s.profile.values e = some t) : (routerLookup r.id s).2 = some (e, t) := by
  rw [routerLookup_hit h, ht]
  rfl

theorem routerLookup_kept (h : ∀ w e, lookup s r.id = some (w, e) → retireTest s.profile.values e = none) :
    (routerLookup r.id s).2 = none := by
  cases hl : lookup s r.id with
  | none => rw [routerLookup_miss hl]
  | some q =>
    obtain ⟨w, e⟩ := q
    rw [routerLookup_hit hl, h w e hl]
    rfl

end

/-- Settles O46: inspection, a station, surplus with or without a feed, or the hold. -/
theorem arrivalsAreRouted : Obligations.ArrivalsAreRouted := by
  intro s r rest x h mayArrive v washed shorted due count opened accepts takes u left confirmed toSurplus
  have htail : s.ret.transit.tail = rest := by rw [h]; rfl
  have hopened (n : Quad) : stationOpen s n = true ↔ opened n := stationOpen_iff
  have htakes (n : Quad) : canTake s r.kind n = true ↔ takes n := canTake_iff.trans (and_congr_left' (hopened n))
  refine ⟨fun hn => (tryArrival_eq h).trans (if_neg hn), fun hm hroom => ?_, fun hc => ?_⟩
  · have hu : u = arrive r s := (tryArrival_eq h).trans (if_pos hm)
    have room : s.ret.confirm = true → s.ret.transit.tail.length < 12 := by rwa [htail]
    have kept (hd : ¬ due) : (routerLookup r.id s).2 = none := routerLookup_kept fun w e hl => by
      rw [retireTest_eq, if_neg fun hw => hd ⟨w, e, hl, .inl hw⟩, if_neg fun hs => hd ⟨w, e, hl, .inr hs⟩]
    have none_takes (hn : ∀ n, ¬ takes n) (n : Quad) : canTake s r.kind n = false :=
      Bool.eq_false_iff.mpr fun hc => hn n ((htakes n).mp hc)
    have hsurplus : routeHead r .surplus s = toSurplus := by
      rw [routeHead_surplus_confirm room, leftForSurplus, htail]
      rfl
    refine ⟨fun w e hl _ test ht => ?_, fun n hd hn hmin => ?_, fun hd hn hlen ho => ?_, fun n hd hn hlen ho hmin => ?_,
      fun hd hn hlen => ?_⟩
    · have htest : retireTest v e = some test := by
        rw [retireTest_eq]
        rcases ht with ⟨hw, hs, rfl⟩ | ⟨hw, hs, rfl⟩ | ⟨hw, hs, rfl⟩
        · rw [if_pos hw, if_pos hs]
        · rw [if_pos hw, if_neg hs]
        · rw [if_neg hw, if_pos hs]
      rw [hu, arrive_inspected (routerLookup_due hl htest), inspectHead_confirm room, leftForInspection, htail]
      rfl
    · have hroute := routeOf_station ((htakes n).mpr hn) fun m hc => hmin m ((htakes m).mp hc)
      rw [hu, arrive_station (kept hd) hroute, routeHead_station_confirm room, leftForStation, htail]
      rfl
    · rw [hu, arrive_surplus (kept hd) (routeOf_surplus (none_takes hn) hlen), hsurplus]
      refine offerFeed_closed fun n => Bool.eq_false_iff.mpr fun hc => ho n ((hopened n).mp ?_)
      rwa [← hsurplus, stationOpen_congr routeHead_surplus_stations (by simp)] at hc
    · obtain ⟨e, q, hq⟩ : ∃ e q, s.ret.surplus ++ [⟨r.id, r.kind⟩] = e :: q := List.exists_cons_of_ne_nil (by simp)
      refine ⟨e, q, hq, ?_⟩
      rw [hu, arrive_surplus (kept hd) (routeOf_surplus (none_takes hn) hlen), ← hsurplus]
      exact offerFeed_open routeHead_surplus_stations (by simp) (routeHead_surplus_queue.trans hq) ((hopened n).mpr ho)
        fun m hc => hmin m ((hopened m).mp hc)
    · rw [hu, arrive_held (kept hd) (routeOf_none (none_takes hn) hlen), holdHead_accessed, holdHead_eq h, holdHead_directory]
      exact ⟨rfl, fun hl => by rw [routerLookup_miss hl], fun w e hl => by rw [routerLookup_hit hl]; rfl⟩
  · rw [show u = _ from tryArrival_eq h]
    split
    · exact arrive_track hc
    · rfl

end Sys2Proof.Machine
end

section
namespace Sys2Proof.Machine
open Sys2Proof

/-! ## The link -/

/-! ### The order of the notice queue (R157, R186, R189) -/

theorem placeNotice_perm (n : Notice) (q : List Notice) : (placeNotice n q).Perm (n :: q) := by
  induction q with
  | nil => exact .rfl
  | cons m q ih =>
    unfold placeNotice
    split
    · exact (ih.cons m).trans (.swap n m q)
    · exact .rfl

/-- A notice is placed behind those of its own or a smaller number and before the others, so the queue stays in order. -/
theorem placeNotice_sorted (n : Notice) {q : List Notice} (h : q.Pairwise (·.priority ≤ ·.priority)) :
    (placeNotice n q).Pairwise (·.priority ≤ ·.priority) := by
  induction q with
  | nil => exact List.pairwise_singleton ..
  | cons m q ih =>
    obtain ⟨hm, hq⟩ := List.pairwise_cons.mp h
    unfold placeNotice
    split
    · next hle =>
      refine List.pairwise_cons.mpr ⟨fun x hx => ?_, ih hq⟩
      rcases mem_placeNotice.mp hx with rfl | hx
      · exact hle
      · exact hm x hx
    · next hlt =>
      refine List.pairwise_cons.mpr ⟨fun x hx => ?_, h⟩
      rcases List.mem_cons.mp hx with rfl | hx
      · omega
      · have := hm x hx
        omega

theorem foldl_max_eq_or_mem (l : List Nat) (a : Nat) : l.foldl max a = a ∨ l.foldl max a ∈ l := by
  induction l generalizing a with
  | nil => exact .inl rfl
  | cons x l ih =>
    rw [List.foldl_cons]
    rcases ih (max a x) with h | h
    · rw [h]
      rcases max_choice a x with h | h
      · exact .inl h
      · rw [h]
        exact .inr List.mem_cons_self
    · exact .inr (List.mem_cons_of_mem _ h)

theorem discardNewest_sublist (q : List Notice) : (discardNewest q).Sublist q := by
  simpa [discardNewest] using (List.eraseP_sublist (p := fun m => m.priority == largestNumber q) (l := q.reverse)).reverse

/-- A queue with a number above 0 in it loses one notice to the discard. -/
theorem length_discardNewest {q : List Notice} (h : 0 < largestNumber q) : (discardNewest q).length + 1 = q.length := by
  have hmem : largestNumber q ∈ q.map Notice.priority :=
    (foldl_max_eq_or_mem (q.map Notice.priority) 0).resolve_left (Nat.ne_of_gt h)
  obtain ⟨m, hm, hp⟩ := List.mem_map.mp hmem
  have hlen := List.length_eraseP_of_mem (p := fun m => m.priority == largestNumber q) (List.mem_reverse.mpr hm)
    (by simpa using hp)
  have hpos := List.length_pos_of_mem hm
  rw [List.length_reverse] at hlen
  rw [discardNewest, List.length_reverse, hlen]
  omega

/-- The queue keeps to its places and its order, with one INTERLOCK notice at most, and the count of lost notices to its
range. -/
structure NoticesSound (l : Link) : Prop where
  places : l.notices.length ≤ Config.noticePlaces
  sorted : l.notices.Pairwise (·.priority ≤ ·.priority)
  single : l.notices.countP Notice.isInterlock ≤ 1
  discarded : l.discarded ≤ 65535

theorem Notice.priority_of_isInterlock {n : Notice} (h : n.isInterlock = true) : n.priority = 2 := by
  cases n with
  | interlock => rfl
  | _ => cases h

/-- A notice joins a queue that is left with a place for it. -/
theorem placed_sound {n : Notice} {q r : List Notice} (hs : r.Sublist q) (hr : r.length < Config.noticePlaces)
    (hq : q.Pairwise (·.priority ≤ ·.priority)) (hone : (n :: q).countP Notice.isInterlock ≤ 1) :
    (placeNotice n r).length ≤ Config.noticePlaces ∧ (placeNotice n r).Pairwise (·.priority ≤ ·.priority) ∧
      (placeNotice n r).countP Notice.isInterlock ≤ 1 := by
  refine ⟨?_, placeNotice_sorted n (hq.sublist hs), ?_⟩
  · rw [length_placeNotice]
    exact hr
  · rw [(placeNotice_perm n r).countP_eq]
    exact (hs.cons_cons n).countP_le.trans hone

section
variable {s : State} (h : NoticesSound s.link)
include h

/-- A block queues a notice that is no second INTERLOCK notice (R186). -/
theorem NoticesSound.enqueue {n : Notice} (hn : (n :: s.link.notices).countP Notice.isInterlock ≤ 1) :
    NoticesSound (enqueue n s).link := by
  have hlost : satAdd 65535 s.link.discarded 1 ≤ 65535 := Nat.min_le_left ..
  unfold Machine.enqueue
  split
  · exact h
  · split
    · next hroom =>
      obtain ⟨places, sorted, single⟩ := placed_sound (.refl _) hroom h.sorted hn
      exact ⟨places, sorted, single, h.discarded⟩
    · dsimp only
      split
      · next hlt =>
        have hlen := length_discardNewest (Nat.zero_lt_of_lt hlt)
        obtain ⟨places, sorted, single⟩ :=
          placed_sound (discardNewest_sublist s.link.notices) (by have := h.places; omega) h.sorted hn
        exact ⟨places, sorted, single, hlost⟩
      · exact ⟨h.places, h.sorted, h.single, hlost⟩

/-- A waiting INTERLOCK notice takes the contents of the new one, so it stays the only one, in its place (R157, R187). -/
theorem NoticesSound.enqueueInterlock {n : Notice} (hn : n.isInterlock = true) :
    NoticesSound (enqueueInterlock n s).link := by
  unfold Machine.enqueueInterlock
  split
  · exact h
  · split
    · have hkind (m : Notice) : (if m.isInterlock then n else m).isInterlock = m.isInterlock := by
        split
        · next hm => rw [hn, hm]
        · rfl
      have hpriority (m : Notice) : (if m.isInterlock then n else m).priority = m.priority := by
        split
        · next hm => rw [Notice.priority_of_isInterlock hn, Notice.priority_of_isInterlock hm]
        · rfl
      refine ⟨?_, ?_, ?_, h.discarded⟩
      · exact (List.length_map _).trans_le h.places
      · refine List.pairwise_map.mpr ?_
        simpa only [hpriority] using h.sorted
      · simp only [List.countP_map, Function.comp_def, hkind]
        exact h.single
    · next hnone =>
      refine h.enqueue ?_
      have hzero : s.link.notices.countP Notice.isInterlock = 0 := by
        simpa [List.countP_eq_zero] using hnone
      rw [List.countP_cons, hzero, hn]
      decide

end

/-! ### What the blocks do to the link: they queue notices -/

/-- A run at its eighth sample is told of by a FAULT notice (R45, R46). -/
theorem runNotices_not_interlock {m : Sample} {d : Dose} {n : Notice} (hn : n ∈ runNotices m d) : n.isInterlock = false := by
  have fault {c : Bool} {f : FaultNotice} (hm : n ∈ if c then [Notice.fault f] else []) : n.isInterlock = false := by
    cases c with
    | false => cases hm
    | true => rw [List.mem_singleton.mp hm]; rfl
  exact (List.mem_append.mp hn).elim fault fault

/-- From `s` to `t` the blocks have queued notices and worked on their own parts; the rest of the link and the phase are as
they were. -/
inductive Notified (s : State) : State → Prop where
  | refl : Notified s s
  | parts {t u : State} : Notified s t → u.link = t.link ∧ u.phase = t.phase → Notified s u
  | notice {t : State} {n : Notice} : Notified s t → n.isInterlock = false → Notified s (enqueue n t)
  | interlock {t : State} {n : Notice} : Notified s t → n.isInterlock = true → Notified s (enqueueInterlock n t)

theorem Notified.noticesSound {s t : State} (ht : Notified s t) (h : NoticesSound s.link) : NoticesSound t.link := by
  induction ht with
  | refl => exact h
  | parts _ hp ih => exact hp.1 ▸ ih
  | notice _ hn ih => exact ih.enqueue (by simpa [hn] using ih.single)
  | interlock _ hn ih => exact ih.enqueueInterlock hn

/-- What the blocks leave of the link. -/
theorem Notified.frame {s t : State} (h : Notified s t) :
    t.phase = s.phase ∧ t.link.buffer = s.link.buffer ∧ t.link.reply = s.link.reply ∧
      t.link.transmitter = s.link.transmitter ∧ t.link.mask = s.link.mask ∧ t.link.crcErrors = s.link.crcErrors ∧
      t.link.framingErrors = s.link.framingErrors ∧ t.link.overflows = s.link.overflows := by
  induction h with
  | refl => simp
  | parts _ hp ih => rw [hp.1, hp.2]; exact ih
  | notice | interlock => simpa

section
variable {s t u : State} (h : Notified s t)
include h

theorem Notified.guarded (c : Prop) [Decidable c] {f : State → State} (hf : Notified s (f t)) :
    Notified s (if c then f t else t) := by
  split
  · exact hf
  · exact h

theorem Notified.unless (c : Prop) [Decidable c] {f : State → State} (hf : Notified s (f t)) :
    Notified s (if c then t else f t) := by
  split
  · exact h
  · exact hf

theorem Notified.enqueueAll {ns : List Notice} (hn : ∀ n ∈ ns, n.isInterlock = false) : Notified s (enqueueAll ns t) := by
  induction ns generalizing t with
  | nil => exact h
  | cons n ns ih =>
    exact ih (h.notice (hn n List.mem_cons_self)) fun m hm => hn m (List.mem_cons_of_mem _ hm)

theorem Notified.enterState (st : TrackState) : Notified s (enterState st t) := by
  unfold Machine.enterState
  dsimp only
  split
  · exact (h.parts (by simp)).notice rfl
  · exact h.parts (by simp)

theorem Notified.latch (c : LatchCause) : Notified s (latch c t) := (h.parts (by simp)).interlock rfl

theorem Notified.reportChange : Notified s (reportChange t) := h.unless _ (h.latch _)

theorem Notified.setJam (v : Bool) : Notified s (setJam v t) := by
  unfold Machine.setJam
  split
  · exact h
  · exact (h.parts (by simp)).reportChange

/-! ### The directory and the track -/

theorem Notified.setDirSet (i : Fin 64) (d : DirSet) : Notified s (t.setDirSet i d) := h.parts (by simp)

theorem Notified.allocate {id : RackId} {e : DirEntry} {w : Quad} {v : Option EntryBlock}
    (ha : allocate id e t = .taken w u v) : Notified s u := by
  rcases allocate_taken ha with ⟨rfl, -⟩ | ⟨x, -, -, -, -, rfl⟩
  · exact h.parts (by simp)
  · exact Notified.setDirSet (h.notice rfl) _ _

theorem Notified.admissionRequest (id : RackId) (k : Kind) (n : Quad) : Notified s (admissionRequest id k n t).1 := by
  unfold Machine.admissionRequest
  split
  · exact h.parts (by simp)
  · split
    · next ha => exact h.allocate ha
    · exact h.notice rfl
    · exact h.notice rfl

theorem Notified.sendAdmission (n : Quad) (final expected : RackId) (k : Kind) :
    Notified s (sendAdmission n final expected k t).1 := by
  have hr : Notified s (if final = 0 then (t, false) else Machine.admissionRequest final k n t).1 := by
    split
    · exact h
    · exact h.admissionRequest ..
  unfold Machine.sendAdmission
  dsimp only
  split
  · exact hr.parts (by simp)
  · exact hr

theorem Notified.flushFrom (q : List (Fin 64 × Quad)) : Notified s (flushFrom q t).1 := by
  induction q generalizing t with
  | nil => exact h
  | cons p q ih =>
    obtain ⟨i, w⟩ := p
    unfold Machine.flushFrom
    split
    · exact ih h
    · split
      · exact ih h
      · split
        · exact ih (Notified.setDirSet (h.notice rfl) _ _)
        · exact h

theorem Notified.fixVerdict : Notified s (fixVerdict t) := by
  unfold Machine.fixVerdict
  split
  · exact h
  · next r _ =>
    have hpass : Notified s (if r.tracked then
        sendPass r.id (verdictOf r) r.dose (t.setPosition 12 (some { r with verdict := verdictOf r, leaving := true }))
        else t.setPosition 12 (some { r with verdict := verdictOf r, leaving := true })) := by
      split <;> exact h.parts (by simp)
    exact hpass.guarded _ (hpass.notice rfl)

theorem Notified.stepStart : Notified s (stepStart t) :=
  (Notified.fixVerdict (h.parts (u := reserveExit t) (by simp))).parts ⟨rfl, rfl⟩

theorem Notified.dueEvaluation : Notified s (dueEvaluation t) := by
  rcases dueEvaluation_waits_or_starts t with ⟨w, -, -, he⟩ | ⟨-, e, he⟩ <;> rw [he]
  · exact h.parts (by simp)
  · exact Notified.stepStart (h.parts ⟨rfl, rfl⟩)

theorem Notified.exitEyeCheck : Notified s (exitEyeCheck t) := by
  unfold Machine.exitEyeCheck
  split
  · refine Notified.notice ?_ rfl
    split <;> exact h.parts (by simp)
  · exact h.parts (by simp)
  · exact h

theorem Notified.completeMotion : Notified s (completeMotion t) :=
  Notified.exitEyeCheck (h.parts (by simp [fixPeriod, endMotion]))

theorem Notified.stateAfterCompletion : Notified s (stateAfterCompletion t) := by
  unfold Machine.stateAfterCompletion
  split
  · dsimp only
    split
    · exact (h.parts (by simp)).enterState _
    · exact h.parts (by simp)
  · split
    · exact h.enterState _
    · exact h.enterState _

theorem Notified.trackOpening : Notified s (trackOpening t) := by
  unfold Machine.trackOpening
  dsimp only
  split
  case h_1 | h_2 | h_3 | h_4 => exact Notified.enterState (h.parts (by simp)) _
  case h_5 =>
    refine Notified.enterState ?_ _
    exact h.parts ⟨rfl, rfl⟩
  all_goals exact h

theorem Notified.enterJam (c : FaultCause) (n : FaultNotice) : Notified s (enterJam c n t) :=
  (Notified.setJam (h.parts (by simp)) true).notice rfl

theorem Notified.enterStandby : Notified s (enterStandby t) := (h.parts (by simp)).enterState _

theorem Notified.enterRecovery : Notified s (enterRecovery t) := (h.parts (by simp)).enterState _

theorem Notified.wake : Notified s (wake t) := by
  unfold Machine.wake
  dsimp only
  split
  · exact (h.parts (by simp)).enterRecovery
  · exact (h.parts (by simp)).enterState _

theorem Notified.completeRecovery : Notified s (completeRecovery t) :=
  (Notified.enterState (h.parts (u := stopRecoveryTimers t) ⟨rfl, rfl⟩) _).dueEvaluation

theorem Notified.resumeMotion : Notified s (resumeMotion t) := by
  unfold Machine.resumeMotion
  split
  · exact h.completeMotion.enterState _
  · exact (h.parts (by simp)).enterState _

theorem Notified.runMove : Notified s (runMove t) := by
  have hr : Notified s { t with track := { t.track with runEnable := true } } := h.parts (by simp)
  unfold Machine.runMove
  dsimp only
  split
  · split
    · exact hr.resumeMotion
    · exact hr.enterState _
  · split
    · exact hr.resumeMotion
    · split
      · exact hr.enterRecovery
      · exact hr.enterState _
  · exact hr.wake
  · exact hr

/-! ### Samples -/

theorem Notified.formed (a : Code) (b : Option Code) : Notified s (formed a b t) :=
  Notified.enqueueAll (h.parts (by simp)) fun _ hn => runNotices_not_interlock hn

theorem Notified.formSample (a : Code) (b : Option Code) : Notified s (formSample a b t) := by
  have hf := (h.formed a b).dueEvaluation
  exact hf.guarded _ hf.completeRecovery

theorem Notified.conversionA (c : Code) : Notified s (conversionA c t) := by
  unfold Machine.conversionA
  split
  · split
    · exact h.formSample _ _
    · exact h.parts (by simp)
  · exact h

theorem Notified.conversionB (c : Code) : Notified s (conversionB c t) := by
  unfold Machine.conversionB
  split
  · exact h.formSample _ _
  · exact h

end

end Sys2Proof.Machine
end

section
namespace Sys2Proof.Machine
open Sys2Proof

section
variable {s t : State} (h : Notified s t)
include h

/-! ### The stations and the merge -/

theorem Notified.resolveStation (n : Quad) : Notified s (resolveStation n t) := by
  unfold Machine.resolveStation
  split
  · split
    · refine Notified.notice ?_ rfl
      exact h.parts (by simp)
    · exact h
  · exact h

theorem Notified.resolveHeads : Notified s (resolveHeads t) :=
  foldl_stations_keeps (fun n _ h => h.resolveStation n) _ h

theorem Notified.grantOpportunity : Notified s (grantOpportunity t) := by
  cases ho : grantOpen t with
  | false => rwa [grantOpportunity_of_closed ho]
  | true =>
    obtain ⟨u, hu, hc⟩ := grantOpportunity_open ho
    have hn : Notified s u := by rcases hu with rfl | rfl <;> exact h.parts (by simp)
    rcases hc with ⟨g, he⟩ | ⟨he, -⟩ <;> rw [he]
    · exact hn.resolveHeads.parts ⟨rfl, rfl⟩
    · exact hn.resolveHeads

theorem Notified.pressSend (n : Quad) : Notified s (pressSend n t) := by
  unfold Machine.pressSend takeSend
  dsimp only
  split
  · split
    · refine Notified.guarded ?_ _ (Notified.wake ?_) <;> exact h.parts (by simp)
    · exact h.parts (by simp)
  · exact h

/-- None of the notices that a completion queues is an INTERLOCK notice: they tell of the admission. -/
theorem Notified.completeSpur (n : Quad) (e : RackId) (k : Kind) (p : Snapshot) : Notified s (completeSpur n e k p t) := by
  have checked (id : RackId) (o : IdSource) (v : Bool) : Notified s (presenceCheck n id o v t).state := h.parts (by simp)
  have placed {x : RackId} {r : TrackRecord} {u : State} (hu : Notified s u) :
      Notified s (removeHead n ((Machine.sendAdmission n x e k u).1.setPosition 0 (some r))) :=
    (hu.sendAdmission n x e k).parts ⟨rfl, rfl⟩
  unfold Machine.completeSpur
  dsimp only
  refine Notified.enqueueAll (placed (checked ..)) fun x hx => ?_
  obtain ⟨a, -, rfl⟩ := List.mem_map.mp hx
  rfl

theorem Notified.completeTransfer : Notified s (completeTransfer t) := by
  have hs : Notified s (stopPusher t) := h.parts (by simp)
  have idle {u : State} (hu : Notified s u) : Notified s (Machine.dueEvaluation (mergeIdle u)) :=
    Notified.dueEvaluation (hu.parts ⟨rfl, rfl⟩)
  unfold Machine.completeTransfer
  dsimp only
  split
  · next n e k p _ => exact (idle (hs.completeSpur n e k p)).parts (by simp)
  · exact idle (hs.parts (by simp))
  · exact hs.parts (by simp)

theorem Notified.resolveTransfer : Notified s (resolveTransfer t) := by
  unfold Machine.resolveTransfer
  split
  · exact h.completeTransfer
  · exact h.parts (by simp)

theorem Notified.settleJam : Notified s (settleJam t).1 := by
  have h0 : Notified s (emptyTags t) := h.parts (by simp)
  unfold Machine.settleJam
  dsimp only
  split
  · exact h0.parts (by simp)
  · split
    · exact h0.completeTransfer
    · split
      · exact h0.parts (by simp)
      · split
        · exact h0.parts (by simp)
        · exact h0.parts (by simp [mergeIdle])

/-! ### The return -/

theorem Notified.completeConfirm : Notified s (completeConfirm t) := by
  unfold Machine.completeConfirm
  split
  · exact h
  · exact Notified.dueEvaluation (h.parts (by simp))

theorem Notified.confirmOldest : Notified s (confirmOldest t) := by
  unfold Machine.confirmOldest
  split
  · exact h.completeConfirm
  · exact h.parts (by simp)

theorem Notified.pressUnload : Notified s (pressUnload t) := by
  unfold Machine.pressUnload
  split
  · exact h
  · exact h.unless _ h.confirmOldest

theorem Notified.requestReleaseQuarantine (a : Byte) : Notified s (requestReleaseQuarantine a t).1 := by
  unfold Machine.requestReleaseQuarantine
  split
  · exact h
  · split
    · exact h
    · split
      · exact h
      · split
        · exact Notified.confirmOldest (h.parts (by simp))
        · unfold releaseRewash
          (repeat' split)
          · exact h
          · exact h
          · exact Notified.dueEvaluation (h.parts (by simp))

theorem Notified.completePending : Notified s (completePending t) := h.guarded _ h.completeConfirm

theorem Notified.arrive (r : TrackRecord) : Notified s (arrive r t) := by
  have hl : Notified s (routerLookup r.id t).1 := h.parts (by simp)
  have routed (route : Route) : Notified s (routeHead r route (routerLookup r.id t).1) := by
    refine Notified.completePending ?_
    exact hl.parts (by simp [leaveTransit])
  unfold Machine.arrive
  dsimp only
  split
  · refine Notified.completePending (Notified.notice ?_ rfl)
    exact hl.parts (by simp [leaveTransit])
  · split
    · exact (routed .surplus).parts (by simp)
    · exact routed _
    · exact Notified.notice (hl.parts (by simp)) rfl

theorem Notified.tryArrival : Notified s (tryArrival t) := by
  unfold Machine.tryArrival
  split
  · split
    · exact h.arrive _
    · exact h
  · exact h

theorem Notified.retryHeld : Notified s (retryHeld t) := by
  have hleft : Notified s (Machine.completePending (leaveTransit t)) := Notified.completePending (h.parts (by simp))
  unfold Machine.retryHeld
  split
  · split
    · exact hleft.parts (by simp [routeHeld])
    · exact h
  · exact h

theorem Notified.prompt : Notified s (prompt t) := by
  have hoffer : Notified s (offerFeed (Machine.retryHeld t)).1 := h.retryHeld.parts (by simp)
  unfold Machine.prompt
  dsimp only
  split
  · exact h
  · split
    · exact hoffer.retryHeld
    · exact hoffer

theorem Notified.arrivalSensor (before made : Bool) : Notified s (arrivalSensor before made t) := by
  unfold Machine.arrivalSensor arrivalMade
  split
  · split
    · exact h.notice rfl
    · exact h.tryArrival
  · exact h

theorem Notified.travelEnds (i : Nat) : Notified s (travelEnds i t) := by
  unfold Machine.travelEnds
  split
  · split
    · exact Notified.tryArrival (h.parts (by simp))
    · exact h
  · exact h

theorem Notified.spacingEnds : Notified s (spacingEnds t) := Notified.tryArrival (h.parts ⟨rfl, rfl⟩)

/-! ### The interlock group and the timers -/

theorem Notified.changeEstop (o : Bool) : Notified s (changeEstop o t) := by
  unfold Machine.changeEstop
  dsimp only
  split
  · exact h
  · have hlive : Notified s (setLive { t.interlock.live with estop := o } t) := h.parts (by simp)
    refine Notified.reportChange ?_
    split
    · exact hlive.trackOpening.parts (by simp [returnOpening])
    · exact Notified.tryArrival (Notified.prompt (hlive.parts (by simp)))

theorem Notified.changeDoor (o : Bool) : Notified s (changeDoor o t) := by
  unfold Machine.changeDoor
  dsimp only
  split
  · exact h
  · have hlive : Notified s (setLive { t.interlock.live with door := o } t) := h.parts (by simp)
    refine Notified.reportChange ?_
    split
    · exact hlive.trackOpening.parts (by simp)
    · exact hlive

theorem Notified.changeRinse (o : Bool) : Notified s (changeRinse o t) := by
  unfold Machine.changeRinse
  split
  · exact h
  · exact Notified.reportChange (h.parts (by simp))

theorem Notified.changeTank (o : Bool) : Notified s (changeTank o t) := by
  unfold Machine.changeTank
  split
  · exact h
  · exact Notified.reportChange (Notified.dueEvaluation (h.parts (by simp)))

theorem Notified.releaseGroup : Notified s (releaseGroup t) := by
  have hr : Notified s { t with interlock := { t.interlock with latched := false } } := h.parts (by simp)
  unfold Machine.releaseGroup
  split
  · exact hr.unless _ (hr.latch _)
  · exact h

theorem Notified.idleExpiry : Notified s (idleExpiry t) := by
  have hi : Notified s { t with interlock := { t.interlock with idle := .idle } } := h.parts (by simp)
  exact hi.guarded _ hi.enterStandby

theorem Notified.recoveryExpiry : Notified s (recoveryExpiry t) := by
  have hi : Notified s { t with interlock := { t.interlock with recovery := .idle } } := h.parts (by simp)
  exact hi.guarded _ hi.completeRecovery

theorem Notified.limitExpiry : Notified s (limitExpiry t) := by
  have hi : Notified s { t with interlock := { t.interlock with limit := .idle } } := h.parts (by simp)
  exact hi.guarded _ (Notified.notice (hi.parts ⟨rfl, rfl⟩) rfl)

theorem Notified.indexMade : Notified s (indexMade t) := by
  unfold Machine.indexMade
  split
  · exact h.completeMotion.stateAfterCompletion
  · exact h

theorem Notified.motionExpiry : Notified s (motionExpiry t) := h.guarded _ (Notified.enterJam (h.parts (by simp)) _ _)

theorem Notified.transferExpiry : Notified s (transferExpiry t) := by
  have hs : Notified s (stopPusher { t with merge := { t.merge with state := .jammed } }) := h.parts (by simp)
  unfold Machine.transferExpiry jamTransfer
  dsimp only
  split
  · split
    · exact hs.enterJam _ _
    · exact hs
  · exact h

theorem Notified.tagByte (b : Byte) : Notified s (tagByte b t) := h.parts (by simp)

theorem Notified.deliveryExpiry (n : Quad) (i : Nat) : Notified s (deliveryExpiry n i t) := by
  unfold Machine.deliveryExpiry
  split
  · split
    · exact h.parts (by simp)
    · exact h
  · exact h

/-! ### Requests -/

theorem Notified.requestRun : Notified s (requestRun t).1 := by
  unfold Machine.requestRun
  split
  · exact h
  · have hl : Notified s { t with programmes := { t.programmes with lock := true } } := h.parts (by simp)
    exact Notified.runMove (hl.guarded _ hl.resolveTransfer)

theorem Notified.requestHalt : Notified s (requestHalt t).1 := by
  unfold Machine.requestHalt
  dsimp only
  split
  case h_1 => exact h
  case h_2 | h_3 => exact h.parts (by simp)
  case h_9 =>
    split
    · exact Notified.enterState (h.parts (by simp)) _
    · exact h.parts (by simp)
  all_goals
    refine Notified.enterState ?_ _
    exact h.parts ⟨rfl, rfl⟩

theorem Notified.requestStandby : Notified s (requestStandby t).1 := by
  unfold Machine.requestStandby
  split
  · exact h.enterStandby
  · exact h

theorem Notified.requestPurge : Notified s (requestPurge t).1 := by
  unfold Machine.requestPurge
  split
  · exact Notified.enterState (h.parts (by simp)) _
  · exact h

theorem Notified.leaveFault : Notified s (leaveFault t) := (h.enterState _).setJam _

theorem Notified.requestClearFault : Notified s (requestClearFault t).1 := by
  have hf : Notified s { t with track := { t.track with fault := none } } := h.parts (by simp)
  unfold Machine.requestClearFault
  dsimp only
  split
  · split
    · exact h
    · split
      · exact hf.completeMotion.leaveFault
      · exact hf.leaveFault
  · split
    · exact h
    · exact hf.settleJam.leaveFault
  · exact hf.enterState _
  · exact h

theorem Notified.requestSetStationPrompted (n m k : Byte) : Notified s (requestSetStationPrompted n m k t).1 := by
  have hset : Notified s (requestSetStation n m k t).1 := h.parts (by simp)
  unfold Machine.requestSetStationPrompted
  dsimp only
  split
  · exact hset.prompt
  · exact hset

theorem Notified.requestForceProgramme (n p : Byte) : Notified s (requestForceProgramme n p t).1 := by
  unfold Machine.requestForceProgramme
  dsimp only
  split
  · exact h
  · split
    · exact h
    · split
      · exact h
      · split
        · exact h
        · split
          · exact h
          · exact Notified.resolveStation (h.parts (by simp)) _

theorem Notified.requestPutRecord (i : RackId) (k : Byte) (w : Half) (sh : Byte) (d : Half) :
    Notified s (requestPutRecord i k w sh d t).1 := by
  unfold Machine.requestPutRecord
  dsimp only
  split
  · exact h
  · split
    · exact h
    · split
      · split
        · exact h.parts (by simp)
        · split
          · exact h.parts (by simp)
          · exact h
      · split
        · next ha => exact h.allocate ha
        · exact h

/-- Every request but SET_NOTIFY, which sets the mask, leaves the link to its block's notices. -/
theorem Notified.executeRequest {r : Request} (hr : ∀ m, r ≠ .setNotify m) : Notified s (executeRequest r t).1 := by
  cases r with
  | setNotify m => exact absurd rfl (hr m)
  | run => exact h.requestRun
  | halt => exact h.requestHalt
  | standby => exact h.requestStandby
  | clearFault => exact h.requestClearFault
  | purge => exact h.requestPurge
  | setStation n m k => exact h.requestSetStationPrompted n m k
  | forceProgramme n p => exact h.requestForceProgramme n p
  | releaseQuarantine a => exact h.requestReleaseQuarantine a
  | putRecord i k w sh d => exact h.requestPutRecord i k w sh d
  | flushDirectory => exact h.flushFrom directoryPlaces
  | releaseInterlocks => exact h.releaseGroup
  | _ => exact h.parts (by simp [Machine.executeRequest])

/-! ### The end of a start-up and of a command -/

theorem Notified.latchAtStart : Notified s (latchAtStart t) := Notified.interlock (h.parts ⟨rfl, rfl⟩) rfl

theorem Notified.motionResolved : Notified s (motionResolved t) := by
  have hext : Notified s (restartExtension (fixPeriod t)) := by
    unfold restartExtension
    split <;> exact h.parts ⟨rfl, rfl⟩
  unfold Machine.motionResolved resolveMotion
  split
  · exact hext
  · split
    · exact hext.completeMotion
    · exact hext.parts ⟨rfl, rfl⟩

theorem Notified.resolveCarried : Notified s (resolveCarried t).1 := by
  unfold Machine.resolveCarried
  split
  · exact h
  · exact h.resolveTransfer
  · exact h.resolveTransfer
  · exact h.settleJam

theorem Notified.restartTrack : Notified s (restartTrack t) := by
  have hr := h.motionResolved.resolveCarried
  unfold Machine.restartTrack
  dsimp only
  split
  · exact hr.notice rfl
  · exact hr

theorem Notified.restartReturn : Notified s (restartReturn t) := by
  have hp : Notified s (Machine.prompt (timersRestarted t)) := Notified.prompt (h.parts (by simp))
  rw [restartReturn_eq]
  split
  · exact hp.notice rfl
  · exact hp

theorem Notified.strayAtStart : Notified s (strayAtStart t) := h.guarded _ (h.notice rfl)

/-- What follows a command on the track, the merge and the idle timer (R7, R92, R161). -/
theorem Notified.followed (b : State) :
    Notified s (idleTimerHook b (Machine.grantOpportunity (Machine.dueEvaluation t))) :=
  h.dueEvaluation.grantOpportunity.parts (by simp)

end

/-- Once the part works the end of a start-up does to the link what the blocks do (R176, R177). -/
theorem notified_endStartUp (s : State) : Notified { s with phase := .running } (endStartUp s) := by
  have h0 : Notified { s with phase := .running } { s with phase := .running, settle := .idle } :=
    Notified.refl.parts ⟨rfl, rfl⟩
  have hl : Notified { s with phase := .running } (groupLatched s) := Notified.latchAtStart (h0.notice rfl)
  have ht : Notified { s with phase := .running } (trackRestarted s) := hl.guarded _ hl.restartTrack
  have hh : Notified { s with phase := .running } (headsRead s) := ht.parts (by simp [headsRead])
  have hr : Notified { s with phase := .running } (returnRestarted s) := by
    unfold returnRestarted
    split
    · exact hh.restartReturn
    · exact hh.strayAtStart
  rw [endStartUp_eq]
  exact hr.parts ⟨rfl, rfl⟩

end Sys2Proof.Machine
end

section
namespace Sys2Proof.Machine
open Sys2Proof

/-! ### What the link does itself (R181, R182) -/

/-- What holds of the link while it acts, also when the slot has just emptied and the next request has not yet been taken. -/
structure LinkSteady (s : State) : Prop where
  notices : NoticesSound s.link
  mask : s.link.mask &&& 0xFE21#16 = 0x0021#16
  places : s.link.buffer.length ≤ Config.requestPlaces
  starting : s.phase ≠ .running → ∀ w ∈ s.link.buffer, w.starting = true
  sending : s.link.transmitter = .reply → s.link.reply ≠ none
  crcErrors : s.link.crcErrors ≤ 65535
  framingErrors : s.link.framingErrors ≤ 65535
  overflows : s.link.overflows ≤ 65535

/-- What holds of the link before the transmitter has made its choice: no request waits for an empty slot (R182). -/
structure LinkTidy (s : State) : Prop extends LinkSteady s where
  taken : s.link.reply = none → s.link.buffer = []

/-- The invariant is that of a link between its actions, with a transmitter that has made its choice (R185). -/
theorem linkSound_iff {s : State} : LinkSound s ↔
    LinkTidy s ∧ (s.link.transmitter = .idle → s.link.reply = none ∧ s.link.notices = []) := by
  constructor
  · rintro ⟨places, sorted, single, waiting, taken, starting, chosen, sending, mask, crc, framing, overflows, discarded⟩
    exact ⟨⟨⟨⟨places, sorted, single, discarded⟩, mask, waiting, starting, sending, crc, framing, overflows⟩, taken⟩,
      chosen⟩
  · rintro ⟨⟨⟨⟨places, sorted, single, discarded⟩, mask, waiting, starting, sending, crc, framing, overflows⟩, taken⟩,
      chosen⟩
    exact ⟨places, sorted, single, waiting, taken, starting, chosen, sending, mask, crc, framing, overflows, discarded⟩

theorem LinkSound.tidy {s : State} (h : LinkSound s) : LinkTidy s := (linkSound_iff.mp h).1

/-- Once a part works a buffered request may be without the mark (R176). -/
theorem LinkSound.congr {s t : State} (h : LinkSound s) (link : t.link = s.link)
    (phase : t.phase ≠ .running → s.phase ≠ .running) : LinkSound t := by
  unfold LinkSound at *
  rw [link]
  obtain ⟨places, sorted, single, waiting, taken, starting, rest⟩ := h
  exact ⟨places, sorted, single, waiting, taken, fun hp => starting (phase hp), rest⟩

theorem LinkTidy.congr {s t : State} (h : LinkTidy s) (link : t.link = s.link)
    (phase : t.phase ≠ .running → s.phase ≠ .running) : LinkTidy t := by
  obtain ⟨⟨notices, mask, places, starting, sending, crc, framing, overflows⟩, taken⟩ := h
  rw [← link] at *
  exact ⟨⟨notices, mask, places, fun hp => starting (phase hp), sending, crc, framing, overflows⟩, taken⟩

theorem LinkSteady.notified {s t : State} (h : LinkSteady s) (ht : Notified s t) : LinkSteady t := by
  obtain ⟨phase, buffer, reply, transmitter, mask, crc, framing, overflows⟩ := ht.frame
  refine ⟨ht.noticesSound h.notices, ?_, ?_, ?_, ?_, ?_, ?_, ?_⟩
  · exact mask ▸ h.mask
  · exact buffer ▸ h.places
  · rw [phase, buffer]; exact h.starting
  · rw [transmitter, reply]; exact h.sending
  · exact crc ▸ h.crcErrors
  · exact framing ▸ h.framingErrors
  · exact overflows ▸ h.overflows

theorem LinkTidy.notified {s t : State} (h : LinkTidy s) (ht : Notified s t) : LinkTidy t := by
  obtain ⟨-, buffer, reply, -⟩ := ht.frame
  exact ⟨h.toLinkSteady.notified ht, by rw [buffer, reply]; exact h.taken⟩

/-- The mask that SET_NOTIFY stores has bits 0 and 5 set and bits 9 to 15 clear (R188). -/
theorem storedMask_fixed_bits (m : Half) : storedMask m &&& 0xFE21#16 = 0x0021#16 := by
  have hfree : (0x01DE#16 &&& 0xFE21#16 : Half) = 0#16 := by decide
  have hset : (0x0021#16 &&& 0xFE21#16 : Half) = 0x0021#16 := by decide
  rw [storedMask, BitVec.and_or_distrib_right, BitVec.and_assoc, hfree, hset, BitVec.and_zero, BitVec.zero_or]

section
variable {s : State} (h : LinkSteady s)
include h

theorem LinkSteady.perform (w : Waiting) : LinkSteady (perform w s).1 := by
  have hset (m : Half) : LinkSteady (requestSetNotify m s).1 := by
    unfold requestSetNotify
    split
    · exact h
    · exact { h with mask := storedMask_fixed_bits m, notices := { h.notices with } }
  unfold Machine.perform
  split
  · cases hr : w.request with
    | setNotify m => exact hset m
    | _ => exact h.notified (Notified.refl.executeRequest nofun)
  · exact h

/-- The oldest request is taken as soon as the slot is empty, so none waits for it (R182). -/
theorem LinkSteady.executeOldest : LinkTidy (executeOldest s) := by
  unfold Machine.executeOldest
  cases hr : s.link.reply with
  | some r => exact ⟨h, fun hn => by rw [hr] at hn; cases hn⟩
  | none =>
    cases hb : s.link.buffer with
    | nil => exact ⟨h, fun _ => hb⟩
    | cons w rest =>
      have htaken : LinkSteady { s with link := { s.link with buffer := rest } } := by
        have hplaces := h.places
        have hstarting := h.starting
        rw [hb] at hplaces hstarting
        exact { h with
          places := (Nat.le_succ _).trans hplaces
          starting := fun hp x hx => hstarting hp x (List.mem_cons_of_mem _ hx)
          notices := { h.notices with } }
      have hp := htaken.perform w
      exact ⟨{ hp with sending := nofun, notices := { hp.notices with } }, nofun⟩

end

section
variable {s : State} (h : LinkTidy s)
include h

theorem LinkTidy.submit (r : Request) : LinkTidy (submit r s) := by
  unfold Machine.submit
  split
  · next hroom =>
    refine LinkSteady.executeOldest ?_
    refine { h with places := ?_, starting := fun hp w hw => ?_, notices := { h.notices with } }
    · simpa using hroom
    · rcases List.mem_append.mp hw with hw | hw
      · exact h.starting hp w hw
      · rw [List.mem_singleton.mp hw]
        simpa [State.isRunning] using hp
  · exact { h with overflows := Nat.min_le_left .., notices := { h.notices with } }

/-- The receive assembly and its timer are no part of the invariant. -/
theorem LinkTidy.receiving (a : List Byte) (g : Timer) : LinkTidy { s with link := { s.link with assembly := a, gap := g } } :=
  { h with notices := { h.notices with } }

theorem LinkTidy.setAssembly (a : List Byte) : LinkTidy (setAssembly a s) := h.receiving a s.link.gap

theorem LinkTidy.countFraming : LinkTidy (countFraming s) :=
  { h with framingErrors := Nat.min_le_left .., notices := { h.notices with } }

theorem LinkTidy.countCrc : LinkTidy (countCrc s) :=
  { h with crcErrors := Nat.min_le_left .., notices := { h.notices with } }

theorem LinkTidy.takeByte (b : Byte) : LinkTidy (takeByte b s).1 := by
  unfold Machine.takeByte
  dsimp only
  split
  case h_1 =>
    dsimp only
    split
    · exact h.setAssembly _
    · exact h
  case h_4 =>
    split
    · exact (h.setAssembly _).countFraming
    · exact h.setAssembly _
  case h_5 =>
    split
    · exact h.setAssembly _
    · split
      · exact (h.setAssembly _).submit _
      · exact (h.setAssembly _).countCrc
  all_goals exact h.setAssembly _

theorem LinkTidy.takeBytes (fuel : Nat) (q : List Byte) : LinkTidy (takeBytes fuel q s) := by
  induction fuel generalizing q s with
  | zero => exact h
  | succ fuel ih =>
    cases q with
    | nil => exact h
    | cons b rest => exact ih (h.takeByte b) _

theorem LinkTidy.receiveByte (b : Byte) (high : Bool) : LinkTidy (receiveByte b high s) := by
  unfold Machine.receiveByte
  split
  · exact LinkTidy.takeBytes (h.receiving s.link.assembly _) _ _
  · split
    · exact h
    · exact (h.receiving [] .idle).countFraming

theorem LinkTidy.receiveGap : LinkTidy (receiveGap s) := by
  unfold Machine.receiveGap
  dsimp only
  split
  · exact h.receiving s.link.assembly .idle
  · exact (h.receiving [] .idle).countFraming

/-- The transmitter's choice leaves nothing to choose (R185). -/
theorem LinkTidy.chooseMessage : LinkSound (chooseMessage s) := by
  refine linkSound_iff.mpr ?_
  unfold Machine.chooseMessage
  cases ht : s.link.transmitter with
  | reply | notice => exact ⟨h, fun hi => by rw [ht] at hi; cases hi⟩
  | idle =>
    cases hr : s.link.reply with
    | some r =>
      have hslot : s.link.reply ≠ none := by rw [hr]; nofun
      exact ⟨{ h with sending := fun _ => hslot, notices := { h.notices with } }, nofun⟩
    | none =>
      cases hn : s.link.notices with
      | nil => exact ⟨h, fun _ => ⟨hr, hn⟩⟩
      | cons n rest =>
        obtain ⟨places, sorted, single, discarded⟩ := h.notices
        rw [hn] at places sorted single
        refine ⟨{ h with sending := nofun, notices := ⟨?_, sorted.tail, ?_, discarded⟩ }, nofun⟩
        · exact (Nat.le_succ _).trans places
        · exact ((List.sublist_cons_self ..).countP_le).trans single

theorem LinkTidy.conclude (b : State) : LinkSound (conclude b s) := by
  unfold Machine.conclude
  split
  · exact (h.notified (Notified.refl.followed b)).chooseMessage
  · exact h.chooseMessage

theorem LinkTidy.guarded (c : Prop) [Decidable c] {f : State → State} (hf : LinkTidy (f s)) :
    LinkTidy (if c then f s else s) := by
  split
  · exact hf
  · exact h

/-- An event of the plant or of a timer reaches the link by notices alone. -/
theorem LinkTidy.event {b : State} {f : State → State} (hf : Notified s (f s)) :
    LinkSound (Machine.conclude b (whenRunning f s)) := LinkTidy.conclude (h.guarded _ (h.notified hf)) b

theorem LinkTidy.linked {b : State} {f : State → State} (hf : LinkTidy (f s)) :
    LinkSound (Machine.conclude b (whenLinked f s)) := LinkTidy.conclude (h.guarded _ hf) b

end

/-! ### Resets (R174, R175, R191) -/

/-- A reset leaves a link that holds nothing, with its counters and mask fresh or kept. -/
theorem linkSound_of_cleared {s t : State} (h : LinkSteady s) (link : t.link = s.link.warm) : LinkSound t := by
  obtain ⟨notices, mask, -, -, -, crc, framing, overflows⟩ := h
  unfold LinkSound
  rw [link]
  exact ⟨Nat.zero_le _, .nil, Nat.zero_le _, Nat.zero_le _, fun _ => rfl, nofun, fun _ => ⟨rfl, rfl⟩, nofun, mask, crc,
    framing, overflows, notices.discarded⟩

theorem linkSound_of_fresh {s : State} (link : s.link = .fresh) : LinkSound s :=
  linkSound_of_cleared linkSound_reset.tidy.toLinkSteady link

theorem holdOrBegin_link (s : State) : (holdOrBegin s).link = s.link := by
  unfold holdOrBegin beginStartUp
  split
  · rfl
  · split <;> rfl

theorem linkSound_coldReset (k : ResetKind) (c : ResetCause) (s : State) : LinkSound (coldReset k c s) :=
  linkSound_of_fresh (holdOrBegin_link _)

section
variable {s : State} (h : LinkSteady s)
include h

theorem LinkSteady.warmReset (c : ResetCause) : LinkSound (warmReset c s) := by
  refine linkSound_of_cleared h ?_
  unfold Machine.warmReset
  dsimp only
  split
  · rfl
  · exact holdOrBegin_link _

theorem LinkSteady.requestedReset (k : ResetKind) : LinkSound (requestedReset k s) := by
  unfold Machine.requestedReset
  split
  · exact h.warmReset _
  · exact linkSound_coldReset _ _ _

end

/-- The slot that a sent reply leaves empty takes the next request, or the reset that the reply asked for is taken (R175,
R182). -/
theorem LinkTidy.endTransmission {s : State} (h : LinkTidy s) : LinkTidy (endTransmission s) := by
  have hidle : LinkSteady { s with link := { s.link with transmitter := .idle } } :=
    { h with sending := nofun, notices := { h.notices with } }
  unfold Machine.endTransmission
  dsimp only
  split
  · split
    · exact (hidle.requestedReset _).tidy
    · refine LinkSteady.executeOldest ?_
      exact { hidle with sending := nofun, notices := { h.notices with } }
  · exact ⟨hidle, h.taken⟩

section
variable {s : State} (h : LinkSound s)
include h

theorem LinkSound.assertCold : LinkSound (assertCold s) := by
  unfold Machine.assertCold
  dsimp only
  split
  · exact h.congr rfl id
  · exact linkSound_coldReset _ _ _

theorem LinkSound.assertWarm : LinkSound (assertWarm s) := by
  have hl : LinkSound { s with warmLine := true } := h.congr rfl id
  unfold Machine.assertWarm
  dsimp only
  split
  · exact hl
  · exact hl.tidy.warmReset _

theorem LinkSound.releaseLine (l : RestartLine) : LinkSound (releaseLine l s) := by
  have begun {u : State} (hl : u.link = s.link) (hp : u.phase = s.phase) :
      LinkSound (if s.phase = .held && !lineAsserted u then beginStartUp u else u) := by
    split
    · next hc =>
      simp only [Bool.and_eq_true, decide_eq_true_eq] at hc
      obtain ⟨hheld, -⟩ := hc
      refine h.congr ?_ fun _ => by rw [hheld]; nofun
      unfold beginStartUp
      split <;> exact hl
    · exact h.congr hl (by rw [hp]; exact id)
  cases l <;> exact begun rfl rfl

theorem LinkSound.completeProfileRead (img : List Byte) : LinkSound (completeProfileRead img s) := by
  unfold Machine.completeProfileRead
  split
  · next hp =>
    refine h.congr ?_ fun _ => by rw [hp]; nofun
    unfold loadProfile
    dsimp only
    split <;> rfl
  · exact h

/-- A part that begins to work takes the requests that wait with their marks (R176). -/
theorem LinkSound.endStartUp : LinkTidy (endStartUp s) := by
  have hrunning : LinkTidy { s with phase := .running } := h.tidy.congr rfl fun hp => absurd rfl hp
  exact hrunning.notified (notified_endStartUp s)

/-! ### Commands and steps -/

/-- Every command keeps the link sound. -/
theorem LinkSound.exec {c : Instr} {t : State} (he : exec c s = .next t) : LinkSound t := by
  have noted (p : Plant) : LinkSound (s.sense p) := h.congr rfl id
  have sensed (p : Plant) : LinkTidy (s.sense p) := (noted p).tidy
  have withInputs (i : Inputs) : LinkTidy { s with inputs := i } := h.tidy.congr rfl id
  have h0 := h.tidy
  have r {u : State} : Notified u u := .refl
  cases hq : requestOf c with
  | some q =>
    rw [exec_request hq] at he
    obtain rfl := Host.Outcome.next.inj he
    have hw : LinkTidy (withReadings c s) := h0.congr (by simp) (by simp)
    exact hw.linked (hw.submit q)
  | none =>
    cases c <;> try (cases hq; done)
    all_goals clear hq; obtain rfl := Host.Outcome.next.inj he; clear he
    case supervisoryByteReceived b high p => exact (sensed p).linked ((sensed p).receiveByte b high)
    case receiveGapExpiry => exact h0.linked (h0.guarded _ h0.receiveGap)
    case transmitComplete p => exact (sensed p).linked (sensed p).endTransmission
    case powerOnReset => exact linkSound_coldReset _ _ _
    case supplyBelowOperatingLevel => exact linkSound_of_fresh rfl
    case coldRestartLine => exact h.assertCold
    case warmRestartLine => exact h.assertWarm
    case restartLineReleased x => exact h.releaseLine x
    case profileReadComplete image => exact h.completeProfileRead image
    case endOfStartUp p =>
      split
      · exact (noted p).endStartUp.conclude s
      · exact noted p
    case tagByteReceived b => exact h0.event (r.tagByte b)
    case tagGapExpiry => exact h0.event (r.guarded _ (f := tagAbandon) (r.parts ⟨rfl, rfl⟩))
    case stepTimerExpiry => exact h0.event (r.guarded _ (f := stepFallsDue) (r.parts ⟨rfl, rfl⟩))
    case stepCompletion p => exact (sensed _).event r.indexMade
    case motionTimeout => exact h0.event (r.guarded _ r.motionExpiry)
    case extensionExpiry => exact h0.event (r.guarded _ (f := extensionEnds) (r.parts ⟨rfl, rfl⟩))
    case idleTimerExpiry => exact h0.event (r.guarded _ r.idleExpiry)
    case recoveryTimerExpiry => exact h0.event (r.guarded _ r.recoveryExpiry)
    case recoveryLimitExpiry => exact h0.event (r.guarded _ r.limitExpiry)
    case estopChainChange o => exact (withInputs _).event (r.changeEstop o)
    case doorChainChange o => exact (withInputs _).event (r.changeDoor o)
    case rinseFlowChange o => exact (withInputs _).event (r.changeRinse _)
    case tankLevelChange o => exact (withInputs _).event (r.changeTank o)
    case sampleCycleExpiry => exact h0.event (r.guarded _ (f := startSample) (r.parts ⟨rfl, rfl⟩))
    case conversionAComplete a => exact h0.event (r.conversionA a)
    case conversionBComplete a => exact h0.event (r.conversionB a)
    case stackLift n => exact h0.event (r.guarded _ (f := liftStack n) (Notified.prompt (r.parts (by simp))))
    case sendButton n p => exact (sensed p).event (r.guarded _ (r.pressSend n))
    case spurFullTimerExpiry n => exact h0.event (r.guarded _ (f := spurFullOut n) (r.parts ⟨rfl, rfl⟩))
    case spurHeadMade n p => exact (sensed _).event (r.guarded _ (r.unless _ (f := profileHead n) (r.parts (by simp))))
    case spurHeadClear n => exact (sensed _).event (r.guarded _ (r.unless _ (f := withdrawHead n) (r.parts (by simp))))
    case deliveryCompletion n i => exact h0.event (r.deliveryExpiry n i)
    case transferCompletion p => exact (sensed _).event (r.guarded _ r.completeTransfer)
    case transferTimeout => exact h0.event (r.guarded _ r.transferExpiry)
    case unloadButton => exact h0.event r.pressUnload
    case travelTimerExpiry i => exact h0.event (r.unless _ (r.travelEnds i))
    case spacingTimerExpiry => exact h0.event (r.unless _ (r.guarded _ r.spacingEnds))
    case routerArrivalSensor o => exact (withInputs _).event (r.arrivalSensor _ o)

/-- Of the link 10 ms reach the gap timer alone, which is no part of the invariant. -/
theorem LinkSound.tick : LinkSound (tick s) := by
  unfold Machine.tick
  split <;> exact h

end

/-- Settles O13, command by command: the blocks queue notices and no more, the link takes a request as soon as its slot is
empty, the transmitter's choice ends every command, and a reset empties the link. -/
theorem linkSoundIsKept : Obligations.LinkSoundIsKept := by
  intro s t h hs
  rcases step_cases hs with ⟨c, q, n, he⟩ | rfl
  · have hw : LinkSound { s with pending := q, choices := n } := h.congr rfl id
    exact hw.exec he
  · exact h.tick

end Sys2Proof.Machine
end
